-- ==== Sys2Proof/Word.lean ====
section
/-! DEFINITION. The word types of the model (spec R2, R3, R7): bytes, 64-bit control and capsule words,
register numbers of a Smiga instruction word, and the association lists that hold sparse state. -/

namespace Sys2Proof

/-- A byte; a multi-byte field has its least significant byte at the lowest address (R3). -/
abbrev Byte := BitVec 8

/-- A 64-bit word: a control word, a capsule quadword, a g register. -/
abbrev U64 := BitVec 64

/-- Sparse data by key: pairs of a key and a value. The operations over it keep the keys rising. -/
abbrev SMap (α : Type) := List (Nat × α)

/-- Bytes of one 64 B line, granule and buffer unit (R2). -/
abbrev lineBytes : Nat := 64

/-- Bytes of one granule, 64 KiB (R2). -/
abbrev granBytes : Nat := 65536

end Sys2Proof
end

