-- ==== Sys2Proof/Config.lean ====
section
/-! DEFINITION. What the spec leaves open as a value (free values: constants without a body, so that nothing can be proved
of them) and the functions of the security core, of which the spec gives the name of the standard only. -/

namespace Sys2Proof.Config

/-- A fresh unconstrained 64-bit value: the `n`-th that a step has drawn (State.fv counts them). -/
opaque freeValue : Nat → U64

/-- srtt and rttvar in ns after a sample of the round trip (R90), from those before it; the spec gives no formula. -/
opaque smoothRtt : Option (Nat × Nat) → Nat → Nat × Nat

/-- Ed448 verification (R411, R414): public key, message, signature. -/
opaque ed448Verify : List Byte → List Byte → List Byte → Bool

/-- Ed448 signature by the device identity key (R417, R427): the message. -/
opaque ed448Sign : List Byte → List Byte

/-- Blocks of a flash die (R329: a die whose failures exceed 1 % of its blocks is retired); the spec gives no number. -/
opaque blocksPerDie : Nat

/-- The die (16 × channel + die) that holds the home of a granule; the spec leaves the placement to wear levelling (R327). -/
opaque homeDie : Nat → Nat

/-- The flash channels of a tile's bytes and of a block; the spec leaves the placement open (R326, R327). -/
opaque tileChan : Nat → Nat → Nat → Nat
opaque blockChan : Nat → Nat

/-- Blocks of the save area; how many blocks hold homes and how many the save area has; the GiB of the save area on a die (R327, R329); the
spec gives no numbers. -/
opaque saveBlock : Nat → Bool
opaque homeBlocks : Nat
opaque saveBlocks : Nat
opaque saveShare : Nat → Nat

/-- The fused unique secret (R409). -/
opaque uniqueSecret : List Byte

/-- The metadata records of an image by IMAGE_SEQ: their headers and their size; their layout is not architectural (R340, R342). -/
opaque metaHeaders : Nat → List Byte
opaque metaBytes : Nat → Nat

/-- The channel of a device line; the spread of lines over the subchannels is not architectural (R301). -/
opaque chanOf : Nat → Nat

/-- Whether an access to a granule needs a line of the reserved area; the tables' layout is not given (R301, R307). -/
opaque tableNeeds : Nat → Nat → Bool

/-- The key that sequence tables are signed with: the fused table key, or the vendor root key where none is fused (R409). -/
opaque tableKey : List Byte

/-- The vendor root key (R409). -/
opaque vendorKey : List Byte

/-- The identity public key, derived from the fused secret (R409), and the vendor's signature over it. -/
opaque identityKey : List Byte
opaque identityCert : List Byte

/-- Natural logarithm, exponential and square root as the device computes them in its predictions (R434, R437). -/
opaque ln : Rat → Rat
opaque exp : Rat → Rat
opaque sqrt : Rat → Rat

/-- Slope and standard error of a fit whose samples all lie at one point of the axis; the spec states none (R434). -/
opaque fitSlope : List (Rat × Rat) → Rat
opaque fitError : List (Rat × Rat) → Rat

end Sys2Proof.Config
end

