-- ==== Sys2Proof/Machine/Maps.lean ====
section
/-! DEFINITION. The operations over sparse maps: association lists whose keys rise and which list no entry equal to what an
unlisted key reads as. Everything the model keeps sparsely (control words, memory, tables) goes through them. -/

namespace Sys2Proof

namespace SMap

/-- The value listed for a key. -/
def at? {α : Type} : SMap α → Nat → Option α
  | [], _ => none
  | (k', v) :: t, k => if k' = k then some v else at? t k

/-- The value a key reads as, `d` where it is not listed. -/
def get {α : Type} (m : SMap α) (d : α) (k : Nat) : α := (m.at? k).getD d

/-- Insert or replace at the place that keeps the keys rising. -/
def put {α : Type} : SMap α → Nat → α → SMap α
  | [], k, v => [(k, v)]
  | (k', v') :: t, k, v =>
    if k < k' then (k, v) :: (k', v') :: t
    else if k = k' then (k, v) :: t
    else (k', v') :: put t k v

/-- Remove a key. -/
def del {α : Type} (m : SMap α) (k : Nat) : SMap α := m.filter fun e => e.1 != k

/-- Write a key of a map whose unlisted keys read as `d`: writing `d` removes the entry. -/
def set {α : Type} [DecidableEq α] (m : SMap α) (d : α) (k : Nat) (v : α) : SMap α :=
  if v = d then m.del k else m.put k v

/-- Change a listed key; nothing happens to a key that is not listed. -/
def modify {α : Type} (m : SMap α) (k : Nat) (f : α → α) : SMap α :=
  m.map fun e => if e.1 = k then (e.1, f e.2) else e

/-- The values, in key order. -/
def vals {α : Type} (m : SMap α) : List α := m.map Prod.snd

/-- The keys rise strictly. -/
def sorted {α : Type} : SMap α → Bool
  | [] => true
  | [_] => true
  | (a, _) :: (b, v) :: t => decide (a < b) && sorted ((b, v) :: t)

/-- No entry equals what its key reads as when it is not listed. -/
def tight {α : Type} [DecidableEq α] (d : Nat → α) (m : SMap α) : Bool := m.all fun e => decide (e.2 ≠ d e.1)

/-- The canonical form. -/
def wf {α : Type} [DecidableEq α] (d : Nat → α) (m : SMap α) : Bool := m.sorted && m.tight d

end SMap

/-- The bytes of a number, least significant first (R3). -/
def toBytes : Nat → Nat → List Byte
  | 0, _ => []
  | n + 1, v => BitVec.ofNat 8 v :: toBytes n (v / 256)

/-- The number that bytes spell, least significant first (R3). -/
def ofBytes : List Byte → Nat
  | [] => 0
  | b :: t => b.toNat + 256 * ofBytes t

/-- The bits `hi` to `lo` of a number. -/
def bits (v hi lo : Nat) : Nat := (v >>> lo) % 2 ^ (hi + 1 - lo)

/-- A number with its bits `hi` to `lo` replaced by the low bits of `x`. -/
def setBits (v hi lo x : Nat) : Nat :=
  v - (bits v hi lo <<< lo) + ((x % 2 ^ (hi + 1 - lo)) <<< lo)

/-- Bit `i` of a number. -/
def bit (v i : Nat) : Bool := v.testBit i

/-- One bit as a number. -/
def b2n (b : Bool) : Nat := if b then 1 else 0

/-- Addition that saturates at the largest number of `w` bits. -/
def satAdd (w a b : Nat) : Nat := Nat.min (2 ^ w - 1) (a + b)

/-- The number whose set bits are the listed positions. -/
def maskOf : List Nat → Nat
  | [] => 0
  | i :: t => (1 <<< i) ||| maskOf t

/-- The positions below `n` of the set bits of a number, rising. -/
def bitsOf (n v : Nat) : List Nat := (List.range n).filter fun i => v.testBit i

/-- Division rounded up. -/
def ceilDiv (a b : Nat) : Nat := (a + b - 1) / b

end Sys2Proof
end

