-- ==== Sys2Proof/Machine/Crypto.lean ====
section
/-! DEFINITION. The standard functions of the security core whose values the spec takes by name (PRESUMED from the standards): SHAKE256
(R470) and AES-256-GCM (R206). -/

namespace Sys2Proof.Config

/-! SHAKE256. The state is 25 lanes of 64 bits; lane x + 5y stands at place x + 5y. -/

def rotLane (v n : Nat) : Nat := (v <<< n ||| v >>> (64 - n)) % 2 ^ 64
/-- The walk of rho and pi from a place: each lane goes, turned, to the next place of the walk. -/
def rhoPi (a : List Nat) : Nat → Nat → Nat → SMap Nat → SMap Nat
  | 0, _, _, m => m
  | n + 1, p, k, m =>
    let p' := p / 5 + 5 * ((2 * (p % 5) + 3 * (p / 5)) % 5)
    rhoPi a n p' (k + 1) (m.set 0 p' (rotLane (a.getD p 0) ((k + 1) * (k + 2) / 2 % 64)))
def thetaStep (a : List Nat) : List Nat :=
  let col := (List.range 5).map fun x => (List.range 5).foldl (fun v y => v ^^^ a.getD (x + 5 * y) 0) 0
  (List.range 25).map fun i => a.getD i 0 ^^^ col.getD ((i + 4) % 5) 0 ^^^ rotLane (col.getD ((i + 1) % 5) 0) 1
def chiStep (m : SMap Nat) : List Nat :=
  (List.range 25).map fun i =>
    let at_ (k : Nat) : Nat := m.get 0 (i / 5 * 5 + (i + k) % 5)
    at_ 0 ^^^ ((2 ^ 64 - 1 - at_ 1) &&& at_ 2)
/-- The shift register that spells the round constants, and the constant of a round with the register after it. -/
def rcStep (r : Nat) : Nat := if 128 ≤ r then 2 * r ^^^ 0x171 else 2 * r
def roundConst (r : Nat) : Nat × Nat :=
  (List.range 7).foldl (fun (c, r) j => (c ||| (r % 2) <<< (2 ^ j - 1), rcStep r)) (0, r)
def keccakRound (st : List Nat × Nat) : List Nat × Nat :=
  let t := thetaStep st.1
  let b := chiStep (rhoPi t 24 1 0 [(0, t.headD 0)])
  let (c, r) := roundConst st.2
  ((b.headD 0 ^^^ c) :: b.drop 1, r)
def keccak (a : List Nat) : List Nat := ((List.range 24).foldl (fun st _ => keccakRound st) (a, 1)).1

/-- A block of 136 bytes goes into the state. -/
def absorb (a : List Nat) (block : List Byte) : List Nat :=
  keccak ((List.range 25).map fun i => a.getD i 0 ^^^ ofBytes ((block.drop (8 * i)).take 8))
def absorbAll : Nat → List Nat → List Byte → List Nat
  | 0, a, _ => a
  | n + 1, a, bs => absorbAll n (absorb a (bs.take 136)) (bs.drop 136)
def squeeze : Nat → List Nat → List Byte
  | 0, _ => []
  | n + 1, a => ((a.take 17).flatMap (toBytes 8)) ++ squeeze n (keccak a)
/-- SHAKE256 over a byte string: its first `n` output bytes (R470). -/
@[irreducible] def shake256 (bs : List Byte) (n : Nat) : List Byte :=
  let blocks := bs.length / 136 + 1
  let fill := 136 * blocks - bs.length
  let pad : List Byte := if fill = 1 then [0x9F] else 0x1F :: (List.replicate (fill - 2) 0 ++ [0x80])
  (squeeze (n / 136 + 1) (absorbAll blocks (List.replicate 25 0) (bs ++ pad))).take n

/-! AES-256. A byte is an element of GF(2⁸); a block is 16 bytes, column by column. -/

def xtime (b : Nat) : Nat := if 128 ≤ b then 2 * b ^^^ 0x11B else 2 * b
def gfMul : Nat → Nat → Nat → Nat
  | 0, _, _ => 0
  | n + 1, a, b => (if b % 2 = 1 then a else 0) ^^^ gfMul n (xtime a) (b / 2)
/-- The inverse, as the 254th power; 0 for 0. -/
def gfInv (b : Nat) : Nat :=
  let sq (x : Nat) : Nat := gfMul 8 x x
  ((List.range 6).foldl (fun (acc, p) _ => (gfMul 8 acc (sq p), sq p)) (sq b, sq b)).1
def subByte (b : Nat) : Nat :=
  let v := gfInv b
  (List.range 5).foldl (fun x k => x ^^^ (v * 2 ^ k % 256 + v * 2 ^ k / 256)) 0 ^^^ 0x63
def xorLists (a b : List Nat) : List Nat := List.zipWith (· ^^^ ·) a b
/-- The words of the key schedule, latest first: `n` more after those given, numbered from `i`. -/
def keyWords : Nat → Nat → Nat → List (List Nat) → List (List Nat)
  | 0, _, _, ws => ws
  | n + 1, i, rc, ws =>
    let last := ws.headD []
    let t := if i % 8 = 0 then
        match (last.drop 1 ++ last.take 1).map subByte with
        | x :: rest => (x ^^^ rc) :: rest
        | [] => []
      else if i % 8 = 4 then last.map subByte else last
    keyWords n (i + 1) (if i % 8 = 0 then xtime rc else rc) (xorLists (ws.getD 7 []) t :: ws)
/-- The 15 round keys of a 32-byte key. -/
def roundKeys (key : List Byte) : List (List Nat) :=
  let k := key.map (·.toNat)
  let first := (List.range 8).map fun i => (k.drop (4 * i)).take 4
  let ws := (keyWords 52 8 1 first.reverse).reverse
  (List.range 15).map fun r => ((ws.drop (4 * r)).take 4).flatten
def shiftRows (a : List Nat) : List Nat := (List.range 16).map fun i => a.getD ((i + i % 4 * 4) % 16) 0
def mixColumns (a : List Nat) : List Nat :=
  (List.range 16).map fun i =>
    let at_ (k : Nat) : Nat := a.getD (i / 4 * 4 + (i + k) % 4) 0
    xtime (at_ 0) ^^^ xtime (at_ 1) ^^^ at_ 1 ^^^ at_ 2 ^^^ at_ 3
def aesBlock (ks : List (List Nat)) (block : List Nat) : List Nat :=
  let mid := (ks.drop 1).take 13
  let a := mid.foldl (fun a k => xorLists (mixColumns (shiftRows (a.map subByte))) k) (xorLists block (ks.headD []))
  xorLists (shiftRows (a.map subByte)) (ks.getD 14 [])

/-! GCM. An element of GF(2¹²⁸) is a number whose highest bit is the coefficient of 1. -/

def blockNat (bs : List Nat) : Nat := bs.foldl (fun n b => 256 * n + b) 0
def natBlock (v : Nat) : List Nat := (List.range 16).map fun i => v / 256 ^ (15 - i) % 256
def ghashMul : Nat → Nat → Nat → Nat
  | 0, _, _ => 0
  | n + 1, x, v => (if x.testBit n then v else 0) ^^^ ghashMul n x (if v % 2 = 1 then v / 2 ^^^ 0xE1 <<< 120 else v / 2)
def ghash (h : Nat) : Nat → Nat → List Nat → Nat
  | 0, y, _ => y
  | n + 1, y, bs =>
    if bs.isEmpty then y
    else ghash h n (ghashMul 128 (y ^^^ blockNat ((bs ++ List.replicate 16 0).take 16)) h) (bs.drop 16)
/-- Bytes filled up to whole blocks. -/
def padBlocks (bs : List Nat) : List Nat := bs ++ List.replicate ((16 - bs.length % 16) % 16) 0
/-- The message under the counter stream that begins after block `c`. -/
def ctr (ks : List (List Nat)) (iv : List Nat) : Nat → Nat → List Nat → List Nat
  | 0, _, _ => []
  | n + 1, c, bs =>
    let stream := aesBlock ks (iv ++ (natBlock (c % 2 ^ 32)).drop 12)
    List.zipWith (· ^^^ ·) bs stream ++ ctr ks iv n (c + 1) (bs.drop 16)
def gcmTag (ks : List (List Nat)) (iv aad cipher : List Nat) : List Nat :=
  let h := blockNat (aesBlock ks (List.replicate 16 0))
  let all := padBlocks aad ++ padBlocks cipher ++ (natBlock (8 * aad.length)).drop 8 ++ (natBlock (8 * cipher.length)).drop 8
  xorLists (natBlock (ghash h (all.length / 16 + 1) 0 all)) (aesBlock ks (iv ++ [0, 0, 0, 1]))
def nats (bs : List Byte) : List Nat := bs.map (·.toNat)
def bytes8 (l : List Nat) : List Byte := l.map (BitVec.ofNat 8)
/-- AES-256-GCM encryption (R206): key, IV, additional data, message; the ciphertext and the 16-byte tag. -/
@[irreducible] def gcmSeal (key iv aad msg : List Byte) : List Byte × List Byte :=
  let ks := roundKeys key
  let c := ctr ks (nats iv) (msg.length / 16 + 1) 2 (nats msg)
  (bytes8 c, bytes8 (gcmTag ks (nats iv) (nats aad) c))
/-- AES-256-GCM decryption (R206): key, IV, additional data, ciphertext, tag; the plaintext if the tag matches. -/
@[irreducible] def gcmOpen (key iv aad cipher tag : List Byte) : Option (List Byte) :=
  let ks := roundKeys key
  if bytes8 (gcmTag ks (nats iv) (nats aad) (nats cipher)) = tag then
    some (bytes8 (ctr ks (nats iv) (cipher.length / 16 + 1) 2 (nats cipher)))
  else none

end Sys2Proof.Config
end

