-- ==== Sys2Proof/Machine/Fields.lean ====
section
/-! DEFINITION. The named fields of the control spaces and of the boot window, one constant for each named field of the
spec's field maps: its space, its first record, its (first) word and its bits. Space 256 stands for the boot window (R212),
whose word is its offset divided by 8. -/

namespace Sys2Proof.Machine

/-- A field of a control word: space, first record and first word of its field map, high and low bit (R218). -/
structure Fld where
  sp : Nat
  rcd : Nat
  word : Nat
  hi : Nat
  lo : Nat
  deriving DecidableEq, Repr

end Sys2Proof.Machine

namespace Sys2Proof.Machine.F

/-! REGION word 0, REG_SHAPE (R45) -/
def REG_SHAPE_VALID : Fld := ⟨6, 0, 0, 63, 63⟩
def REG_SHAPE_CLASS : Fld := ⟨6, 0, 0, 62, 61⟩
def REG_SHAPE_STRIPE_KM1 : Fld := ⟨6, 0, 0, 52, 48⟩
def REG_SHAPE_LEN_GRAN : Fld := ⟨6, 0, 0, 33, 0⟩
/-! REGION words 1 to 4, REG_PAIRS (word 1 shown; word 1 + j holds list entries 8j to 8j + 7 in the same layout) (R45) -/
def REG_PAIRS_PAIR7 : Fld := ⟨6, 0, 1, 60, 56⟩
def REG_PAIRS_PAIR6 : Fld := ⟨6, 0, 1, 52, 48⟩
def REG_PAIRS_PAIR5 : Fld := ⟨6, 0, 1, 44, 40⟩
def REG_PAIRS_PAIR4 : Fld := ⟨6, 0, 1, 36, 32⟩
def REG_PAIRS_PAIR3 : Fld := ⟨6, 0, 1, 28, 24⟩
def REG_PAIRS_PAIR2 : Fld := ⟨6, 0, 1, 20, 16⟩
def REG_PAIRS_PAIR1 : Fld := ⟨6, 0, 1, 12, 8⟩
def REG_PAIRS_PAIR0 : Fld := ⟨6, 0, 1, 4, 0⟩
/-! REGION word 5, REG_BASE (R45) -/
def REG_BASE_BASE_GRAN : Fld := ⟨6, 0, 5, 43, 16⟩
/-! REGION word 6, REG_STATE (R45) -/
def REG_STATE_REVOKE_STATE : Fld := ⟨6, 0, 6, 63, 62⟩
def REG_STATE_UNMIRRORED : Fld := ⟨6, 0, 6, 61, 61⟩
def REG_STATE_UNRESTORED : Fld := ⟨6, 0, 6, 60, 60⟩
def REG_STATE_POISON_PRESENT : Fld := ⟨6, 0, 6, 59, 59⟩
def REG_STATE_POISON_LINES : Fld := ⟨6, 0, 6, 31, 0⟩
/-! REGION word 7, REG_CMD (R45) -/
def REG_CMD_REOPEN : Fld := ⟨6, 0, 7, 1, 1⟩
def REG_CMD_REVOKE : Fld := ⟨6, 0, 7, 0, 0⟩
/-! DOMAIN word 0, DOM_CTL (R46) -/
def DOM_CTL_VALID : Fld := ⟨5, 0, 0, 63, 63⟩
def DOM_CTL_COMPAT_EN : Fld := ⟨5, 0, 0, 62, 62⟩
def DOM_CTL_DRAIN_PENDING : Fld := ⟨5, 0, 0, 61, 61⟩
/-! DOMAIN word 1, DOM_KEY64 (R46) -/
def DOM_KEY64_DOMAIN : Fld := ⟨5, 0, 1, 63, 48⟩
def DOM_KEY64_SECRET48 : Fld := ⟨5, 0, 1, 47, 0⟩
/-! DOMAIN word 2, DOM_KEY32 (R46) -/
def DOM_KEY32_DOMAIN : Fld := ⟨5, 0, 2, 31, 16⟩
def DOM_KEY32_SECRET16 : Fld := ⟨5, 0, 2, 15, 0⟩
/-! DOMAIN word 3, DOM_REKEY (R46) -/
def DOM_REKEY_REDRAW : Fld := ⟨5, 0, 3, 0, 0⟩
/-! DOMAIN word 4, DOM_STATS (R46) -/
def DOM_STATS_KEY_FAILS : Fld := ⟨5, 0, 4, 63, 32⟩
def DOM_STATS_BOUNDS_FAILS : Fld := ⟨5, 0, 4, 31, 0⟩
/-! DOMAIN word 8 + 3m, MAP_VA (R46) -/
def MAP_VA_MVALID : Fld := ⟨5, 0, 8, 63, 63⟩
def MAP_VA_READ : Fld := ⟨5, 0, 8, 62, 62⟩
def MAP_VA_WRITE : Fld := ⟨5, 0, 8, 61, 61⟩
def MAP_VA_ATOMIC : Fld := ⟨5, 0, 8, 60, 60⟩
def MAP_VA_INVOKE : Fld := ⟨5, 0, 8, 59, 59⟩
def MAP_VA_DBASE : Fld := ⟨5, 0, 8, 51, 16⟩
/-! DOMAIN word 9 + 3m, MAP_TGT (R46) -/
def MAP_TGT_REGION : Fld := ⟨5, 0, 9, 63, 48⟩
def MAP_TGT_RGRAN : Fld := ⟨5, 0, 9, 33, 0⟩
/-! DOMAIN word 10 + 3m, MAP_LEN (R46) -/
def MAP_LEN_NGRAN : Fld := ⟨5, 0, 10, 33, 0⟩
/-! TWIN word 0, TWIN_CTL (R74) -/
def TWIN_CTL_PAIR_MODE : Fld := ⟨17, 0, 0, 63, 62⟩
def TWIN_CTL_HOLD_LIMIT : Fld := ⟨17, 0, 0, 44, 32⟩
def TWIN_CTL_RESYNC_SHARE : Fld := ⟨17, 0, 0, 23, 16⟩
/-! TWIN word 1, TWIN_STATUS (R74) -/
def TWIN_STATUS_STATE : Fld := ⟨17, 0, 1, 63, 60⟩
def TWIN_STATUS_SIDE : Fld := ⟨17, 0, 1, 59, 59⟩
def TWIN_STATUS_PEER_SEEN : Fld := ⟨17, 0, 1, 58, 58⟩
def TWIN_STATUS_GRANTED : Fld := ⟨17, 0, 1, 57, 57⟩
def TWIN_STATUS_HALF_LINK : Fld := ⟨17, 0, 1, 56, 56⟩
def TWIN_STATUS_SPLIT_EPOCH : Fld := ⟨17, 0, 1, 31, 0⟩
/-! TWIN word 2, TWIN_GRANT (R74) -/
def TWIN_GRANT_GRANT_EPOCH : Fld := ⟨17, 0, 2, 63, 32⟩
def TWIN_GRANT_GRANT : Fld := ⟨17, 0, 2, 0, 0⟩
/-! TWIN word 3, TWIN_RESYNC (R74) -/
def TWIN_RESYNC_CHANGED_GRAN : Fld := ⟨17, 0, 3, 63, 32⟩
def TWIN_RESYNC_COPIED_GRAN : Fld := ⟨17, 0, 3, 31, 0⟩
/-! TWIN word 4, TWIN_STATS (R74) -/
def TWIN_STATS_ACK_MAX_NS : Fld := ⟨17, 0, 4, 63, 48⟩
def TWIN_STATS_OVERDUE : Fld := ⟨17, 0, 4, 47, 32⟩
def TWIN_STATS_TWIN_LOST_CNT : Fld := ⟨17, 0, 4, 31, 0⟩
/-! LINK word 0, LNK_CTL (R109) -/
def LNK_CTL_ROLE : Fld := ⟨3, 0, 0, 63, 62⟩
def LNK_CTL_PORT_MODE : Fld := ⟨3, 0, 0, 61, 60⟩
def LNK_CTL_PORT_EN : Fld := ⟨3, 0, 0, 55, 48⟩
def LNK_CTL_DURABLE_EN : Fld := ⟨3, 0, 0, 47, 40⟩
def LNK_CTL_PFC_PRIO : Fld := ⟨3, 0, 0, 35, 33⟩
def LNK_CTL_PFC_EN : Fld := ⟨3, 0, 0, 32, 32⟩
def LNK_CTL_BRAID_PCP : Fld := ⟨3, 0, 0, 31, 29⟩
def LNK_CTL_BRAID_DSCP : Fld := ⟨3, 0, 0, 28, 23⟩
def LNK_CTL_COMPAT_DSCP : Fld := ⟨3, 0, 0, 22, 17⟩
/-! LINK word 1, LNK_DIS (R109) -/
def LNK_DIS_PORT_OFF : Fld := ⟨3, 0, 1, 7, 0⟩
/-! LINK word 2, LNK_MAC (R109) -/
def LNK_MAC_MAC_BASE : Fld := ⟨3, 0, 2, 47, 0⟩
/-! LINK word 3, LNK_STATUS (R109) -/
def LNK_STATUS_PORT_UP : Fld := ⟨3, 0, 3, 63, 56⟩
def LNK_STATUS_PORT_PAUSED : Fld := ⟨3, 0, 3, 55, 48⟩
def LNK_STATUS_EDDY_XOFF : Fld := ⟨3, 0, 3, 47, 40⟩
def LNK_STATUS_LANE_LOCK : Fld := ⟨3, 0, 3, 7, 0⟩
/-! LINK word 4, LNK_FEC (R109) -/
def LNK_FEC_FEC_CORR : Fld := ⟨3, 0, 4, 63, 32⟩
def LNK_FEC_FEC_UNCORR : Fld := ⟨3, 0, 4, 31, 0⟩
/-! LINK word 5, LNK_PAUSE (R109) -/
def LNK_PAUSE_PAUSE_TX : Fld := ⟨3, 0, 5, 63, 32⟩
def LNK_PAUSE_PAUSE_RX : Fld := ⟨3, 0, 5, 31, 0⟩
/-! LINK word 6, LNK_DROP (R109) -/
def LNK_DROP_RX_FCS_ERR : Fld := ⟨3, 0, 6, 63, 32⟩
def LNK_DROP_RX_NOBUF : Fld := ⟨3, 0, 6, 31, 0⟩
/-! TRANSPORT word 0, TP_BRAID (R110) -/
def TP_BRAID_BRAID_UDP : Fld := ⟨4, 0, 0, 63, 48⟩
def TP_BRAID_BRAID_PAYLOAD : Fld := ⟨4, 0, 0, 47, 46⟩
def TP_BRAID_NPATHS_M1 : Fld := ⟨4, 0, 0, 45, 40⟩
def TP_BRAID_RETRY_MAX : Fld := ⟨4, 0, 0, 39, 32⟩
def TP_BRAID_RTO_MIN : Fld := ⟨4, 0, 0, 31, 16⟩
def TP_BRAID_RTO_MAX : Fld := ⟨4, 0, 0, 15, 0⟩
/-! TRANSPORT word 1, TP_PATH (R110) -/
def TP_PATH_REORDER_TOL : Fld := ⟨4, 0, 1, 63, 48⟩
def TP_PATH_PATH_HOLDOFF : Fld := ⟨4, 0, 1, 47, 32⟩
/-! TRANSPORT word 2, TP_COMPAT (R110) -/
def TP_COMPAT_COMPAT_PMTU : Fld := ⟨4, 0, 2, 63, 62⟩
def TP_COMPAT_ACK_TIMEOUT : Fld := ⟨4, 0, 2, 61, 57⟩
def TP_COMPAT_COMPAT_RETRY : Fld := ⟨4, 0, 2, 56, 54⟩
def TP_COMPAT_ACK_DEADLINE : Fld := ⟨4, 0, 2, 47, 32⟩
/-! TRANSPORT word 3, TP_ADMIT (R110) -/
def TP_ADMIT_RETRY_BUSY : Fld := ⟨4, 0, 3, 63, 48⟩
def TP_ADMIT_RETRY_SPATE : Fld := ⟨4, 0, 3, 47, 32⟩
def TP_ADMIT_RETRY_TWIN : Fld := ⟨4, 0, 3, 31, 16⟩
def TP_ADMIT_INGRESS_QMAX : Fld := ⟨4, 0, 3, 15, 0⟩
/-! TRANSPORT word 4, TP_CC (R110) -/
def TP_CC_BETA_MIN : Fld := ⟨4, 0, 4, 63, 56⟩
def TP_CC_BETA_STEP : Fld := ⟨4, 0, 4, 55, 48⟩
def TP_CC_BETA_MAX : Fld := ⟨4, 0, 4, 47, 40⟩
def TP_CC_RISE_T : Fld := ⟨4, 0, 4, 39, 32⟩
def TP_CC_RISE_STEP : Fld := ⟨4, 0, 4, 31, 16⟩
def TP_CC_RATE_MIN : Fld := ⟨4, 0, 4, 15, 0⟩
/-! TRANSPORT word 5, TP_CC2 (R110) -/
def TP_CC2_CUT_HOLD : Fld := ⟨4, 0, 5, 63, 56⟩
def TP_CC2_CC_EN : Fld := ⟨4, 0, 5, 55, 55⟩
/-! TRANSPORT word 6, TP_EDDY (R110) -/
def TP_EDDY_EDDY_WAIT_MAX : Fld := ⟨4, 0, 6, 63, 48⟩
def TP_EDDY_EDDY_HEADROOM : Fld := ⟨4, 0, 6, 47, 32⟩
def TP_EDDY_EDDY_XON : Fld := ⟨4, 0, 6, 31, 16⟩
/-! TRANSPORT word 7, TP_EDDY_STAT (R110) -/
def TP_EDDY_STAT_EDDY_PARKED : Fld := ⟨4, 0, 7, 63, 32⟩
def TP_EDDY_STAT_EDDY_DROPS : Fld := ⟨4, 0, 7, 31, 0⟩
/-! TRANSPORT word 8, TP_SIG_STAT (R110) -/
def TP_SIG_STAT_RNR_SENT : Fld := ⟨4, 0, 8, 63, 32⟩
def TP_SIG_STAT_ECHO_SENT : Fld := ⟨4, 0, 8, 31, 0⟩
/-! TRANSPORT word 9, TP_TX_STAT (R110) -/
def TP_TX_STAT_RETX_PKTS : Fld := ⟨4, 0, 9, 63, 32⟩
def TP_TX_STAT_ECHO_RCVD : Fld := ⟨4, 0, 9, 31, 0⟩
/-! TRANSPORT word 10, TP_QUEUE_STAT (R110) -/
def TP_QUEUE_STAT_EDDY_PEAK : Fld := ⟨4, 0, 10, 63, 48⟩
def TP_QUEUE_STAT_RESIDENT : Fld := ⟨4, 0, 10, 45, 32⟩
def TP_QUEUE_STAT_CTX_FETCHES : Fld := ⟨4, 0, 10, 31, 0⟩
/-! QUEUE word 0, Q_CTL (R145) -/
def Q_CTL_QVALID : Fld := ⟨7, 0, 0, 63, 63⟩
def Q_CTL_MODE : Fld := ⟨7, 0, 0, 62, 62⟩
def Q_CTL_PIN : Fld := ⟨7, 0, 0, 61, 61⟩
def Q_CTL_DOMAIN : Fld := ⟨7, 0, 0, 47, 32⟩
def Q_CTL_QDEPTH_M1 : Fld := ⟨7, 0, 0, 11, 0⟩
/-! QUEUE words 1 and 2, Q_PEER_HI and Q_PEER_LO (R145) -/
def Q_PEER_HI_PEER_IP : Fld := ⟨7, 0, 1, 63, 0⟩
/-! QUEUE word 3, Q_PEER_L2 (R145) -/
def Q_PEER_L2_VLAN_EN : Fld := ⟨7, 0, 3, 63, 63⟩
def Q_PEER_L2_VID : Fld := ⟨7, 0, 3, 59, 48⟩
def Q_PEER_L2_NEXT_MAC : Fld := ⟨7, 0, 3, 47, 0⟩
/-! QUEUE word 4, Q_PEER_Q (R145) -/
def Q_PEER_Q_PEER_QN : Fld := ⟨7, 0, 4, 63, 32⟩
/-! QUEUE word 5, Q_PSN (R145) -/
def Q_PSN_RX_PSN0 : Fld := ⟨7, 0, 5, 47, 24⟩
def Q_PSN_TX_PSN0 : Fld := ⟨7, 0, 5, 23, 0⟩
/-! QUEUE word 6, Q_CQ_BASE (R145) -/
def Q_CQ_BASE_CQ_BASE : Fld := ⟨7, 0, 6, 63, 0⟩
/-! QUEUE word 7, Q_CQ_KEY (R145) -/
def Q_CQ_KEY_CQ_KEY : Fld := ⟨7, 0, 7, 63, 0⟩
/-! QUEUE word 8, Q_RING (R145) -/
def Q_RING_CQ_LOG2 : Fld := ⟨7, 0, 8, 4, 0⟩
/-! QUEUE word 9, Q_PORTS (R145) -/
def Q_PORTS_TX_PORTS : Fld := ⟨7, 0, 9, 47, 0⟩
/-! QUEUE word 10, Q_STATUS (R145) -/
def Q_STATUS_STATE : Fld := ⟨7, 0, 10, 63, 60⟩
def Q_STATUS_RESIDENT : Fld := ⟨7, 0, 10, 59, 59⟩
def Q_STATUS_FREEZE_MODE : Fld := ⟨7, 0, 10, 58, 58⟩
def Q_STATUS_IN_USE : Fld := ⟨7, 0, 10, 44, 32⟩
def Q_STATUS_FREEZE_SEQ : Fld := ⟨7, 0, 10, 31, 0⟩
/-! QUEUE word 11, Q_SEQ (R145) -/
def Q_SEQ_QSEQ_NEXT : Fld := ⟨7, 0, 11, 63, 32⟩
def Q_SEQ_ELOG_NEXT : Fld := ⟨7, 0, 11, 31, 0⟩
/-! QUEUE word 12, Q_FH (R145) -/
def Q_FH_ARMED_FH : Fld := ⟨7, 0, 12, 12, 0⟩
/-! QUEUE word 13, Q_CMD (R145) -/
def Q_CMD_ELOG_SEL : Fld := ⟨7, 0, 13, 15, 12⟩
def Q_CMD_ELOG_WORD : Fld := ⟨7, 0, 13, 11, 9⟩
def Q_CMD_KILL : Fld := ⟨7, 0, 13, 0, 0⟩
/-! PROGRAM word 0, PRG_CTL (R183) -/
def PRG_CTL_PVALID : Fld := ⟨8, 0, 0, 63, 63⟩
def PRG_CTL_CTLMODE : Fld := ⟨8, 0, 0, 62, 62⟩
def PRG_CTL_ANY_DOMAIN : Fld := ⟨8, 0, 0, 61, 61⟩
def PRG_CTL_DOM : Fld := ⟨8, 0, 0, 47, 32⟩
def PRG_CTL_NINSTR : Fld := ⟨8, 0, 0, 12, 0⟩
/-! PROGRAM word 1, PRG_LIMITS (R183) -/
def PRG_LIMITS_TIMEOUT_US : Fld := ⟨8, 0, 1, 51, 32⟩
def PRG_LIMITS_BUDGET : Fld := ⟨8, 0, 1, 20, 0⟩
/-! PROGRAM word 2, PRG_PROOF (R183) -/
def PRG_PROOF_WC_CYCLES : Fld := ⟨8, 0, 2, 52, 32⟩
def PRG_PROOF_IMAGE_DIGEST : Fld := ⟨8, 0, 2, 31, 0⟩
/-! PROGRAM word 3, PRG_STATS (R183) -/
def PRG_STATS_INVOCATIONS : Fld := ⟨8, 0, 3, 63, 32⟩
def PRG_STATS_FAULTS : Fld := ⟨8, 0, 3, 31, 0⟩
/-! PROGRAM word 4, PRG_LAST (R183) -/
def PRG_LAST_LAST_FAULT : Fld := ⟨8, 0, 4, 63, 56⟩
def PRG_LAST_LAST_PC : Fld := ⟨8, 0, 4, 55, 44⟩
/-! PROGRAM word 5, PRG_RUN (R183) -/
def PRG_RUN_RUNNING : Fld := ⟨8, 0, 5, 63, 48⟩
def PRG_RUN_OLD_RUNNING : Fld := ⟨8, 0, 5, 47, 32⟩
/-! PROGRAM words 8 to 15, HDECL0 to HDECL7 (word 8 + j declares hj) (R183) -/
def HDECL0_KIND : Fld := ⟨8, 0, 8, 63, 61⟩
def HDECL0_READ : Fld := ⟨8, 0, 8, 60, 60⟩
def HDECL0_WRITE : Fld := ⟨8, 0, 8, 59, 59⟩
def HDECL0_ATOMIC : Fld := ⟨8, 0, 8, 58, 58⟩
def HDECL0_POST : Fld := ⟨8, 0, 8, 57, 57⟩
def HDECL0_SRC : Fld := ⟨8, 0, 8, 56, 52⟩
def HDECL0_LEN : Fld := ⟨8, 0, 8, 31, 0⟩
/-! PROGRAM words 64 + i, INSTR (i from 0 to 4,095) (R183) -/
def INSTR : Fld := ⟨8, 0, 64, 63, 0⟩
/-! PROGRAM record 1,024, word 0, PRG_VSTAT (R183) -/
def PRG_VSTAT_VSLOT : Fld := ⟨8, 1024, 0, 63, 48⟩
def PRG_VSTAT_VERR : Fld := ⟨8, 1024, 0, 47, 40⟩
def PRG_VSTAT_VPC : Fld := ⟨8, 1024, 0, 39, 28⟩
def PRG_VSTAT_VSCOPE : Fld := ⟨8, 1024, 0, 27, 26⟩
/-! PROGRAM record 1,024, word 1, ENG_STAT (R183) -/
def ENG_STAT_INV_WAITING : Fld := ⟨8, 1024, 1, 63, 48⟩
def ENG_STAT_THREADS_BUSY : Fld := ⟨8, 1024, 1, 36, 26⟩
/-! MGW_IDENT, offset 0x000 (R212) -/
def MGW_IDENT_VENDOR : Fld := ⟨256, 0, 0, 63, 48⟩
def MGW_IDENT_PART : Fld := ⟨256, 0, 0, 47, 32⟩
def MGW_IDENT_STEPPING : Fld := ⟨256, 0, 0, 31, 24⟩
def MGW_IDENT_INDEX : Fld := ⟨256, 0, 0, 23, 18⟩
def MGW_IDENT_SIDE : Fld := ⟨256, 0, 0, 17, 17⟩
/-! MGW_STATUS, offset 0x008 (R212) -/
def MGW_STATUS_PHASE : Fld := ⟨256, 0, 1, 63, 60⟩
def MGW_STATUS_CQ_RUN : Fld := ⟨256, 0, 1, 59, 59⟩
def MGW_STATUS_CTL_BUSY : Fld := ⟨256, 0, 1, 58, 58⟩
def MGW_STATUS_EQ_OVERFLOW : Fld := ⟨256, 0, 1, 57, 57⟩
def MGW_STATUS_DUR_ANY : Fld := ⟨256, 0, 1, 56, 56⟩
def MGW_STATUS_CQ_HEAD : Fld := ⟨256, 0, 1, 31, 16⟩
def MGW_STATUS_EQ_LOST : Fld := ⟨256, 0, 1, 15, 0⟩
/-! MGW_RESET, offset 0x010 (R212) -/
def MGW_RESET_CONFIRM : Fld := ⟨256, 0, 2, 63, 48⟩
def MGW_RESET_STACK : Fld := ⟨256, 0, 2, 8, 8⟩
def MGW_RESET_KIND : Fld := ⟨256, 0, 2, 1, 0⟩
/-! MGW_BOOT, offset 0x018 (R212) -/
def MGW_BOOT_STAGE : Fld := ⟨256, 0, 3, 63, 56⟩
def MGW_BOOT_ERROR : Fld := ⟨256, 0, 3, 55, 48⟩
def MGW_BOOT_ERR_DETAIL : Fld := ⟨256, 0, 3, 31, 0⟩
/-! MGW_CQ_BASE, offset 0x020, and MGW_EQ_BASE, offset 0x030 (R212) -/
def MGW_CQ_BASE_BASE : Fld := ⟨256, 0, 4, 63, 12⟩
def MGW_CQ_BASE_EN : Fld := ⟨256, 0, 4, 11, 11⟩
def MGW_CQ_BASE_LOG2 : Fld := ⟨256, 0, 4, 4, 0⟩
/-! MGW_CQ_DOORBELL, offset 0x028 (R212) -/
def MGW_CQ_DOORBELL_TAIL : Fld := ⟨256, 0, 5, 15, 0⟩
/-! MGW_EQ_HEAD, offset 0x038 (R212) -/
def MGW_EQ_HEAD_HEAD : Fld := ⟨256, 0, 7, 31, 0⟩
/-! MGW_SAVE, offset 0x040 (R212) -/
def MGW_SAVE_ARMED : Fld := ⟨256, 0, 8, 63, 63⟩
def MGW_SAVE_SAVING : Fld := ⟨256, 0, 8, 62, 62⟩
def MGW_SAVE_IMAGE : Fld := ⟨256, 0, 8, 61, 61⟩
def MGW_SAVE_RESTORING : Fld := ⟨256, 0, 8, 60, 60⟩
def MGW_SAVE_RESUMED : Fld := ⟨256, 0, 8, 59, 59⟩
def MGW_SAVE_BUDGET_GIB : Fld := ⟨256, 0, 8, 47, 24⟩
def MGW_SAVE_DIRTY_GIB : Fld := ⟨256, 0, 8, 23, 0⟩
/-! MGW_TIME, offset 0x048 (R212) -/
def MGW_TIME_STACK_TIME : Fld := ⟨256, 0, 9, 63, 0⟩
/-! WEIR word 0, WEIR_CTL (R236) -/
def WEIR_CTL_REACH_K : Fld := ⟨2, 0, 0, 59, 56⟩
def WEIR_CTL_MISS_LIMIT : Fld := ⟨2, 0, 0, 55, 48⟩
def WEIR_CTL_DOUBT_MAX : Fld := ⟨2, 0, 0, 47, 32⟩
/-! WEIR word 1, WEIR_COUNT (R236) -/
def WEIR_COUNT : Fld := ⟨2, 0, 1, 63, 0⟩
/-! WEIR word 2, WEIR_GROUP (R236) -/
def WEIR_GROUP_GROUP_SEQ : Fld := ⟨2, 0, 2, 63, 32⟩
def WEIR_GROUP_GROUP_STATE : Fld := ⟨2, 0, 2, 31, 30⟩
/-! WEIR word 3, WEIR_GROUP_AT (R236) -/
def WEIR_GROUP_AT_GROUP_WEIR : Fld := ⟨2, 0, 3, 63, 0⟩
/-! WEIR word 4, WEIR_STATS (R236) -/
def WEIR_STATS_MISSED : Fld := ⟨2, 0, 4, 63, 48⟩
def WEIR_STATS_MISS_DEV : Fld := ⟨2, 0, 4, 47, 42⟩
def WEIR_STATS_DEFERRED : Fld := ⟨2, 0, 4, 31, 24⟩
def WEIR_STATS_DOUBTS : Fld := ⟨2, 0, 4, 23, 16⟩
def WEIR_STATS_WITHDRAWN : Fld := ⟨2, 0, 4, 15, 0⟩
/-! DEVICE word 0, DEV_ID (R237) -/
def DEV_ID_IDENT : Fld := ⟨1, 0, 0, 63, 0⟩
/-! DEVICE word 1, DEV_EVMASK (R237) -/
def DEV_EVMASK_MASK : Fld := ⟨1, 0, 1, 15, 1⟩
/-! DEVICE word 2, DEV_MGMT (R237) -/
def DEV_MGMT_INT_EN : Fld := ⟨1, 0, 2, 63, 63⟩
/-! DEVICE word 3, DEV_CTLSTAT (R237) -/
def DEV_CTLSTAT_CTL_RUN : Fld := ⟨1, 0, 3, 63, 32⟩
def DEV_CTLSTAT_CTL_FAILED : Fld := ⟨1, 0, 3, 31, 0⟩
/-! CACHE word 0, CCH_CTL (R264) -/
def CCH_CTL_PREFETCH_EN : Fld := ⟨9, 0, 0, 63, 63⟩
def CCH_CTL_DIS_REQ : Fld := ⟨9, 0, 0, 0, 0⟩
/-! CACHE word 1, CCH_STATUS (R264) -/
def CCH_STATUS_EN : Fld := ⟨9, 0, 1, 63, 63⟩
def CCH_STATUS_FULLINV : Fld := ⟨9, 0, 1, 62, 62⟩
def CCH_STATUS_VLOSS : Fld := ⟨9, 0, 1, 61, 61⟩
def CCH_STATUS_LOCKED : Fld := ⟨9, 0, 1, 53, 48⟩
def CCH_STATUS_SCRATCH : Fld := ⟨9, 0, 1, 47, 40⟩
def CCH_STATUS_DIRTY : Fld := ⟨9, 0, 1, 39, 32⟩
/-! CACHE word 2, CCH_HITS (R264) -/
def CCH_HITS_HITS : Fld := ⟨9, 0, 2, 63, 32⟩
def CCH_HITS_MISSES : Fld := ⟨9, 0, 2, 31, 0⟩
/-! CACHE word 3, CCH_PREF (R264) -/
def CCH_PREF_PREFETCHES : Fld := ⟨9, 0, 3, 63, 32⟩
def CCH_PREF_PREF_USED : Fld := ⟨9, 0, 3, 31, 0⟩
/-! CACHE word 4, CCH_ECC (R264) -/
def CCH_ECC_CORR : Fld := ⟨9, 0, 4, 63, 32⟩
def CCH_ECC_UNCORR : Fld := ⟨9, 0, 4, 31, 16⟩
def CCH_ECC_TAGPAR : Fld := ⟨9, 0, 4, 15, 0⟩
/-! CACHE word 5, CCH_WB (R264) -/
def CCH_WB_WRITEBACKS : Fld := ⟨9, 0, 5, 63, 32⟩
def CCH_WB_PINNED_TOUCHED : Fld := ⟨9, 0, 5, 31, 0⟩
/-! POOL word 0, POOL_CTL (R265) -/
def POOL_CTL_POOL_EN : Fld := ⟨10, 0, 0, 63, 63⟩
def POOL_CTL_ENG_OPEN : Fld := ⟨10, 0, 0, 62, 62⟩
def POOL_CTL_SIZE_LOG2 : Fld := ⟨10, 0, 0, 60, 56⟩
def POOL_CTL_COUNT : Fld := ⟨10, 0, 0, 51, 32⟩
def POOL_CTL_BASE_KIB : Fld := ⟨10, 0, 0, 16, 0⟩
/-! POOL word 1, POOL_STATUS (R265) -/
def POOL_STATUS_STATE : Fld := ⟨10, 0, 1, 63, 62⟩
def POOL_STATUS_ALLOCATED : Fld := ⟨10, 0, 1, 51, 32⟩
def POOL_STATUS_LOW_FREE : Fld := ⟨10, 0, 1, 19, 0⟩
/-! POOL word 2, POOL_ALLOC (R265) -/
def POOL_ALLOC_ALLOCS : Fld := ⟨10, 0, 2, 63, 32⟩
def POOL_ALLOC_NOBUF : Fld := ⟨10, 0, 2, 31, 0⟩
/-! POOL word 3, POOL_BAD (R265) -/
def POOL_BAD_DOUBLE_FREES : Fld := ⟨10, 0, 3, 63, 48⟩
def POOL_BAD_FOREIGN_FREES : Fld := ⟨10, 0, 3, 47, 32⟩
def POOL_BAD_REF_OVERFLOWS : Fld := ⟨10, 0, 3, 31, 16⟩
/-! POOL word 4, POOL_LAST_BAD (R265) -/
def POOL_LAST_BAD_HANDLE : Fld := ⟨10, 0, 4, 63, 40⟩
def POOL_LAST_BAD_REQUESTER : Fld := ⟨10, 0, 4, 37, 24⟩
def POOL_LAST_BAD_OWNER : Fld := ⟨10, 0, 4, 21, 8⟩
def POOL_LAST_BAD_KIND : Fld := ⟨10, 0, 4, 1, 0⟩
/-! STREAM word 0, STR_CTL (R298) -/
def STR_CTL_SVALID : Fld := ⟨11, 0, 0, 63, 63⟩
def STR_CTL_OPEN : Fld := ⟨11, 0, 0, 62, 62⟩
def STR_CTL_WRAP : Fld := ⟨11, 0, 0, 61, 61⟩
def STR_CTL_PLACE : Fld := ⟨11, 0, 0, 60, 59⟩
def STR_CTL_REGION : Fld := ⟨11, 0, 0, 47, 32⟩
def STR_CTL_WIN_M1 : Fld := ⟨11, 0, 0, 23, 16⟩
/-! STREAM word 1, STR_SHAPE (R298) -/
def STR_SHAPE_SEG_COUNT : Fld := ⟨11, 0, 1, 44, 32⟩
def STR_SHAPE_SLOT_GRAN : Fld := ⟨11, 0, 1, 27, 0⟩
/-! STREAM word 2, STR_TIMING (R298) -/
def STR_TIMING_STALL_US : Fld := ⟨11, 0, 2, 52, 32⟩
def STR_TIMING_FETCH_LEAD_US : Fld := ⟨11, 0, 2, 19, 0⟩
/-! STREAM word 3, STR_RELEASE (R298) -/
def STR_RELEASE_SCHED_EN : Fld := ⟨11, 0, 3, 63, 63⟩
def STR_RELEASE_SCHED_LEN : Fld := ⟨11, 0, 3, 60, 48⟩
def STR_RELEASE_QUORUM : Fld := ⟨11, 0, 3, 47, 32⟩
def STR_RELEASE_PERIOD_US : Fld := ⟨11, 0, 3, 31, 0⟩
/-! STREAM word 4, STR_LOAD (R298) -/
def STR_LOAD_LOAD : Fld := ⟨11, 0, 4, 63, 63⟩
def STR_LOAD_SEG_N : Fld := ⟨11, 0, 4, 60, 48⟩
def STR_LOAD_SRC_REGION : Fld := ⟨11, 0, 4, 47, 32⟩
def STR_LOAD_SEG_FIRST : Fld := ⟨11, 0, 4, 12, 0⟩
/-! STREAM word 5, STR_LOAD_SRC (R298) -/
def STR_LOAD_SRC_SRC_GRAN : Fld := ⟨11, 0, 5, 33, 0⟩
/-! STREAM word 6, STR_STATUS (R298) -/
def STR_STATUS_STATE : Fld := ⟨11, 0, 6, 63, 60⟩
def STR_STATUS_LOAD_BUSY : Fld := ⟨11, 0, 6, 59, 59⟩
def STR_STATUS_CONTROLLER : Fld := ⟨11, 0, 6, 58, 58⟩
def STR_STATUS_POISON_OVF : Fld := ⟨11, 0, 6, 57, 57⟩
def STR_STATUS_RESIDENT : Fld := ⟨11, 0, 6, 56, 48⟩
def STR_STATUS_FIRST_SEG : Fld := ⟨11, 0, 6, 44, 32⟩
def STR_STATUS_PASSES : Fld := ⟨11, 0, 6, 31, 0⟩
/-! STREAM word 7, STR_STATS (R298) -/
def STR_STATS_LATE : Fld := ⟨11, 0, 7, 63, 32⟩
def STR_STATS_FORCED : Fld := ⟨11, 0, 7, 31, 0⟩
/-! STREAM word 8, STR_ERR (R298) -/
def STR_ERR_RECOVERED : Fld := ⟨11, 0, 8, 63, 48⟩
def STR_ERR_POISONED : Fld := ⟨11, 0, 8, 47, 32⟩
def STR_ERR_WAIT_NOW : Fld := ⟨11, 0, 8, 31, 16⟩
def STR_ERR_WAIT_PEAK : Fld := ⟨11, 0, 8, 15, 0⟩
/-! STREAM word 9, STR_LOADSTAT (R298) -/
def STR_LOADSTAT_LOAD_CAUSE : Fld := ⟨11, 0, 9, 63, 56⟩
def STR_LOADSTAT_LOAD_ERR_SEG : Fld := ⟨11, 0, 9, 44, 32⟩
def STR_LOADSTAT_SEGS_LOADED : Fld := ⟨11, 0, 9, 12, 0⟩
/-! STREAM words 16 + e, STR_SCHED (e from 0 to 4,095) (R298) -/
def STR_SCHED_SEG : Fld := ⟨11, 0, 16, 44, 32⟩
def STR_SCHED_DEADLINE_US : Fld := ⟨11, 0, 16, 31, 0⟩
/-! STREAM words 4,112 + j, STR_POISON (j from 0 to 255) (R298) -/
def STR_POISON_PVALID : Fld := ⟨11, 0, 4112, 63, 63⟩
def STR_POISON_SEG : Fld := ⟨11, 0, 4112, 44, 32⟩
def STR_POISON_TILE : Fld := ⟨11, 0, 4112, 13, 0⟩
/-! DRAM record 16, word 0, DRM_CTL (R319) -/
def DRM_CTL_OP : Fld := ⟨12, 16, 0, 63, 62⟩
def DRM_CTL_CH_MASK : Fld := ⟨12, 16, 0, 47, 32⟩
def DRM_CTL_DATA_RATE : Fld := ⟨12, 16, 0, 29, 16⟩
def DRM_CTL_MODS_PER_CH : Fld := ⟨12, 16, 0, 15, 14⟩
def DRM_CTL_PD_EN : Fld := ⟨12, 16, 0, 13, 13⟩
def DRM_CTL_PD_TIMER : Fld := ⟨12, 16, 0, 12, 0⟩
/-! DRAM record 16, word 1, DRM_CAP (R319) -/
def DRM_CAP_CAP_GIB : Fld := ⟨12, 16, 1, 47, 32⟩
def DRM_CAP_MOD_GIB : Fld := ⟨12, 16, 1, 31, 16⟩
/-! DRAM record 16, word 2, DRM_ECC (R319) -/
def DRM_ECC_SCRUB_EN : Fld := ⟨12, 16, 2, 63, 63⟩
def DRM_ECC_SCRUB_HOURS : Fld := ⟨12, 16, 2, 55, 48⟩
def DRM_ECC_ERASE_THRESH : Fld := ⟨12, 16, 2, 47, 32⟩
def DRM_ECC_SCRUB_PASSES : Fld := ⟨12, 16, 2, 31, 0⟩
/-! DRAM record 16, word 3, DRM_CAL (R319) -/
def DRM_CAL_CAL_EVERY : Fld := ⟨12, 16, 3, 63, 48⟩
def DRM_CAL_ZQ_EVERY : Fld := ⟨12, 16, 3, 47, 32⟩
def DRM_CAL_CAL_LIMIT : Fld := ⟨12, 16, 3, 31, 24⟩
def DRM_CAL_THROTTLE_C : Fld := ⟨12, 16, 3, 23, 16⟩
/-! DRAM record 16, words 4 to 7, DRM_TARGET (word 4 + k: ports 2k and 2k + 1; word 7 holds port 6 only) (R319) -/
def DRM_TARGET_TARGET_A : Fld := ⟨12, 16, 4, 51, 32⟩
def DRM_TARGET_TARGET_B : Fld := ⟨12, 16, 4, 19, 0⟩
/-! DRAM record 16, words 8 to 11, DRM_LATE (word 8 + k: ports 2k and 2k + 1) (R319) -/
def DRM_LATE_LATE_A : Fld := ⟨12, 16, 8, 63, 32⟩
def DRM_LATE_LATE_B : Fld := ⟨12, 16, 8, 31, 0⟩
/-! DRAM channel record c, word 0, CH_STATUS (R319) -/
def CH_STATUS_TRAINED : Fld := ⟨12, 0, 0, 63, 63⟩
def CH_STATUS_HOT : Fld := ⟨12, 0, 0, 62, 62⟩
def CH_STATUS_THROTTLED : Fld := ⟨12, 0, 0, 61, 61⟩
def CH_STATUS_RANKS : Fld := ⟨12, 0, 0, 55, 52⟩
def CH_STATUS_TEMP_C : Fld := ⟨12, 0, 0, 47, 40⟩
/-! DRAM channel record c, word 1, CH_ECC (R319) -/
def CH_ECC_CORR : Fld := ⟨12, 0, 1, 63, 32⟩
def CH_ECC_UNCORR : Fld := ⟨12, 0, 1, 31, 0⟩
/-! DRAM channel record c, word 2, CH_POISON (R319) -/
def CH_POISON_POISON_WR : Fld := ⟨12, 0, 2, 63, 32⟩
def CH_POISON_POISON_CLR : Fld := ⟨12, 0, 2, 31, 0⟩
/-! DRAM channel record c, word 3, CH_SCRUB (R319) -/
def CH_SCRUB_PROGRESS : Fld := ⟨12, 0, 3, 63, 56⟩
def CH_SCRUB_SCRUB_CORR : Fld := ⟨12, 0, 3, 31, 0⟩
/-! DRAM channel record c, word 4, CH_CAL (R319) -/
def CH_CAL_CAL_RUNS : Fld := ⟨12, 0, 4, 63, 32⟩
def CH_CAL_MAX_DRIFT_PS : Fld := ⟨12, 0, 4, 31, 16⟩
def CH_CAL_LAST_DRIFT_PS : Fld := ⟨12, 0, 4, 15, 0⟩
/-! DRAM channel record c, word 5, CH_REFRESH (R319) -/
def CH_REFRESH_REFRESHES : Fld := ⟨12, 0, 5, 63, 16⟩
def CH_REFRESH_ZQ_RUNS : Fld := ⟨12, 0, 5, 15, 0⟩
/-! DRAM channel record c, word 6, CH_ERASE (R319) -/
def CH_ERASE_EVALID1 : Fld := ⟨12, 0, 6, 15, 15⟩
def CH_ERASE_ERANK1 : Fld := ⟨12, 0, 6, 14, 12⟩
def CH_ERASE_EPOS1 : Fld := ⟨12, 0, 6, 11, 8⟩
def CH_ERASE_EVALID0 : Fld := ⟨12, 0, 6, 7, 7⟩
def CH_ERASE_ERANK0 : Fld := ⟨12, 0, 6, 6, 4⟩
def CH_ERASE_EPOS0 : Fld := ⟨12, 0, 6, 3, 0⟩
/-! FLASH record 32, word 0, FL_POP (R353) -/
def FL_POP_CH_MASK : Fld := ⟨13, 32, 0, 63, 32⟩
def FL_POP_DIES_PER_CH : Fld := ⟨13, 32, 0, 31, 27⟩
def FL_POP_DIE_GBIT : Fld := ⟨13, 32, 0, 15, 0⟩
/-! FLASH record 32, word 1, FL_CAP (R353) -/
def FL_CAP_HOME_GIB : Fld := ⟨13, 32, 1, 63, 32⟩
def FL_CAP_HOME_USED_GIB : Fld := ⟨13, 32, 1, 31, 0⟩
/-! FLASH record 32, word 2, FL_CTL (R353) -/
def FL_CTL_WB_EN : Fld := ⟨13, 32, 2, 63, 63⟩
def FL_CTL_WB_SHARE : Fld := ⟨13, 32, 2, 55, 48⟩
def FL_CTL_FSCRUB_DAYS : Fld := ⟨13, 32, 2, 40, 32⟩
/-! FLASH record 32, word 3, FL_TRAFFIC (R353) -/
def FL_TRAFFIC_CLEANED_GIB : Fld := ⟨13, 32, 3, 63, 32⟩
def FL_TRAFFIC_RELOC_GIB : Fld := ⟨13, 32, 3, 31, 0⟩
/-! FLASH record 32, word 4, FL_ECC (R353) -/
def FL_ECC_RETRIES : Fld := ⟨13, 32, 4, 63, 32⟩
def FL_ECC_SOFT : Fld := ⟨13, 32, 4, 31, 16⟩
def FL_ECC_UNREAD : Fld := ⟨13, 32, 4, 15, 0⟩
/-! FLASH record 32, word 5, FL_WEAR (R353) -/
def FL_WEAR_PE_AVG : Fld := ⟨13, 32, 5, 63, 48⟩
def FL_WEAR_PE_MAX : Fld := ⟨13, 32, 5, 47, 32⟩
def FL_WEAR_PE_SAVE_AVG : Fld := ⟨13, 32, 5, 31, 16⟩
def FL_WEAR_PE_LIMIT : Fld := ⟨13, 32, 5, 15, 0⟩
/-! FLASH record 32, word 6, FL_RETIRED (R353) -/
def FL_RETIRED_BLOCKS_RETIRED : Fld := ⟨13, 32, 6, 63, 32⟩
def FL_RETIRED_DIES_RETIRED : Fld := ⟨13, 32, 6, 9, 0⟩
/-! FLASH channel record c, word 0, NCH_STATUS (R353) -/
def NCH_STATUS_TRAINED : Fld := ⟨13, 0, 0, 63, 63⟩
def NCH_STATUS_DIES_RET : Fld := ⟨13, 0, 0, 31, 16⟩
def NCH_STATUS_DIES_OK : Fld := ⟨13, 0, 0, 15, 0⟩
/-! FLASH channel record c, word 1, NCH_ECC (R353) -/
def NCH_ECC_CORR_BITS : Fld := ⟨13, 0, 1, 63, 32⟩
def NCH_ECC_UNREAD : Fld := ⟨13, 0, 1, 31, 0⟩
/-! FLASH channel record c, word 2, NCH_FAIL (R353) -/
def NCH_FAIL_PROG_FAIL : Fld := ⟨13, 0, 2, 63, 32⟩
def NCH_FAIL_ERASE_FAIL : Fld := ⟨13, 0, 2, 31, 0⟩
/-! FLASH channel record c, word 3, NCH_LEVEL (R353) -/
def NCH_LEVEL_RL_SHIFTED : Fld := ⟨13, 0, 3, 63, 48⟩
def NCH_LEVEL_RL_MAX_STEP : Fld := ⟨13, 0, 3, 47, 40⟩
/-! SAVE word 0, SV_CTL (R354) -/
def SV_CTL_ARM : Fld := ⟨14, 0, 0, 63, 63⟩
def SV_CTL_PSAVE_W : Fld := ⟨14, 0, 0, 59, 48⟩
def SV_CTL_T_FIXED_MS : Fld := ⟨14, 0, 0, 47, 36⟩
def SV_CTL_RESUME_DWELL_MS : Fld := ⟨14, 0, 0, 35, 22⟩
def SV_CTL_PFAIL_FILT : Fld := ⟨14, 0, 0, 21, 10⟩
/-! SAVE word 1, SV_AREA (R354) -/
def SV_AREA_SAVE_AREA_GIB : Fld := ⟨14, 0, 1, 63, 32⟩
def SV_AREA_ERASED_GIB : Fld := ⟨14, 0, 1, 31, 0⟩
/-! SAVE word 2, SV_CMD (R354) -/
def SV_CMD_SAVE_NOW : Fld := ⟨14, 0, 2, 63, 62⟩
def SV_CMD_RESTORE : Fld := ⟨14, 0, 2, 61, 61⟩
def SV_CMD_DISCARD : Fld := ⟨14, 0, 2, 60, 60⟩
/-! SAVE word 3, SV_BUDGET (R354) -/
def SV_BUDGET_BUDGET_MIB : Fld := ⟨14, 0, 3, 63, 32⟩
def SV_BUDGET_DIRTY_MIB : Fld := ⟨14, 0, 3, 31, 0⟩
/-! SAVE word 4, SV_INPUTS (R354) -/
def SV_INPUTS_E_USABLE_J : Fld := ⟨14, 0, 4, 63, 32⟩
def SV_INPUTS_SAVE_RATE_MBS : Fld := ⟨14, 0, 4, 31, 0⟩
/-! SAVE word 5, SV_STATUS (R354) -/
def SV_STATUS_SAVE_STATE : Fld := ⟨14, 0, 5, 63, 60⟩
def SV_STATUS_ARMED : Fld := ⟨14, 0, 5, 59, 59⟩
def SV_STATUS_SPATE : Fld := ⟨14, 0, 5, 58, 58⟩
def SV_STATUS_FULL : Fld := ⟨14, 0, 5, 57, 57⟩
def SV_STATUS_OVER : Fld := ⟨14, 0, 5, 56, 56⟩
def SV_STATUS_IMAGE : Fld := ⟨14, 0, 5, 55, 55⟩
def SV_STATUS_IMAGE_KIND : Fld := ⟨14, 0, 5, 54, 53⟩
def SV_STATUS_RESUMED : Fld := ⟨14, 0, 5, 52, 52⟩
def SV_STATUS_LAST_TRIGGER : Fld := ⟨14, 0, 5, 51, 48⟩
def SV_STATUS_IMAGE_SEQ : Fld := ⟨14, 0, 5, 31, 0⟩
/-! SAVE word 6, SV_LAST (R354) -/
def SV_LAST_LAST_SAVE_MS : Fld := ⟨14, 0, 6, 63, 32⟩
def SV_LAST_LAST_SAVE_GIB : Fld := ⟨14, 0, 6, 31, 0⟩
/-! SAVE word 7, SV_RESTORE (R354) -/
def SV_RESTORE_RESTORED_GIB : Fld := ⟨14, 0, 7, 63, 32⟩
def SV_RESTORE_LOST_GRAN : Fld := ⟨14, 0, 7, 31, 0⟩
/-! SAVE word 8, SV_STATS (R354) -/
def SV_STATS_SAVES : Fld := ⟨14, 0, 8, 63, 48⟩
def SV_STATS_RESUMES : Fld := ⟨14, 0, 8, 47, 32⟩
def SV_STATS_SPATE_SETS : Fld := ⟨14, 0, 8, 31, 0⟩
/-! SUPPLY rail record n, word 4, RL_STATUS (R383) -/
def RL_STATUS_RSTATE : Fld := ⟨15, 0, 4, 63, 60⟩
def RL_STATUS_GOOD_IN : Fld := ⟨15, 0, 4, 59, 59⟩
def RL_STATUS_WARN_NOW : Fld := ⟨15, 0, 4, 58, 58⟩
def RL_STATUS_SENSE_CODE : Fld := ⟨15, 0, 4, 57, 48⟩
/-! SUPPLY rail record n, word 5, RL_EDGES (R383) -/
def RL_EDGES_CHATTER_LAST : Fld := ⟨15, 0, 5, 63, 48⟩
def RL_EDGES_CHATTER_MAX : Fld := ⟨15, 0, 5, 47, 32⟩
def RL_EDGES_WARNINGS : Fld := ⟨15, 0, 5, 31, 16⟩
def RL_EDGES_FAULTS : Fld := ⟨15, 0, 5, 15, 0⟩
/-! SUPPLY rail record n, word 6, RL_EXTREMES (R383) -/
def RL_EXTREMES_MIN_CODE : Fld := ⟨15, 0, 6, 63, 54⟩
def RL_EXTREMES_MAX_CODE : Fld := ⟨15, 0, 6, 53, 44⟩
/-! SUPPLY record 32, word 0, SUP_SEQ (R383) -/
def SUP_SEQ_SEQ_STATE : Fld := ⟨15, 32, 0, 63, 59⟩
def SUP_SEQ_EXCLUDED : Fld := ⟨15, 32, 0, 58, 58⟩
def SUP_SEQ_TABLE_COPY : Fld := ⟨15, 32, 0, 57, 56⟩
def SUP_SEQ_EXCL_CAUSE : Fld := ⟨15, 32, 0, 55, 52⟩
def SUP_SEQ_EXCL_RAIL : Fld := ⟨15, 32, 0, 51, 47⟩
def SUP_SEQ_TABLE_SEQ : Fld := ⟨15, 32, 0, 31, 0⟩
/-! SUPPLY record 32, word 1, SUP_TIMING (R383) -/
def SUP_TIMING_SEQ_MS : Fld := ⟨15, 32, 1, 63, 32⟩
def SUP_TIMING_CHAIN_TIMEOUTS : Fld := ⟨15, 32, 1, 31, 16⟩
def SUP_TIMING_SYNC_TIMEOUTS : Fld := ⟨15, 32, 1, 15, 0⟩
/-! SUPPLY record 32, word 2, SUP_INPUT (R383) -/
def SUP_INPUT_IN_CODE : Fld := ⟨15, 32, 2, 63, 54⟩
def SUP_INPUT_IN_GOOD_NOW : Fld := ⟨15, 32, 2, 53, 53⟩
def SUP_INPUT_IN_FAILED : Fld := ⟨15, 32, 2, 52, 52⟩
def SUP_INPUT_IN_FAIL_CNT : Fld := ⟨15, 32, 2, 31, 0⟩
/-! SUPPLY record 32, word 3, HU_CTL (R383) -/
def HU_CTL_HU_TEST_NOW : Fld := ⟨15, 32, 3, 63, 63⟩
def HU_CTL_HU_TEST_HOURS : Fld := ⟨15, 32, 3, 55, 48⟩
def HU_CTL_HU_MIN_J : Fld := ⟨15, 32, 3, 31, 0⟩
/-! SUPPLY record 32, word 4, HU_GAUGE (R383) -/
def HU_GAUGE_GAUGE_VALID : Fld := ⟨15, 32, 4, 63, 63⟩
def HU_GAUGE_GAUGE_OK : Fld := ⟨15, 32, 4, 62, 62⟩
def HU_GAUGE_TESTING : Fld := ⟨15, 32, 4, 61, 61⟩
def HU_GAUGE_V_MV : Fld := ⟨15, 32, 4, 47, 32⟩
def HU_GAUGE_E_USABLE_J : Fld := ⟨15, 32, 4, 31, 0⟩
/-! SUPPLY record 32, word 5, HU_CAP (R383) -/
def HU_CAP_CAP_MF : Fld := ⟨15, 32, 5, 63, 32⟩
def HU_CAP_ESR : Fld := ⟨15, 32, 5, 31, 16⟩
def HU_CAP_TEST_AGE_H : Fld := ⟨15, 32, 5, 15, 0⟩
/-! SUPPLY record 32, word 6, HU_TESTS (R383) -/
def HU_TESTS_TESTS_DONE : Fld := ⟨15, 32, 6, 63, 48⟩
def HU_TESTS_TESTS_DEFERRED : Fld := ⟨15, 32, 6, 47, 32⟩
def HU_TESTS_TESTS_ABORTED : Fld := ⟨15, 32, 6, 31, 16⟩
def HU_TESTS_LAST_RESULT : Fld := ⟨15, 32, 6, 7, 0⟩
/-! SUPPLY record 32, word 7, SUP_RAILS (R383) -/
def SUP_RAILS_RAILS_ON : Fld := ⟨15, 32, 7, 63, 32⟩
def SUP_RAILS_RAILS_FAILED : Fld := ⟨15, 32, 7, 31, 0⟩
/-! CLOCKS word 0, CLK_CTL (R384) -/
def CLK_CTL_ENG_GATE_EN : Fld := ⟨16, 0, 0, 63, 63⟩
def CLK_CTL_CLUSTER_PG_EN : Fld := ⟨16, 0, 0, 62, 62⟩
def CLK_CTL_BLOCK_PG_EN : Fld := ⟨16, 0, 0, 61, 61⟩
def CLK_CTL_STANDBY_EN : Fld := ⟨16, 0, 0, 60, 60⟩
def CLK_CTL_PG_IDLE_US : Fld := ⟨16, 0, 0, 51, 32⟩
/-! CLOCKS word 1, CLK_STATUS (R384) -/
def CLK_STATUS_POWERED : Fld := ⟨16, 0, 1, 63, 40⟩
def CLK_STATUS_CLOCKED : Fld := ⟨16, 0, 1, 39, 16⟩
def CLK_STATUS_STANDBY_STATE : Fld := ⟨16, 0, 1, 3, 2⟩
/-! CLOCKS word 2, CLK_WAKES (R384) -/
def CLK_WAKES_CLUSTER_WAKES : Fld := ⟨16, 0, 2, 63, 32⟩
def CLK_WAKES_BLOCK_WAKES : Fld := ⟨16, 0, 2, 31, 0⟩
/-! CLOCKS word 3, CLK_WAKE_MAX (R384) -/
def CLK_WAKE_MAX_CLUSTER_WAKE_MAX_NS : Fld := ⟨16, 0, 3, 63, 48⟩
def CLK_WAKE_MAX_BLOCK_WAKE_MAX_NS : Fld := ⟨16, 0, 3, 47, 32⟩
def CLK_WAKE_MAX_STANDBY_WAKE_MAX_NS : Fld := ⟨16, 0, 3, 31, 0⟩
/-! CLOCKS word 4, CLK_PLL (R384) -/
def CLK_PLL_PLL_LOCK : Fld := ⟨16, 0, 4, 63, 59⟩
def CLK_PLL_PLL_LOSSES : Fld := ⟨16, 0, 4, 47, 32⟩
/-! STACK word 0, STK_CTL (R408) -/
def STK_CTL_SHAPE_W : Fld := ⟨18, 0, 0, 63, 60⟩
def STK_CTL_SHAPE_H : Fld := ⟨18, 0, 0, 59, 56⟩
def STK_CTL_IPV4_EN : Fld := ⟨18, 0, 0, 55, 55⟩
def STK_CTL_STEER_EN : Fld := ⟨18, 0, 0, 54, 54⟩
def STK_CTL_TAKEOVER_US : Fld := ⟨18, 0, 0, 51, 32⟩
/-! STACK words 1 and 2, STK_SID6_HI and STK_SID6_LO (R408) -/
def STK_SID6_HI_SID6 : Fld := ⟨18, 0, 1, 63, 0⟩
/-! STACK word 3, STK_ADDR4 (R408) -/
def STK_ADDR4_SID4 : Fld := ⟨18, 0, 3, 63, 32⟩
def STK_ADDR4_DADDR4_BASE : Fld := ⟨18, 0, 3, 31, 0⟩
/-! STACK words 4 and 5, STK_DADDR6_HI and STK_DADDR6_LO (R408) -/
def STK_DADDR6_HI_DADDR6_BASE : Fld := ⟨18, 0, 4, 63, 0⟩
/-! STACK word 6, STK_DIGEST (R408) -/
def STK_DIGEST_DIGEST : Fld := ⟨18, 0, 6, 63, 0⟩
/-! STACK word 8, STK_STATUS (R408) -/
def STK_STATUS_MEMBER_STATE : Fld := ⟨18, 0, 8, 63, 62⟩
def STK_STATUS_LARGE : Fld := ⟨18, 0, 8, 61, 61⟩
def STK_STATUS_DEVICES : Fld := ⟨18, 0, 8, 60, 54⟩
def STK_STATUS_MASTER_IDX : Fld := ⟨18, 0, 8, 53, 48⟩
def STK_STATUS_DEPUTY_IDX : Fld := ⟨18, 0, 8, 47, 42⟩
def STK_STATUS_DEPUTY_NONE : Fld := ⟨18, 0, 8, 41, 41⟩
def STK_STATUS_MASTER_EPOCH : Fld := ⟨18, 0, 8, 31, 0⟩
/-! STACK word 9, STK_MEMBERS (R408) -/
def STK_MEMBERS_MEMBERS : Fld := ⟨18, 0, 9, 63, 0⟩
/-! STACK word 10, STK_LINKS (R408) -/
def STK_LINKS_LINK_MY : Fld := ⟨18, 0, 10, 63, 48⟩
def STK_LINKS_LINK_PY : Fld := ⟨18, 0, 10, 47, 32⟩
def STK_LINKS_LINK_MX : Fld := ⟨18, 0, 10, 31, 16⟩
def STK_LINKS_LINK_PX : Fld := ⟨18, 0, 10, 15, 0⟩
/-! STACK word 11, STK_TIME (R408) -/
def STK_TIME_TIME_ERR : Fld := ⟨18, 0, 11, 63, 48⟩
def STK_TIME_TIME_ERR_MAX : Fld := ⟨18, 0, 11, 47, 32⟩
def STK_TIME_TIME_AGE_US : Fld := ⟨18, 0, 11, 31, 0⟩
/-! STACK word 12, STK_RELAY (R408) -/
def STK_RELAY_RELAYED : Fld := ⟨18, 0, 12, 63, 32⟩
def STK_RELAY_REROUTES : Fld := ⟨18, 0, 12, 31, 0⟩
/-! STACK word 13, STK_EXCL (R408) -/
def STK_EXCL_LAST_EXCL : Fld := ⟨18, 0, 13, 63, 58⟩
def STK_EXCL_LAST_CAUSE : Fld := ⟨18, 0, 13, 57, 54⟩
def STK_EXCL_TAKEOVERS : Fld := ⟨18, 0, 13, 31, 16⟩
def STK_EXCL_CLAIMS_FAILED : Fld := ⟨18, 0, 13, 15, 0⟩
/-! SECURITY record 0, word 0, SEC_STATUS (R432) -/
def SEC_STATUS_FW_SVN : Fld := ⟨19, 0, 0, 63, 58⟩
def SEC_STATUS_FLOOR : Fld := ⟨19, 0, 0, 57, 52⟩
def SEC_STATUS_FW_COPY : Fld := ⟨19, 0, 0, 51, 50⟩
def SEC_STATUS_OWNED : Fld := ⟨19, 0, 0, 49, 49⟩
def SEC_STATUS_CAL_VALID : Fld := ⟨19, 0, 0, 48, 48⟩
def SEC_STATUS_RNG_OK : Fld := ⟨19, 0, 0, 47, 47⟩
def SEC_STATUS_ROTATING : Fld := ⟨19, 0, 0, 46, 46⟩
def SEC_STATUS_FLASH_KEY_GEN : Fld := ⟨19, 0, 0, 31, 16⟩
/-! SECURITY record 0, word 1, SEC_CTL (R432) -/
def SEC_CTL_ATTEST : Fld := ⟨19, 0, 1, 63, 63⟩
def SEC_CTL_TAKE_OWNER : Fld := ⟨19, 0, 1, 62, 62⟩
def SEC_CTL_CIPHER_PROG : Fld := ⟨19, 0, 1, 7, 0⟩
/-! SECURITY record 0, word 2, SEC_NONCE (R432) -/
def SEC_NONCE_TOKEN_NONCE : Fld := ⟨19, 0, 2, 63, 0⟩
/-! SECURITY record 0, word 3, SEC_TOKSTAT (R432) -/
def SEC_TOKSTAT_LAST_KIND : Fld := ⟨19, 0, 3, 63, 56⟩
def SEC_TOKSTAT_REASON : Fld := ⟨19, 0, 3, 55, 48⟩
def SEC_TOKSTAT_ACCEPTED : Fld := ⟨19, 0, 3, 31, 16⟩
def SEC_TOKSTAT_REFUSED : Fld := ⟨19, 0, 3, 15, 0⟩
/-! SECURITY record 0, words 4 to 11, IDKEY (word 4 + j holds bytes 8j to 8j + 7) (R432) -/
def IDKEY : Fld := ⟨19, 0, 4, 63, 0⟩
/-! SECURITY record 0, words 12 to 26, IDCERT (word 12 + j holds bytes 8j to 8j + 7) (R432) -/
def IDCERT_IDCERT_SIG : Fld := ⟨19, 0, 12, 63, 0⟩
/-! SECURITY record 0, words 27 to 34, ATT_NONCE (word 27 + j holds bytes 8j to 8j + 7) (R432) -/
def ATT_NONCE : Fld := ⟨19, 0, 27, 63, 0⟩
/-! SECURITY record 0, words 35 to 42, OWNER_NEW (word 35 + j holds bytes 8j to 8j + 7) (R432) -/
def OWNER_NEW : Fld := ⟨19, 0, 35, 63, 0⟩
/-! SECURITY record 0, words 43 to 74, TOKEN (word 43 + j holds bytes 8j to 8j + 7) (R432) -/
def TOKEN : Fld := ⟨19, 0, 43, 63, 0⟩
/-! SECURITY record 2 + j, word 0, LOG_CTL (R432) -/
def LOG_CTL_LVALID : Fld := ⟨19, 2, 0, 63, 63⟩
def LOG_CTL_REGION : Fld := ⟨19, 2, 0, 47, 32⟩
def LOG_CTL_SEAL_REGION : Fld := ⟨19, 2, 0, 15, 0⟩
/-! SECURITY record 2 + j, word 1, LOG_SEAL (R432) -/
def LOG_SEAL_SEAL_MS : Fld := ⟨19, 2, 1, 31, 0⟩
/-! SECURITY record 2 + j, word 2, LOG_FRONT (R432) -/
def LOG_FRONT_FRONTIER : Fld := ⟨19, 2, 2, 63, 0⟩
/-! SECURITY record 2 + j, word 3, LOG_SEQ (R432) -/
def LOG_SEQ_LAST_SEAL_SEQ : Fld := ⟨19, 2, 3, 63, 0⟩
/-! SECURITY record 2 + j, word 4, LOG_GENESIS (R432) -/
def LOG_GENESIS_GENESIS_CAL : Fld := ⟨19, 2, 4, 63, 0⟩
/-! SECURITY record 2 + j, word 5, LOG_STAT (R432) -/
def LOG_STAT_KEEPER : Fld := ⟨19, 2, 5, 63, 63⟩
def LOG_STAT_RING_WRAPS : Fld := ⟨19, 2, 5, 31, 0⟩
/-! SECURITY record 2 + j, word 6, LOG_DIGEST (R432) -/
def LOG_DIGEST_DIGEST_LO : Fld := ⟨19, 2, 6, 63, 0⟩
/-! RECORDER word 0, REC_SEL (R448) -/
def REC_SEL_LIFE : Fld := ⟨20, 0, 0, 63, 63⟩
def REC_SEL_LOADED : Fld := ⟨20, 0, 0, 62, 62⟩
def REC_SEL_MISSING : Fld := ⟨20, 0, 0, 61, 61⟩
def REC_SEL_FRAME : Fld := ⟨20, 0, 0, 31, 0⟩
/-! RECORDER word 1, REC_RING (R448) -/
def REC_RING_NEXT_SEQ : Fld := ⟨20, 0, 1, 63, 32⟩
def REC_RING_OLDEST_SEQ : Fld := ⟨20, 0, 1, 31, 0⟩
/-! RECORDER word 2, REC_CAL (R448) -/
def REC_CAL_CAL_NOW : Fld := ⟨20, 0, 2, 63, 0⟩
/-! RECORDER word 3, REC_TRIM_CAL (R448) -/
def REC_TRIM_CAL_TRIM_CAL : Fld := ⟨20, 0, 3, 63, 0⟩
/-! RECORDER word 4, REC_TRIM_AT (R448) -/
def REC_TRIM_AT_TRIM_STACK : Fld := ⟨20, 0, 4, 63, 0⟩
/-! RECORDER word 5, REC_TRIMSTAT (R448) -/
def REC_TRIMSTAT_RATE_PPB : Fld := ⟨20, 0, 5, 63, 32⟩
def REC_TRIMSTAT_LAST_OFFSET_US : Fld := ⟨20, 0, 5, 31, 0⟩
/-! RECORDER word 6, REC_STATS (R448) -/
def REC_STATS_CLEARS : Fld := ⟨20, 0, 6, 63, 55⟩
def REC_STATS_FRAMES_LOST : Fld := ⟨20, 0, 6, 31, 0⟩
/-! HEALTH record i, word 0, HL_STATE (R449) -/
def HL_STATE_STATE : Fld := ⟨21, 0, 0, 63, 60⟩
def HL_STATE_KIND : Fld := ⟨21, 0, 0, 59, 56⟩
def HL_STATE_REMAIN_PCT : Fld := ⟨21, 0, 0, 55, 48⟩
def HL_STATE_SAMPLES : Fld := ⟨21, 0, 0, 31, 0⟩
/-! HEALTH record i, word 1, HL_EOL (R449) -/
def HL_EOL_EOL_DAYS : Fld := ⟨21, 0, 1, 59, 40⟩
def HL_EOL_EARLY_DAYS : Fld := ⟨21, 0, 1, 39, 20⟩
def HL_EOL_LATE_DAYS : Fld := ⟨21, 0, 1, 19, 0⟩
/-! HEALTH record i, word 2, HL_METRIC (R449) -/
def HL_METRIC_METRIC : Fld := ⟨21, 0, 2, 63, 32⟩
def HL_METRIC_LIMIT : Fld := ⟨21, 0, 2, 31, 0⟩
/-! HEALTH record i, word 3, HL_BASE (R449) -/
def HL_BASE_BASELINE : Fld := ⟨21, 0, 3, 63, 32⟩
/-! HEALTH record i, word 4, HL_PRED_CAL (R449) -/
def HL_PRED_CAL_PRED_CAL : Fld := ⟨21, 0, 4, 63, 0⟩
/-! HEALTH record 49, word 0, HL_CTL (R449) -/
def HL_CTL_WINDOW_DAYS : Fld := ⟨21, 49, 0, 63, 48⟩
def HL_CTL_WARN_DAYS : Fld := ⟨21, 49, 0, 47, 32⟩
def HL_CTL_EYE_MIN_MUI : Fld := ⟨21, 49, 0, 31, 16⟩
def HL_CTL_NEW_BANK : Fld := ⟨21, 49, 0, 0, 0⟩
/-! HEALTH record 49, word 1, HL_LIMITS (R449) -/
def HL_LIMITS_CORR_DAY_LIMIT : Fld := ⟨21, 49, 1, 63, 32⟩
/-! HEALTH record 49, word 2, HL_LIFE (R449) -/
def HL_LIFE_EQ80_HOURS : Fld := ⟨21, 49, 2, 63, 32⟩
def HL_LIFE_POWER_HOURS : Fld := ⟨21, 49, 2, 31, 0⟩
/-! HEALTH record 49, word 3, HL_LIFE_PCT (R449) -/
def HL_LIFE_PCT_LIFE_USED_PCT : Fld := ⟨21, 49, 3, 63, 56⟩
def HL_LIFE_PCT_TJ_MAX_C : Fld := ⟨21, 49, 3, 55, 48⟩
/-! SUPPLY rail record n, words 0 to 3: QW0 to QW3 of the rail record (R383) -/
def RL_QW : Fld := ⟨15, 0, 0, 63, 0⟩
/-! SECURITY record 1, words 0 to 31: the attestation report (R432) -/
def ATT_REPORT : Fld := ⟨19, 1, 0, 63, 0⟩
/-! RECORDER record 1: the frame window (R448) -/
def REC_FRAME_WIN : Fld := ⟨20, 1, 0, 63, 0⟩
/-! RECORDER record 2: the clear log window (R448) -/
def REC_CLEAR_LOG : Fld := ⟨20, 2, 0, 63, 0⟩

end Sys2Proof.Machine.F
end

