-- ==== Sys2Proof/Machine/FieldTable.lean ====
section
/-! DEFINITION. The field maps as a table (R4, R5, R6): for each field the records and words it stands in, its bits, its
access code, what the resets do to it and the values a write may give it; and the After reset value of every word. -/

namespace Sys2Proof.Machine

/-- The access codes (R5). -/
inductive Acc where
  | ro | rw | w1c | st | im
  deriving DecidableEq, Repr

/-- What the resets do to a field (R6): set by every reset; kept (control); kept (warm); held in flash or fuses,
which no reset clears (R230). -/
inductive Keep where
  | none | control | warm | stored
  deriving DecidableEq, Repr

/-- One field of a field map: records `rl` to `rh`, words `wl`, `wl + stride`, … up to `wh`, bits `hi` to `lo`. `ok` lists the
intervals of values a write may give it (none listed: all), `align` the number they are multiples of, and `resv` the first
reserved encoding (0: none). -/
structure FRow where
  rl : Nat
  rh : Nat
  wl : Nat
  wh : Nat
  stride : Nat
  hi : Nat
  lo : Nat
  acc : Acc
  keep : Keep
  ok : List (Nat × Nat)
  align : Nat
  resv : Nat
  deriving DecidableEq, Repr

/-- The field maps of space DEVICE (R237). -/
def rowsDevice : List FRow := [
  ⟨0, 0, 0, 0, 1, 63, 0, .ro, .none, [], 1, 0⟩,
  ⟨0, 0, 1, 1, 1, 15, 1, .st, .none, [], 1, 0⟩,
  ⟨0, 0, 2, 2, 1, 63, 63, .st, .none, [], 1, 0⟩,
  ⟨0, 0, 3, 3, 1, 63, 32, .ro, .none, [], 1, 0⟩,
  ⟨0, 0, 3, 3, 1, 31, 0, .ro, .none, [], 1, 0⟩]

/-- The field maps of space WEIR (R236). -/
def rowsWeir : List FRow := [
  ⟨0, 0, 0, 0, 1, 59, 56, .st, .control, [(6, 14)], 1, 0⟩,
  ⟨0, 0, 0, 0, 1, 55, 48, .st, .control, [(1, 255)], 1, 0⟩,
  ⟨0, 0, 0, 0, 1, 47, 32, .st, .control, [(10, 10000)], 1, 0⟩,
  ⟨0, 0, 1, 1, 1, 63, 0, .ro, .control, [], 1, 0⟩,
  ⟨0, 0, 2, 2, 1, 63, 32, .ro, .none, [], 1, 0⟩,
  ⟨0, 0, 2, 2, 1, 31, 30, .ro, .none, [], 1, 0⟩,
  ⟨0, 0, 3, 3, 1, 63, 0, .ro, .none, [], 1, 0⟩,
  ⟨0, 0, 4, 4, 1, 63, 48, .ro, .none, [], 1, 0⟩,
  ⟨0, 0, 4, 4, 1, 47, 42, .ro, .none, [], 1, 0⟩,
  ⟨0, 0, 4, 4, 1, 31, 24, .ro, .none, [], 1, 0⟩,
  ⟨0, 0, 4, 4, 1, 23, 16, .ro, .none, [], 1, 0⟩,
  ⟨0, 0, 4, 4, 1, 15, 0, .ro, .none, [], 1, 0⟩]

/-- The field maps of space LINK (R109). -/
def rowsLink : List FRow := [
  ⟨0, 11, 0, 0, 1, 63, 62, .st, .control, [], 1, 0⟩,
  ⟨0, 11, 0, 0, 1, 61, 60, .st, .control, [], 1, 0⟩,
  ⟨0, 11, 0, 0, 1, 55, 48, .st, .none, [], 1, 0⟩,
  ⟨0, 11, 0, 0, 1, 47, 40, .st, .none, [], 1, 0⟩,
  ⟨0, 11, 0, 0, 1, 35, 33, .st, .control, [], 1, 0⟩,
  ⟨0, 11, 0, 0, 1, 32, 32, .st, .control, [], 1, 0⟩,
  ⟨0, 11, 0, 0, 1, 31, 29, .st, .control, [], 1, 0⟩,
  ⟨0, 11, 0, 0, 1, 28, 23, .st, .control, [], 1, 0⟩,
  ⟨0, 11, 0, 0, 1, 22, 17, .st, .control, [], 1, 0⟩,
  ⟨0, 11, 1, 1, 1, 7, 0, .im, .none, [], 1, 0⟩,
  ⟨0, 11, 2, 2, 1, 47, 0, .st, .control, [], 8, 0⟩,
  ⟨0, 11, 3, 3, 1, 63, 56, .ro, .none, [], 1, 0⟩,
  ⟨0, 11, 3, 3, 1, 55, 48, .ro, .none, [], 1, 0⟩,
  ⟨0, 11, 3, 3, 1, 47, 40, .ro, .none, [], 1, 0⟩,
  ⟨0, 11, 3, 3, 1, 7, 0, .ro, .none, [], 1, 0⟩,
  ⟨0, 11, 4, 4, 1, 63, 32, .ro, .none, [], 1, 0⟩,
  ⟨0, 11, 4, 4, 1, 31, 0, .ro, .none, [], 1, 0⟩,
  ⟨0, 11, 5, 5, 1, 63, 32, .ro, .none, [], 1, 0⟩,
  ⟨0, 11, 5, 5, 1, 31, 0, .ro, .none, [], 1, 0⟩,
  ⟨0, 11, 6, 6, 1, 63, 32, .ro, .none, [], 1, 0⟩,
  ⟨0, 11, 6, 6, 1, 31, 0, .ro, .none, [], 1, 0⟩]

/-- The field maps of space TRANSPORT (R110). -/
def rowsTransport : List FRow := [
  ⟨0, 0, 0, 0, 1, 63, 48, .st, .control, [(0, 4790), (4792, 65535)], 1, 0⟩,
  ⟨0, 0, 0, 0, 1, 47, 46, .st, .control, [], 1, 0⟩,
  ⟨0, 0, 0, 0, 1, 45, 40, .st, .control, [], 1, 0⟩,
  ⟨0, 0, 0, 0, 1, 39, 32, .st, .control, [(1, 255)], 1, 0⟩,
  ⟨0, 0, 0, 0, 1, 31, 16, .st, .control, [(1, 65535)], 1, 0⟩,
  ⟨0, 0, 0, 0, 1, 15, 0, .st, .control, [], 1, 0⟩,
  ⟨0, 0, 1, 1, 1, 63, 48, .st, .control, [(1, 65535)], 1, 0⟩,
  ⟨0, 0, 1, 1, 1, 47, 32, .st, .control, [(10, 65535)], 1, 0⟩,
  ⟨0, 0, 2, 2, 1, 63, 62, .st, .control, [], 1, 3⟩,
  ⟨0, 0, 2, 2, 1, 61, 57, .st, .control, [(1, 31)], 1, 0⟩,
  ⟨0, 0, 2, 2, 1, 56, 54, .st, .control, [], 1, 0⟩,
  ⟨0, 0, 2, 2, 1, 47, 32, .st, .control, [(500, 65535)], 1, 0⟩,
  ⟨0, 0, 3, 3, 1, 63, 48, .st, .control, [(10, 65535)], 1, 0⟩,
  ⟨0, 0, 3, 3, 1, 47, 32, .st, .control, [(10, 65535)], 1, 0⟩,
  ⟨0, 0, 3, 3, 1, 31, 16, .st, .control, [(10, 65535)], 1, 0⟩,
  ⟨0, 0, 3, 3, 1, 15, 0, .st, .control, [(64, 49152)], 1, 0⟩,
  ⟨0, 0, 4, 4, 1, 63, 56, .st, .control, [(1, 255)], 1, 0⟩,
  ⟨0, 0, 4, 4, 1, 55, 48, .st, .control, [], 1, 0⟩,
  ⟨0, 0, 4, 4, 1, 47, 40, .st, .control, [], 1, 0⟩,
  ⟨0, 0, 4, 4, 1, 39, 32, .st, .control, [(1, 255)], 1, 0⟩,
  ⟨0, 0, 4, 4, 1, 31, 16, .st, .control, [], 1, 0⟩,
  ⟨0, 0, 4, 4, 1, 15, 0, .st, .control, [(1, 65535)], 1, 0⟩,
  ⟨0, 0, 5, 5, 1, 63, 56, .st, .control, [(1, 255)], 1, 0⟩,
  ⟨0, 0, 5, 5, 1, 55, 55, .st, .control, [], 1, 0⟩,
  ⟨0, 0, 6, 6, 1, 63, 48, .st, .control, [(1, 1000)], 1, 0⟩,
  ⟨0, 0, 6, 6, 1, 47, 32, .st, .control, [(256, 2048)], 1, 0⟩,
  ⟨0, 0, 6, 6, 1, 31, 16, .st, .control, [(0, 4096)], 1, 0⟩,
  ⟨0, 0, 7, 7, 1, 63, 32, .ro, .none, [], 1, 0⟩,
  ⟨0, 0, 7, 7, 1, 31, 0, .ro, .none, [], 1, 0⟩,
  ⟨0, 0, 8, 8, 1, 63, 32, .ro, .none, [], 1, 0⟩,
  ⟨0, 0, 8, 8, 1, 31, 0, .ro, .none, [], 1, 0⟩,
  ⟨0, 0, 9, 9, 1, 63, 32, .ro, .none, [], 1, 0⟩,
  ⟨0, 0, 9, 9, 1, 31, 0, .ro, .none, [], 1, 0⟩,
  ⟨0, 0, 10, 10, 1, 63, 48, .ro, .none, [], 1, 0⟩,
  ⟨0, 0, 10, 10, 1, 45, 32, .ro, .none, [], 1, 0⟩,
  ⟨0, 0, 10, 10, 1, 31, 0, .ro, .none, [], 1, 0⟩]

/-- The field maps of space DOMAIN (R46). -/
def rowsDomain : List FRow := [
  ⟨0, 65535, 0, 0, 1, 63, 63, .st, .control, [], 1, 0⟩,
  ⟨0, 65535, 0, 0, 1, 62, 62, .st, .control, [], 1, 0⟩,
  ⟨0, 65535, 0, 0, 1, 61, 61, .ro, .none, [], 1, 0⟩,
  ⟨0, 65535, 1, 1, 1, 63, 48, .ro, .none, [], 1, 0⟩,
  ⟨0, 65535, 1, 1, 1, 47, 0, .ro, .control, [], 1, 0⟩,
  ⟨0, 65535, 2, 2, 1, 31, 16, .ro, .none, [], 1, 0⟩,
  ⟨0, 65535, 2, 2, 1, 15, 0, .ro, .control, [], 1, 0⟩,
  ⟨0, 65535, 3, 3, 1, 0, 0, .st, .none, [], 1, 0⟩,
  ⟨0, 65535, 4, 4, 1, 63, 32, .ro, .none, [], 1, 0⟩,
  ⟨0, 65535, 4, 4, 1, 31, 0, .ro, .none, [], 1, 0⟩,
  ⟨0, 65535, 8, 3077, 3, 63, 63, .st, .control, [], 1, 0⟩,
  ⟨0, 65535, 8, 3077, 3, 62, 62, .st, .control, [], 1, 0⟩,
  ⟨0, 65535, 8, 3077, 3, 61, 61, .st, .control, [], 1, 0⟩,
  ⟨0, 65535, 8, 3077, 3, 60, 60, .st, .control, [], 1, 0⟩,
  ⟨0, 65535, 8, 3077, 3, 59, 59, .st, .control, [], 1, 0⟩,
  ⟨0, 65535, 8, 3077, 3, 51, 16, .st, .control, [], 1, 0⟩,
  ⟨0, 65535, 9, 3078, 3, 63, 48, .st, .control, [], 1, 0⟩,
  ⟨0, 65535, 9, 3078, 3, 33, 0, .st, .control, [], 1, 0⟩,
  ⟨0, 65535, 10, 3079, 3, 33, 0, .st, .control, [(1, 17179869183)], 1, 0⟩]

/-- The field maps of space REGION (R45). -/
def rowsRegion : List FRow := [
  ⟨0, 65535, 0, 0, 1, 63, 63, .st, .control, [], 1, 0⟩,
  ⟨0, 65535, 0, 0, 1, 62, 61, .st, .control, [], 1, 0⟩,
  ⟨0, 65535, 0, 0, 1, 52, 48, .st, .control, [], 1, 0⟩,
  ⟨0, 65535, 0, 0, 1, 33, 0, .st, .control, [(0, 8589934592)], 1, 0⟩,
  ⟨0, 65535, 1, 4, 1, 60, 56, .st, .control, [], 1, 0⟩,
  ⟨0, 65535, 1, 4, 1, 52, 48, .st, .control, [], 1, 0⟩,
  ⟨0, 65535, 1, 4, 1, 44, 40, .st, .control, [], 1, 0⟩,
  ⟨0, 65535, 1, 4, 1, 36, 32, .st, .control, [], 1, 0⟩,
  ⟨0, 65535, 1, 4, 1, 28, 24, .st, .control, [], 1, 0⟩,
  ⟨0, 65535, 1, 4, 1, 20, 16, .st, .control, [], 1, 0⟩,
  ⟨0, 65535, 1, 4, 1, 12, 8, .st, .control, [], 1, 0⟩,
  ⟨0, 65535, 1, 4, 1, 4, 0, .st, .control, [], 1, 0⟩,
  ⟨0, 65535, 5, 5, 1, 43, 16, .st, .control, [], 1, 0⟩,
  ⟨0, 65535, 6, 6, 1, 63, 62, .ro, .control, [], 1, 0⟩,
  ⟨0, 65535, 6, 6, 1, 61, 61, .ro, .none, [], 1, 0⟩,
  ⟨0, 65535, 6, 6, 1, 60, 60, .ro, .none, [], 1, 0⟩,
  ⟨0, 65535, 6, 6, 1, 59, 59, .ro, .control, [], 1, 0⟩,
  ⟨0, 65535, 6, 6, 1, 31, 0, .ro, .control, [], 1, 0⟩,
  ⟨0, 65535, 7, 7, 1, 1, 1, .st, .none, [], 1, 0⟩,
  ⟨0, 65535, 7, 7, 1, 0, 0, .im, .none, [], 1, 0⟩]

/-- The field maps of space QUEUE (R145). -/
def rowsQueue : List FRow := [
  ⟨0, 270335, 0, 0, 1, 63, 63, .st, .none, [], 1, 0⟩,
  ⟨0, 270335, 0, 0, 1, 62, 62, .st, .none, [], 1, 0⟩,
  ⟨0, 270335, 0, 0, 1, 61, 61, .st, .none, [], 1, 0⟩,
  ⟨0, 270335, 0, 0, 1, 47, 32, .st, .none, [], 1, 0⟩,
  ⟨0, 270335, 0, 0, 1, 11, 0, .st, .none, [], 1, 0⟩,
  ⟨0, 270335, 1, 2, 1, 63, 0, .st, .none, [], 1, 0⟩,
  ⟨0, 270335, 3, 3, 1, 63, 63, .st, .none, [], 1, 0⟩,
  ⟨0, 270335, 3, 3, 1, 59, 48, .st, .none, [], 1, 0⟩,
  ⟨0, 270335, 3, 3, 1, 47, 0, .st, .none, [], 1, 0⟩,
  ⟨0, 270335, 4, 4, 1, 63, 32, .st, .none, [], 1, 0⟩,
  ⟨0, 270335, 5, 5, 1, 47, 24, .st, .none, [], 1, 0⟩,
  ⟨0, 270335, 5, 5, 1, 23, 0, .st, .none, [], 1, 0⟩,
  ⟨0, 270335, 6, 6, 1, 63, 0, .st, .none, [], 32, 0⟩,
  ⟨0, 270335, 7, 7, 1, 63, 0, .st, .none, [], 1, 0⟩,
  ⟨0, 270335, 8, 8, 1, 4, 0, .st, .none, [(6, 16)], 1, 0⟩,
  ⟨0, 270335, 9, 9, 1, 47, 0, .st, .none, [], 1, 0⟩,
  ⟨0, 270335, 10, 10, 1, 63, 60, .ro, .none, [], 1, 0⟩,
  ⟨0, 270335, 10, 10, 1, 59, 59, .ro, .none, [], 1, 0⟩,
  ⟨0, 270335, 10, 10, 1, 58, 58, .ro, .none, [], 1, 0⟩,
  ⟨0, 270335, 10, 10, 1, 44, 32, .ro, .none, [], 1, 0⟩,
  ⟨0, 270335, 10, 10, 1, 31, 0, .ro, .none, [], 1, 0⟩,
  ⟨0, 270335, 11, 11, 1, 63, 32, .ro, .none, [], 1, 0⟩,
  ⟨0, 270335, 11, 11, 1, 31, 0, .ro, .none, [], 1, 0⟩,
  ⟨0, 270335, 12, 12, 1, 12, 0, .ro, .none, [], 1, 0⟩,
  ⟨0, 270335, 13, 13, 1, 15, 12, .im, .none, [], 1, 0⟩,
  ⟨0, 270335, 13, 13, 1, 11, 9, .im, .none, [], 1, 0⟩,
  ⟨0, 270335, 13, 13, 1, 0, 0, .im, .none, [], 1, 0⟩]

/-- The field maps of space PROGRAM (R183). -/
def rowsProgram : List FRow := [
  ⟨0, 1023, 0, 0, 1, 63, 63, .st, .none, [], 1, 0⟩,
  ⟨0, 1023, 0, 0, 1, 62, 62, .st, .none, [], 1, 0⟩,
  ⟨0, 1023, 0, 0, 1, 61, 61, .st, .none, [], 1, 0⟩,
  ⟨0, 1023, 0, 0, 1, 47, 32, .st, .none, [], 1, 0⟩,
  ⟨0, 1023, 0, 0, 1, 12, 0, .st, .none, [(1, 4096)], 1, 0⟩,
  ⟨0, 1023, 1, 1, 1, 51, 32, .st, .none, [(1, 100000)], 1, 0⟩,
  ⟨0, 1023, 1, 1, 1, 20, 0, .st, .none, [(1, 1048576)], 1, 0⟩,
  ⟨0, 1023, 2, 2, 1, 52, 32, .ro, .none, [], 1, 0⟩,
  ⟨0, 1023, 2, 2, 1, 31, 0, .ro, .none, [], 1, 0⟩,
  ⟨0, 1023, 3, 3, 1, 63, 32, .ro, .none, [], 1, 0⟩,
  ⟨0, 1023, 3, 3, 1, 31, 0, .ro, .none, [], 1, 0⟩,
  ⟨0, 1023, 4, 4, 1, 63, 56, .ro, .none, [], 1, 0⟩,
  ⟨0, 1023, 4, 4, 1, 55, 44, .ro, .none, [], 1, 0⟩,
  ⟨0, 1023, 5, 5, 1, 63, 48, .ro, .none, [], 1, 0⟩,
  ⟨0, 1023, 5, 5, 1, 47, 32, .ro, .none, [], 1, 0⟩,
  ⟨0, 1023, 8, 15, 1, 63, 61, .st, .none, [], 1, 5⟩,
  ⟨0, 1023, 8, 15, 1, 60, 60, .st, .none, [], 1, 0⟩,
  ⟨0, 1023, 8, 15, 1, 59, 59, .st, .none, [], 1, 0⟩,
  ⟨0, 1023, 8, 15, 1, 58, 58, .st, .none, [], 1, 0⟩,
  ⟨0, 1023, 8, 15, 1, 57, 57, .st, .none, [], 1, 0⟩,
  ⟨0, 1023, 8, 15, 1, 56, 52, .st, .none, [], 1, 0⟩,
  ⟨0, 1023, 8, 15, 1, 31, 0, .st, .none, [], 1, 0⟩,
  ⟨0, 1023, 64, 4159, 1, 63, 0, .st, .none, [], 1, 0⟩,
  ⟨1024, 1024, 0, 0, 1, 63, 48, .ro, .none, [], 1, 0⟩,
  ⟨1024, 1024, 0, 0, 1, 47, 40, .ro, .none, [], 1, 0⟩,
  ⟨1024, 1024, 0, 0, 1, 39, 28, .ro, .none, [], 1, 0⟩,
  ⟨1024, 1024, 0, 0, 1, 27, 26, .ro, .none, [], 1, 0⟩,
  ⟨1024, 1024, 1, 1, 1, 63, 48, .ro, .none, [], 1, 0⟩,
  ⟨1024, 1024, 1, 1, 1, 36, 26, .ro, .none, [], 1, 0⟩]

/-- The field maps of space CACHE (R264). -/
def rowsCache : List FRow := [
  ⟨0, 7, 0, 0, 1, 63, 63, .st, .control, [], 1, 0⟩,
  ⟨0, 7, 0, 0, 1, 0, 0, .im, .none, [], 1, 0⟩,
  ⟨0, 7, 1, 1, 1, 63, 63, .ro, .none, [], 1, 0⟩,
  ⟨0, 7, 1, 1, 1, 62, 62, .ro, .none, [], 1, 0⟩,
  ⟨0, 7, 1, 1, 1, 61, 61, .ro, .none, [], 1, 0⟩,
  ⟨0, 7, 1, 1, 1, 53, 48, .ro, .none, [], 1, 0⟩,
  ⟨0, 7, 1, 1, 1, 47, 40, .ro, .none, [], 1, 0⟩,
  ⟨0, 7, 1, 1, 1, 39, 32, .ro, .none, [], 1, 0⟩,
  ⟨0, 7, 2, 2, 1, 63, 32, .ro, .none, [], 1, 0⟩,
  ⟨0, 7, 2, 2, 1, 31, 0, .ro, .none, [], 1, 0⟩,
  ⟨0, 7, 3, 3, 1, 63, 32, .ro, .none, [], 1, 0⟩,
  ⟨0, 7, 3, 3, 1, 31, 0, .ro, .none, [], 1, 0⟩,
  ⟨0, 7, 4, 4, 1, 63, 32, .ro, .none, [], 1, 0⟩,
  ⟨0, 7, 4, 4, 1, 31, 16, .ro, .none, [], 1, 0⟩,
  ⟨0, 7, 4, 4, 1, 15, 0, .ro, .none, [], 1, 0⟩,
  ⟨0, 7, 5, 5, 1, 63, 32, .ro, .none, [], 1, 0⟩,
  ⟨0, 7, 5, 5, 1, 31, 0, .ro, .none, [], 1, 0⟩]

/-- The field maps of space POOL (R265). -/
def rowsPool : List FRow := [
  ⟨0, 15, 0, 0, 1, 63, 63, .st, .control, [], 1, 0⟩,
  ⟨0, 15, 0, 0, 1, 62, 62, .st, .control, [], 1, 0⟩,
  ⟨0, 15, 0, 0, 1, 60, 56, .st, .control, [(8, 16)], 1, 0⟩,
  ⟨0, 15, 0, 0, 1, 51, 32, .st, .control, [(1, 524288)], 1, 0⟩,
  ⟨0, 15, 0, 0, 1, 16, 0, .st, .control, [], 64, 0⟩,
  ⟨0, 15, 1, 1, 1, 63, 62, .ro, .none, [], 1, 0⟩,
  ⟨0, 15, 1, 1, 1, 51, 32, .ro, .none, [], 1, 0⟩,
  ⟨0, 15, 1, 1, 1, 19, 0, .ro, .none, [], 1, 0⟩,
  ⟨0, 15, 2, 2, 1, 63, 32, .ro, .none, [], 1, 0⟩,
  ⟨0, 15, 2, 2, 1, 31, 0, .ro, .none, [], 1, 0⟩,
  ⟨0, 15, 3, 3, 1, 63, 48, .ro, .none, [], 1, 0⟩,
  ⟨0, 15, 3, 3, 1, 47, 32, .ro, .none, [], 1, 0⟩,
  ⟨0, 15, 3, 3, 1, 31, 16, .ro, .none, [], 1, 0⟩,
  ⟨0, 15, 4, 4, 1, 63, 40, .ro, .none, [], 1, 0⟩,
  ⟨0, 15, 4, 4, 1, 37, 24, .ro, .none, [], 1, 0⟩,
  ⟨0, 15, 4, 4, 1, 21, 8, .ro, .none, [], 1, 0⟩,
  ⟨0, 15, 4, 4, 1, 1, 0, .ro, .none, [], 1, 0⟩]

/-- The field maps of space STREAM (R298). -/
def rowsStream : List FRow := [
  ⟨0, 255, 0, 0, 1, 63, 63, .st, .control, [], 1, 0⟩,
  ⟨0, 255, 0, 0, 1, 62, 62, .st, .none, [], 1, 0⟩,
  ⟨0, 255, 0, 0, 1, 61, 61, .st, .control, [], 1, 0⟩,
  ⟨0, 255, 0, 0, 1, 60, 59, .st, .control, [], 1, 2⟩,
  ⟨0, 255, 0, 0, 1, 47, 32, .st, .control, [], 1, 0⟩,
  ⟨0, 255, 0, 0, 1, 23, 16, .st, .control, [(1, 255)], 1, 0⟩,
  ⟨0, 255, 1, 1, 1, 44, 32, .st, .control, [(1, 4096)], 1, 0⟩,
  ⟨0, 255, 1, 1, 1, 27, 0, .st, .control, [(1, 268435455)], 1, 0⟩,
  ⟨0, 255, 2, 2, 1, 52, 32, .st, .control, [(0, 100000)], 1, 0⟩,
  ⟨0, 255, 2, 2, 1, 19, 0, .st, .control, [(0, 1000000)], 1, 0⟩,
  ⟨0, 255, 3, 3, 1, 63, 63, .st, .control, [], 1, 0⟩,
  ⟨0, 255, 3, 3, 1, 60, 48, .st, .control, [(0, 4096)], 1, 0⟩,
  ⟨0, 255, 3, 3, 1, 47, 32, .st, .control, [(1, 65535)], 1, 0⟩,
  ⟨0, 255, 3, 3, 1, 31, 0, .st, .control, [], 1, 0⟩,
  ⟨0, 255, 4, 4, 1, 63, 63, .st, .none, [], 1, 0⟩,
  ⟨0, 255, 4, 4, 1, 60, 48, .st, .none, [(1, 4096)], 1, 0⟩,
  ⟨0, 255, 4, 4, 1, 47, 32, .st, .none, [], 1, 0⟩,
  ⟨0, 255, 4, 4, 1, 12, 0, .st, .none, [], 1, 0⟩,
  ⟨0, 255, 5, 5, 1, 33, 0, .st, .none, [], 1, 0⟩,
  ⟨0, 255, 6, 6, 1, 63, 60, .ro, .none, [], 1, 0⟩,
  ⟨0, 255, 6, 6, 1, 59, 59, .ro, .none, [], 1, 0⟩,
  ⟨0, 255, 6, 6, 1, 58, 58, .ro, .none, [], 1, 0⟩,
  ⟨0, 255, 6, 6, 1, 57, 57, .ro, .control, [], 1, 0⟩,
  ⟨0, 255, 6, 6, 1, 56, 48, .ro, .none, [], 1, 0⟩,
  ⟨0, 255, 6, 6, 1, 44, 32, .ro, .none, [], 1, 0⟩,
  ⟨0, 255, 6, 6, 1, 31, 0, .ro, .none, [], 1, 0⟩,
  ⟨0, 255, 7, 7, 1, 63, 32, .ro, .none, [], 1, 0⟩,
  ⟨0, 255, 7, 7, 1, 31, 0, .ro, .none, [], 1, 0⟩,
  ⟨0, 255, 8, 8, 1, 63, 48, .ro, .none, [], 1, 0⟩,
  ⟨0, 255, 8, 8, 1, 47, 32, .ro, .control, [], 1, 0⟩,
  ⟨0, 255, 8, 8, 1, 31, 16, .ro, .none, [], 1, 0⟩,
  ⟨0, 255, 8, 8, 1, 15, 0, .ro, .none, [], 1, 0⟩,
  ⟨0, 255, 9, 9, 1, 63, 56, .ro, .control, [], 1, 0⟩,
  ⟨0, 255, 9, 9, 1, 44, 32, .ro, .control, [], 1, 0⟩,
  ⟨0, 255, 9, 9, 1, 12, 0, .ro, .control, [], 1, 0⟩,
  ⟨0, 255, 16, 4111, 1, 44, 32, .st, .control, [(1, 8191)], 1, 0⟩,
  ⟨0, 255, 16, 4111, 1, 31, 0, .st, .control, [], 1, 0⟩,
  ⟨0, 255, 4112, 4367, 1, 63, 63, .ro, .control, [], 1, 0⟩,
  ⟨0, 255, 4112, 4367, 1, 44, 32, .ro, .control, [], 1, 0⟩,
  ⟨0, 255, 4112, 4367, 1, 13, 0, .ro, .control, [], 1, 0⟩]

/-- The field maps of space DRAM (R319). -/
def rowsDram : List FRow := [
  ⟨16, 16, 0, 0, 1, 63, 62, .ro, .control, [], 1, 0⟩,
  ⟨16, 16, 0, 0, 1, 47, 32, .ro, .control, [], 1, 0⟩,
  ⟨16, 16, 0, 0, 1, 29, 16, .ro, .control, [], 1, 0⟩,
  ⟨16, 16, 0, 0, 1, 15, 14, .ro, .control, [], 1, 0⟩,
  ⟨16, 16, 0, 0, 1, 13, 13, .st, .control, [], 1, 0⟩,
  ⟨16, 16, 0, 0, 1, 12, 0, .st, .control, [(16, 4096)], 1, 0⟩,
  ⟨16, 16, 1, 1, 1, 47, 32, .ro, .control, [], 1, 0⟩,
  ⟨16, 16, 1, 1, 1, 31, 16, .ro, .control, [], 1, 0⟩,
  ⟨16, 16, 2, 2, 1, 63, 63, .st, .control, [], 1, 0⟩,
  ⟨16, 16, 2, 2, 1, 55, 48, .st, .control, [(1, 168)], 1, 0⟩,
  ⟨16, 16, 2, 2, 1, 47, 32, .st, .control, [(16, 65535)], 1, 0⟩,
  ⟨16, 16, 2, 2, 1, 31, 0, .ro, .control, [], 1, 0⟩,
  ⟨16, 16, 3, 3, 1, 63, 48, .st, .control, [(8, 1024)], 1, 0⟩,
  ⟨16, 16, 3, 3, 1, 47, 32, .st, .control, [(256, 65535)], 1, 0⟩,
  ⟨16, 16, 3, 3, 1, 31, 24, .st, .control, [(10, 200)], 1, 0⟩,
  ⟨16, 16, 3, 3, 1, 23, 16, .st, .control, [(85, 105)], 1, 0⟩,
  ⟨16, 16, 4, 7, 1, 51, 32, .st, .control, [(100, 1000000)], 1, 0⟩,
  ⟨16, 16, 4, 6, 1, 19, 0, .st, .control, [(100, 1000000)], 1, 0⟩,
  ⟨16, 16, 8, 11, 1, 63, 32, .ro, .none, [], 1, 0⟩,
  ⟨16, 16, 8, 11, 1, 31, 0, .ro, .none, [], 1, 0⟩,
  ⟨0, 15, 0, 0, 1, 63, 63, .ro, .control, [], 1, 0⟩,
  ⟨0, 15, 0, 0, 1, 62, 62, .ro, .none, [], 1, 0⟩,
  ⟨0, 15, 0, 0, 1, 61, 61, .ro, .none, [], 1, 0⟩,
  ⟨0, 15, 0, 0, 1, 55, 52, .ro, .control, [], 1, 0⟩,
  ⟨0, 15, 0, 0, 1, 47, 40, .ro, .none, [], 1, 0⟩,
  ⟨0, 15, 1, 1, 1, 63, 32, .ro, .control, [], 1, 0⟩,
  ⟨0, 15, 1, 1, 1, 31, 0, .ro, .control, [], 1, 0⟩,
  ⟨0, 15, 2, 2, 1, 63, 32, .ro, .control, [], 1, 0⟩,
  ⟨0, 15, 2, 2, 1, 31, 0, .ro, .control, [], 1, 0⟩,
  ⟨0, 15, 3, 3, 1, 63, 56, .ro, .none, [], 1, 0⟩,
  ⟨0, 15, 3, 3, 1, 31, 0, .ro, .none, [], 1, 0⟩,
  ⟨0, 15, 4, 4, 1, 63, 32, .ro, .none, [], 1, 0⟩,
  ⟨0, 15, 4, 4, 1, 31, 16, .ro, .none, [], 1, 0⟩,
  ⟨0, 15, 4, 4, 1, 15, 0, .ro, .none, [], 1, 0⟩,
  ⟨0, 15, 5, 5, 1, 63, 16, .ro, .none, [], 1, 0⟩,
  ⟨0, 15, 5, 5, 1, 15, 0, .ro, .none, [], 1, 0⟩,
  ⟨0, 15, 6, 6, 1, 15, 15, .ro, .control, [], 1, 0⟩,
  ⟨0, 15, 6, 6, 1, 14, 12, .ro, .control, [], 1, 0⟩,
  ⟨0, 15, 6, 6, 1, 11, 8, .ro, .control, [], 1, 0⟩,
  ⟨0, 15, 6, 6, 1, 7, 7, .ro, .control, [], 1, 0⟩,
  ⟨0, 15, 6, 6, 1, 6, 4, .ro, .control, [], 1, 0⟩,
  ⟨0, 15, 6, 6, 1, 3, 0, .ro, .control, [], 1, 0⟩]

/-- The field maps of space FLASH (R353). -/
def rowsFlash : List FRow := [
  ⟨32, 32, 0, 0, 1, 63, 32, .ro, .control, [], 1, 0⟩,
  ⟨32, 32, 0, 0, 1, 31, 27, .ro, .control, [], 1, 0⟩,
  ⟨32, 32, 0, 0, 1, 15, 0, .ro, .control, [], 1, 0⟩,
  ⟨32, 32, 1, 1, 1, 63, 32, .ro, .control, [], 1, 0⟩,
  ⟨32, 32, 1, 1, 1, 31, 0, .ro, .control, [], 1, 0⟩,
  ⟨32, 32, 2, 2, 1, 63, 63, .st, .control, [], 1, 0⟩,
  ⟨32, 32, 2, 2, 1, 55, 48, .st, .control, [(10, 90)], 1, 0⟩,
  ⟨32, 32, 2, 2, 1, 40, 32, .st, .control, [(1, 365)], 1, 0⟩,
  ⟨32, 32, 3, 3, 1, 63, 32, .ro, .none, [], 1, 0⟩,
  ⟨32, 32, 3, 3, 1, 31, 0, .ro, .none, [], 1, 0⟩,
  ⟨32, 32, 4, 4, 1, 63, 32, .ro, .none, [], 1, 0⟩,
  ⟨32, 32, 4, 4, 1, 31, 16, .ro, .none, [], 1, 0⟩,
  ⟨32, 32, 4, 4, 1, 15, 0, .ro, .control, [], 1, 0⟩,
  ⟨32, 32, 5, 5, 1, 63, 48, .ro, .control, [], 1, 0⟩,
  ⟨32, 32, 5, 5, 1, 47, 32, .ro, .control, [], 1, 0⟩,
  ⟨32, 32, 5, 5, 1, 31, 16, .ro, .control, [], 1, 0⟩,
  ⟨32, 32, 5, 5, 1, 15, 0, .ro, .control, [], 1, 0⟩,
  ⟨32, 32, 6, 6, 1, 63, 32, .ro, .control, [], 1, 0⟩,
  ⟨32, 32, 6, 6, 1, 9, 0, .ro, .control, [], 1, 0⟩,
  ⟨0, 31, 0, 0, 1, 63, 63, .ro, .control, [], 1, 0⟩,
  ⟨0, 31, 0, 0, 1, 31, 16, .ro, .control, [], 1, 0⟩,
  ⟨0, 31, 0, 0, 1, 15, 0, .ro, .control, [], 1, 0⟩,
  ⟨0, 31, 1, 1, 1, 63, 32, .ro, .none, [], 1, 0⟩,
  ⟨0, 31, 1, 1, 1, 31, 0, .ro, .none, [], 1, 0⟩,
  ⟨0, 31, 2, 2, 1, 63, 32, .ro, .control, [], 1, 0⟩,
  ⟨0, 31, 2, 2, 1, 31, 0, .ro, .control, [], 1, 0⟩,
  ⟨0, 31, 3, 3, 1, 63, 48, .ro, .none, [], 1, 0⟩,
  ⟨0, 31, 3, 3, 1, 47, 40, .ro, .none, [], 1, 0⟩]

/-- The field maps of space SAVE (R354). -/
def rowsSave : List FRow := [
  ⟨0, 0, 0, 0, 1, 63, 63, .st, .control, [], 1, 0⟩,
  ⟨0, 0, 0, 0, 1, 59, 48, .st, .control, [(50, 4000)], 1, 0⟩,
  ⟨0, 0, 0, 0, 1, 47, 36, .st, .control, [(100, 4000)], 1, 0⟩,
  ⟨0, 0, 0, 0, 1, 35, 22, .st, .control, [(10, 10000)], 1, 0⟩,
  ⟨0, 0, 0, 0, 1, 21, 10, .st, .control, [(1, 4095)], 1, 0⟩,
  ⟨0, 0, 1, 1, 1, 63, 32, .st, .control, [], 1, 0⟩,
  ⟨0, 0, 1, 1, 1, 31, 0, .ro, .control, [], 1, 0⟩,
  ⟨0, 0, 2, 2, 1, 63, 62, .im, .none, [], 1, 3⟩,
  ⟨0, 0, 2, 2, 1, 61, 61, .st, .none, [], 1, 0⟩,
  ⟨0, 0, 2, 2, 1, 60, 60, .st, .none, [], 1, 0⟩,
  ⟨0, 0, 3, 3, 1, 63, 32, .ro, .none, [], 1, 0⟩,
  ⟨0, 0, 3, 3, 1, 31, 0, .ro, .control, [], 1, 0⟩,
  ⟨0, 0, 4, 4, 1, 63, 32, .ro, .none, [], 1, 0⟩,
  ⟨0, 0, 4, 4, 1, 31, 0, .ro, .none, [], 1, 0⟩,
  ⟨0, 0, 5, 5, 1, 63, 60, .ro, .control, [], 1, 0⟩,
  ⟨0, 0, 5, 5, 1, 59, 59, .ro, .control, [], 1, 0⟩,
  ⟨0, 0, 5, 5, 1, 58, 58, .ro, .none, [], 1, 0⟩,
  ⟨0, 0, 5, 5, 1, 57, 57, .ro, .none, [], 1, 0⟩,
  ⟨0, 0, 5, 5, 1, 56, 56, .ro, .none, [], 1, 0⟩,
  ⟨0, 0, 5, 5, 1, 55, 55, .ro, .control, [], 1, 0⟩,
  ⟨0, 0, 5, 5, 1, 54, 53, .ro, .control, [], 1, 0⟩,
  ⟨0, 0, 5, 5, 1, 52, 52, .ro, .none, [], 1, 0⟩,
  ⟨0, 0, 5, 5, 1, 51, 48, .ro, .control, [], 1, 0⟩,
  ⟨0, 0, 5, 5, 1, 31, 0, .ro, .control, [], 1, 0⟩,
  ⟨0, 0, 6, 6, 1, 63, 32, .ro, .control, [], 1, 0⟩,
  ⟨0, 0, 6, 6, 1, 31, 0, .ro, .control, [], 1, 0⟩,
  ⟨0, 0, 7, 7, 1, 63, 32, .ro, .none, [], 1, 0⟩,
  ⟨0, 0, 7, 7, 1, 31, 0, .ro, .control, [], 1, 0⟩,
  ⟨0, 0, 8, 8, 1, 63, 48, .ro, .control, [], 1, 0⟩,
  ⟨0, 0, 8, 8, 1, 47, 32, .ro, .control, [], 1, 0⟩,
  ⟨0, 0, 8, 8, 1, 31, 0, .ro, .control, [], 1, 0⟩]

/-- The field maps of space SUPPLY (R383). -/
def rowsSupply : List FRow := [
  ⟨0, 31, 4, 4, 1, 63, 60, .ro, .none, [], 1, 0⟩,
  ⟨0, 31, 4, 4, 1, 59, 59, .ro, .none, [], 1, 0⟩,
  ⟨0, 31, 4, 4, 1, 58, 58, .ro, .none, [], 1, 0⟩,
  ⟨0, 31, 4, 4, 1, 57, 48, .ro, .none, [], 1, 0⟩,
  ⟨0, 31, 5, 5, 1, 63, 48, .ro, .none, [], 1, 0⟩,
  ⟨0, 31, 5, 5, 1, 47, 32, .ro, .control, [], 1, 0⟩,
  ⟨0, 31, 5, 5, 1, 31, 16, .ro, .control, [], 1, 0⟩,
  ⟨0, 31, 5, 5, 1, 15, 0, .ro, .control, [], 1, 0⟩,
  ⟨0, 31, 6, 6, 1, 63, 54, .ro, .none, [], 1, 0⟩,
  ⟨0, 31, 6, 6, 1, 53, 44, .ro, .none, [], 1, 0⟩,
  ⟨32, 32, 0, 0, 1, 63, 59, .ro, .none, [], 1, 0⟩,
  ⟨32, 32, 0, 0, 1, 58, 58, .ro, .none, [], 1, 0⟩,
  ⟨32, 32, 0, 0, 1, 57, 56, .ro, .none, [], 1, 0⟩,
  ⟨32, 32, 0, 0, 1, 55, 52, .ro, .none, [], 1, 0⟩,
  ⟨32, 32, 0, 0, 1, 51, 47, .ro, .none, [], 1, 0⟩,
  ⟨32, 32, 0, 0, 1, 31, 0, .ro, .none, [], 1, 0⟩,
  ⟨32, 32, 1, 1, 1, 63, 32, .ro, .none, [], 1, 0⟩,
  ⟨32, 32, 1, 1, 1, 31, 16, .ro, .none, [], 1, 0⟩,
  ⟨32, 32, 1, 1, 1, 15, 0, .ro, .none, [], 1, 0⟩,
  ⟨32, 32, 2, 2, 1, 63, 54, .ro, .none, [], 1, 0⟩,
  ⟨32, 32, 2, 2, 1, 53, 53, .ro, .none, [], 1, 0⟩,
  ⟨32, 32, 2, 2, 1, 52, 52, .ro, .none, [], 1, 0⟩,
  ⟨32, 32, 2, 2, 1, 31, 0, .ro, .control, [], 1, 0⟩,
  ⟨32, 32, 3, 3, 1, 63, 63, .st, .none, [], 1, 0⟩,
  ⟨32, 32, 3, 3, 1, 55, 48, .st, .control, [(1, 168)], 1, 0⟩,
  ⟨32, 32, 3, 3, 1, 31, 0, .st, .control, [], 1, 0⟩,
  ⟨32, 32, 4, 4, 1, 63, 63, .ro, .control, [], 1, 0⟩,
  ⟨32, 32, 4, 4, 1, 62, 62, .ro, .none, [], 1, 0⟩,
  ⟨32, 32, 4, 4, 1, 61, 61, .ro, .none, [], 1, 0⟩,
  ⟨32, 32, 4, 4, 1, 47, 32, .ro, .none, [], 1, 0⟩,
  ⟨32, 32, 4, 4, 1, 31, 0, .ro, .none, [], 1, 0⟩,
  ⟨32, 32, 5, 5, 1, 63, 32, .ro, .control, [], 1, 0⟩,
  ⟨32, 32, 5, 5, 1, 31, 16, .ro, .control, [], 1, 0⟩,
  ⟨32, 32, 5, 5, 1, 15, 0, .ro, .none, [], 1, 0⟩,
  ⟨32, 32, 6, 6, 1, 63, 48, .ro, .control, [], 1, 0⟩,
  ⟨32, 32, 6, 6, 1, 47, 32, .ro, .none, [], 1, 0⟩,
  ⟨32, 32, 6, 6, 1, 31, 16, .ro, .control, [], 1, 0⟩,
  ⟨32, 32, 6, 6, 1, 7, 0, .ro, .none, [], 1, 0⟩,
  ⟨32, 32, 7, 7, 1, 63, 32, .ro, .none, [], 1, 0⟩,
  ⟨32, 32, 7, 7, 1, 31, 0, .ro, .none, [], 1, 0⟩,
  ⟨0, 31, 0, 3, 1, 63, 0, .ro, .control, [], 1, 0⟩]

/-- The field maps of space CLOCKS (R384). -/
def rowsClocks : List FRow := [
  ⟨0, 0, 0, 0, 1, 63, 63, .st, .control, [], 1, 0⟩,
  ⟨0, 0, 0, 0, 1, 62, 62, .st, .control, [], 1, 0⟩,
  ⟨0, 0, 0, 0, 1, 61, 61, .st, .control, [], 1, 0⟩,
  ⟨0, 0, 0, 0, 1, 60, 60, .st, .none, [], 1, 0⟩,
  ⟨0, 0, 0, 0, 1, 51, 32, .st, .control, [(100, 1000000)], 1, 0⟩,
  ⟨0, 0, 1, 1, 1, 63, 40, .ro, .none, [], 1, 0⟩,
  ⟨0, 0, 1, 1, 1, 39, 16, .ro, .none, [], 1, 0⟩,
  ⟨0, 0, 1, 1, 1, 3, 2, .ro, .none, [], 1, 0⟩,
  ⟨0, 0, 2, 2, 1, 63, 32, .ro, .none, [], 1, 0⟩,
  ⟨0, 0, 2, 2, 1, 31, 0, .ro, .none, [], 1, 0⟩,
  ⟨0, 0, 3, 3, 1, 63, 48, .ro, .none, [], 1, 0⟩,
  ⟨0, 0, 3, 3, 1, 47, 32, .ro, .none, [], 1, 0⟩,
  ⟨0, 0, 3, 3, 1, 31, 0, .ro, .none, [], 1, 0⟩,
  ⟨0, 0, 4, 4, 1, 63, 59, .ro, .none, [], 1, 0⟩,
  ⟨0, 0, 4, 4, 1, 47, 32, .ro, .control, [], 1, 0⟩]

/-- The field maps of space TWIN (R74). -/
def rowsTwin : List FRow := [
  ⟨0, 0, 0, 0, 1, 63, 62, .st, .control, [], 1, 3⟩,
  ⟨0, 0, 0, 0, 1, 44, 32, .st, .control, [(1, 5000)], 1, 0⟩,
  ⟨0, 0, 0, 0, 1, 23, 16, .st, .control, [(10, 90)], 1, 0⟩,
  ⟨0, 0, 1, 1, 1, 63, 60, .ro, .control, [], 1, 0⟩,
  ⟨0, 0, 1, 1, 1, 59, 59, .ro, .none, [], 1, 0⟩,
  ⟨0, 0, 1, 1, 1, 58, 58, .ro, .none, [], 1, 0⟩,
  ⟨0, 0, 1, 1, 1, 57, 57, .ro, .control, [], 1, 0⟩,
  ⟨0, 0, 1, 1, 1, 56, 56, .ro, .none, [], 1, 0⟩,
  ⟨0, 0, 1, 1, 1, 31, 0, .ro, .control, [], 1, 0⟩,
  ⟨0, 0, 2, 2, 1, 63, 32, .im, .none, [], 1, 0⟩,
  ⟨0, 0, 2, 2, 1, 0, 0, .im, .none, [], 1, 0⟩,
  ⟨0, 0, 3, 3, 1, 63, 32, .ro, .control, [], 1, 0⟩,
  ⟨0, 0, 3, 3, 1, 31, 0, .ro, .none, [], 1, 0⟩,
  ⟨0, 0, 4, 4, 1, 63, 48, .ro, .none, [], 1, 0⟩,
  ⟨0, 0, 4, 4, 1, 47, 32, .ro, .none, [], 1, 0⟩,
  ⟨0, 0, 4, 4, 1, 31, 0, .ro, .none, [], 1, 0⟩]

/-- The field maps of space STACK (R408). -/
def rowsStack : List FRow := [
  ⟨0, 0, 0, 0, 1, 63, 60, .st, .control, [(1, 2), (4, 4), (6, 6), (8, 8)], 1, 0⟩,
  ⟨0, 0, 0, 0, 1, 59, 56, .st, .control, [(1, 8)], 1, 0⟩,
  ⟨0, 0, 0, 0, 1, 55, 55, .st, .control, [], 1, 0⟩,
  ⟨0, 0, 0, 0, 1, 54, 54, .st, .control, [], 1, 0⟩,
  ⟨0, 0, 0, 0, 1, 51, 32, .st, .control, [(50, 10000)], 1, 0⟩,
  ⟨0, 0, 1, 2, 1, 63, 0, .st, .control, [], 1, 0⟩,
  ⟨0, 0, 3, 3, 1, 63, 32, .st, .control, [], 1, 0⟩,
  ⟨0, 0, 3, 3, 1, 31, 0, .st, .control, [], 64, 0⟩,
  ⟨0, 0, 4, 5, 1, 63, 0, .st, .control, [], 1, 0⟩,
  ⟨0, 0, 6, 6, 1, 63, 0, .ro, .none, [], 1, 0⟩,
  ⟨0, 0, 8, 8, 1, 63, 62, .ro, .none, [], 1, 0⟩,
  ⟨0, 0, 8, 8, 1, 61, 61, .ro, .none, [], 1, 0⟩,
  ⟨0, 0, 8, 8, 1, 60, 54, .ro, .none, [], 1, 0⟩,
  ⟨0, 0, 8, 8, 1, 53, 48, .ro, .none, [], 1, 0⟩,
  ⟨0, 0, 8, 8, 1, 47, 42, .ro, .none, [], 1, 0⟩,
  ⟨0, 0, 8, 8, 1, 41, 41, .ro, .none, [], 1, 0⟩,
  ⟨0, 0, 8, 8, 1, 31, 0, .ro, .none, [], 1, 0⟩,
  ⟨0, 0, 9, 9, 1, 63, 0, .ro, .none, [], 1, 0⟩,
  ⟨0, 0, 10, 10, 1, 63, 48, .ro, .none, [], 1, 0⟩,
  ⟨0, 0, 10, 10, 1, 47, 32, .ro, .none, [], 1, 0⟩,
  ⟨0, 0, 10, 10, 1, 31, 16, .ro, .none, [], 1, 0⟩,
  ⟨0, 0, 10, 10, 1, 15, 0, .ro, .none, [], 1, 0⟩,
  ⟨0, 0, 11, 11, 1, 63, 48, .ro, .none, [], 1, 0⟩,
  ⟨0, 0, 11, 11, 1, 47, 32, .ro, .none, [], 1, 0⟩,
  ⟨0, 0, 11, 11, 1, 31, 0, .ro, .none, [], 1, 0⟩,
  ⟨0, 0, 12, 12, 1, 63, 32, .ro, .none, [], 1, 0⟩,
  ⟨0, 0, 12, 12, 1, 31, 0, .ro, .none, [], 1, 0⟩,
  ⟨0, 0, 13, 13, 1, 63, 58, .ro, .none, [], 1, 0⟩,
  ⟨0, 0, 13, 13, 1, 57, 54, .ro, .none, [], 1, 0⟩,
  ⟨0, 0, 13, 13, 1, 31, 16, .ro, .none, [], 1, 0⟩,
  ⟨0, 0, 13, 13, 1, 15, 0, .ro, .none, [], 1, 0⟩]

/-- The field maps of space SECURITY (R432). -/
def rowsSecurity : List FRow := [
  ⟨0, 0, 0, 0, 1, 63, 58, .ro, .control, [], 1, 0⟩,
  ⟨0, 0, 0, 0, 1, 57, 52, .ro, .stored, [], 1, 0⟩,
  ⟨0, 0, 0, 0, 1, 51, 50, .ro, .control, [], 1, 0⟩,
  ⟨0, 0, 0, 0, 1, 49, 49, .ro, .stored, [], 1, 0⟩,
  ⟨0, 0, 0, 0, 1, 48, 48, .ro, .warm, [], 1, 0⟩,
  ⟨0, 0, 0, 0, 1, 47, 47, .ro, .none, [], 1, 0⟩,
  ⟨0, 0, 0, 0, 1, 46, 46, .ro, .control, [], 1, 0⟩,
  ⟨0, 0, 0, 0, 1, 31, 16, .ro, .stored, [], 1, 0⟩,
  ⟨0, 0, 1, 1, 1, 63, 63, .st, .none, [], 1, 0⟩,
  ⟨0, 0, 1, 1, 1, 62, 62, .st, .none, [], 1, 0⟩,
  ⟨0, 0, 1, 1, 1, 7, 0, .st, .control, [(1, 32)], 1, 0⟩,
  ⟨0, 0, 2, 2, 1, 63, 0, .ro, .stored, [], 1, 0⟩,
  ⟨0, 0, 3, 3, 1, 63, 56, .ro, .none, [], 1, 0⟩,
  ⟨0, 0, 3, 3, 1, 55, 48, .ro, .none, [], 1, 0⟩,
  ⟨0, 0, 3, 3, 1, 31, 16, .ro, .control, [], 1, 0⟩,
  ⟨0, 0, 3, 3, 1, 15, 0, .ro, .control, [], 1, 0⟩,
  ⟨0, 0, 4, 11, 1, 63, 0, .ro, .stored, [], 1, 0⟩,
  ⟨0, 0, 12, 26, 1, 63, 0, .ro, .stored, [], 1, 0⟩,
  ⟨0, 0, 27, 34, 1, 63, 0, .st, .none, [], 1, 0⟩,
  ⟨0, 0, 35, 42, 1, 63, 0, .st, .none, [], 1, 0⟩,
  ⟨0, 0, 43, 74, 1, 63, 0, .st, .none, [], 1, 0⟩,
  ⟨2, 257, 0, 0, 1, 63, 63, .st, .control, [], 1, 0⟩,
  ⟨2, 257, 0, 0, 1, 47, 32, .st, .control, [], 1, 0⟩,
  ⟨2, 257, 0, 0, 1, 15, 0, .st, .control, [], 1, 0⟩,
  ⟨2, 257, 1, 1, 1, 31, 0, .st, .control, [(1, 86400000)], 1, 0⟩,
  ⟨2, 257, 2, 2, 1, 63, 0, .ro, .control, [], 1, 0⟩,
  ⟨2, 257, 3, 3, 1, 63, 0, .ro, .control, [], 1, 0⟩,
  ⟨2, 257, 4, 4, 1, 63, 0, .ro, .control, [], 1, 0⟩,
  ⟨2, 257, 5, 5, 1, 63, 63, .ro, .none, [], 1, 0⟩,
  ⟨2, 257, 5, 5, 1, 31, 0, .ro, .control, [], 1, 0⟩,
  ⟨2, 257, 6, 6, 1, 63, 0, .ro, .control, [], 1, 0⟩,
  ⟨1, 1, 0, 31, 1, 63, 0, .ro, .none, [], 1, 0⟩]

/-- The field maps of space RECORDER (R448). -/
def rowsRecorder : List FRow := [
  ⟨0, 0, 0, 0, 1, 63, 63, .st, .none, [], 1, 0⟩,
  ⟨0, 0, 0, 0, 1, 62, 62, .ro, .none, [], 1, 0⟩,
  ⟨0, 0, 0, 0, 1, 61, 61, .ro, .none, [], 1, 0⟩,
  ⟨0, 0, 0, 0, 1, 31, 0, .st, .none, [], 1, 0⟩,
  ⟨0, 0, 1, 1, 1, 63, 32, .ro, .stored, [], 1, 0⟩,
  ⟨0, 0, 1, 1, 1, 31, 0, .ro, .stored, [], 1, 0⟩,
  ⟨0, 0, 2, 2, 1, 63, 0, .ro, .none, [], 1, 0⟩,
  ⟨0, 0, 3, 3, 1, 63, 0, .st, .none, [], 1, 0⟩,
  ⟨0, 0, 4, 4, 1, 63, 0, .st, .none, [], 1, 0⟩,
  ⟨0, 0, 5, 5, 1, 63, 32, .ro, .warm, [], 1, 0⟩,
  ⟨0, 0, 5, 5, 1, 31, 0, .ro, .warm, [], 1, 0⟩,
  ⟨0, 0, 6, 6, 1, 63, 55, .ro, .stored, [], 1, 0⟩,
  ⟨0, 0, 6, 6, 1, 31, 0, .ro, .stored, [], 1, 0⟩,
  ⟨1, 1, 0, 2047, 1, 63, 0, .ro, .none, [], 1, 0⟩,
  ⟨2, 2, 0, 1023, 1, 63, 0, .ro, .stored, [], 1, 0⟩]

/-- The field maps of space HEALTH (R449). -/
def rowsHealth : List FRow := [
  ⟨0, 48, 0, 0, 1, 63, 60, .ro, .stored, [], 1, 0⟩,
  ⟨0, 48, 0, 0, 1, 59, 56, .ro, .none, [], 1, 0⟩,
  ⟨0, 48, 0, 0, 1, 55, 48, .ro, .stored, [], 1, 0⟩,
  ⟨0, 48, 0, 0, 1, 31, 0, .ro, .stored, [], 1, 0⟩,
  ⟨0, 48, 1, 1, 1, 59, 40, .ro, .stored, [], 1, 0⟩,
  ⟨0, 48, 1, 1, 1, 39, 20, .ro, .stored, [], 1, 0⟩,
  ⟨0, 48, 1, 1, 1, 19, 0, .ro, .stored, [], 1, 0⟩,
  ⟨0, 48, 2, 2, 1, 63, 32, .ro, .stored, [], 1, 0⟩,
  ⟨0, 48, 2, 2, 1, 31, 0, .ro, .stored, [], 1, 0⟩,
  ⟨0, 48, 3, 3, 1, 63, 32, .ro, .stored, [], 1, 0⟩,
  ⟨0, 48, 4, 4, 1, 63, 0, .ro, .stored, [], 1, 0⟩,
  ⟨49, 49, 0, 0, 1, 63, 48, .st, .control, [(14, 365)], 1, 0⟩,
  ⟨49, 49, 0, 0, 1, 47, 32, .st, .control, [(7, 3650)], 1, 0⟩,
  ⟨49, 49, 0, 0, 1, 31, 16, .st, .control, [(20, 300)], 1, 0⟩,
  ⟨49, 49, 0, 0, 1, 0, 0, .st, .none, [], 1, 0⟩,
  ⟨49, 49, 1, 1, 1, 63, 32, .st, .control, [(100, 10000000)], 1, 0⟩,
  ⟨49, 49, 2, 2, 1, 63, 32, .ro, .stored, [], 1, 0⟩,
  ⟨49, 49, 2, 2, 1, 31, 0, .ro, .stored, [], 1, 0⟩,
  ⟨49, 49, 3, 3, 1, 63, 56, .ro, .stored, [], 1, 0⟩,
  ⟨49, 49, 3, 3, 1, 55, 48, .ro, .stored, [], 1, 0⟩]

/-- The field maps of space BOOT (R212). -/
def rowsBoot : List FRow := [
  ⟨0, 0, 0, 0, 1, 63, 48, .ro, .none, [], 1, 0⟩,
  ⟨0, 0, 0, 0, 1, 47, 32, .ro, .none, [], 1, 0⟩,
  ⟨0, 0, 0, 0, 1, 31, 24, .ro, .none, [], 1, 0⟩,
  ⟨0, 0, 0, 0, 1, 23, 18, .ro, .none, [], 1, 0⟩,
  ⟨0, 0, 0, 0, 1, 17, 17, .ro, .none, [], 1, 0⟩,
  ⟨0, 0, 1, 1, 1, 63, 60, .ro, .none, [], 1, 0⟩,
  ⟨0, 0, 1, 1, 1, 59, 59, .ro, .none, [], 1, 0⟩,
  ⟨0, 0, 1, 1, 1, 58, 58, .ro, .none, [], 1, 0⟩,
  ⟨0, 0, 1, 1, 1, 57, 57, .w1c, .none, [], 1, 0⟩,
  ⟨0, 0, 1, 1, 1, 56, 56, .ro, .none, [], 1, 0⟩,
  ⟨0, 0, 1, 1, 1, 31, 16, .ro, .none, [], 1, 0⟩,
  ⟨0, 0, 1, 1, 1, 15, 0, .ro, .none, [], 1, 0⟩,
  ⟨0, 0, 2, 2, 1, 63, 48, .im, .none, [], 1, 0⟩,
  ⟨0, 0, 2, 2, 1, 8, 8, .im, .none, [], 1, 0⟩,
  ⟨0, 0, 2, 2, 1, 1, 0, .im, .none, [], 1, 0⟩,
  ⟨0, 0, 3, 3, 1, 63, 56, .ro, .none, [], 1, 0⟩,
  ⟨0, 0, 3, 3, 1, 55, 48, .ro, .none, [], 1, 0⟩,
  ⟨0, 0, 3, 3, 1, 31, 0, .ro, .none, [], 1, 0⟩,
  ⟨0, 0, 4, 6, 2, 63, 12, .rw, .none, [], 1, 0⟩,
  ⟨0, 0, 4, 6, 2, 11, 11, .rw, .none, [], 1, 0⟩,
  ⟨0, 0, 4, 6, 2, 4, 0, .rw, .none, [], 1, 0⟩,
  ⟨0, 0, 5, 5, 1, 15, 0, .rw, .none, [], 1, 0⟩,
  ⟨0, 0, 7, 7, 1, 31, 0, .rw, .none, [], 1, 0⟩,
  ⟨0, 0, 8, 8, 1, 63, 63, .ro, .control, [], 1, 0⟩,
  ⟨0, 0, 8, 8, 1, 62, 62, .ro, .none, [], 1, 0⟩,
  ⟨0, 0, 8, 8, 1, 61, 61, .ro, .control, [], 1, 0⟩,
  ⟨0, 0, 8, 8, 1, 60, 60, .ro, .none, [], 1, 0⟩,
  ⟨0, 0, 8, 8, 1, 59, 59, .ro, .control, [], 1, 0⟩,
  ⟨0, 0, 8, 8, 1, 47, 24, .ro, .control, [], 1, 0⟩,
  ⟨0, 0, 8, 8, 1, 23, 0, .ro, .control, [], 1, 0⟩,
  ⟨0, 0, 9, 9, 1, 63, 0, .ro, .none, [], 1, 0⟩]

/-- The field maps of a space (R219); none for a space that does not exist. -/
def spaceRows (sp : Nat) : List FRow :=
  match sp with
  | 1 => rowsDevice
  | 2 => rowsWeir
  | 3 => rowsLink
  | 4 => rowsTransport
  | 5 => rowsDomain
  | 6 => rowsRegion
  | 7 => rowsQueue
  | 8 => rowsProgram
  | 9 => rowsCache
  | 10 => rowsPool
  | 11 => rowsStream
  | 12 => rowsDram
  | 13 => rowsFlash
  | 14 => rowsSave
  | 15 => rowsSupply
  | 16 => rowsClocks
  | 17 => rowsTwin
  | 18 => rowsStack
  | 19 => rowsSecurity
  | 20 => rowsRecorder
  | 21 => rowsHealth
  | 256 => rowsBoot
  | _ => []

/-- The After reset words that are not 0, as far as they are plain numbers: space, records, words, value. -/
structure RWord where
  sp : Nat
  rl : Nat
  rh : Nat
  wl : Nat
  wh : Nat
  stride : Nat
  v : Nat
  deriving DecidableEq, Repr

def resetWords : List RWord := [
  ⟨17, 0, 0, 0, 0, 1, 0x000001F400320000⟩,
  ⟨3, 0, 11, 0, 0, 1, 0x0000000620000000⟩,
  ⟨4, 0, 0, 0, 0, 1, 0x4D448F0C00142710⟩,
  ⟨4, 0, 0, 1, 1, 1, 0x000801F400000000⟩,
  ⟨4, 0, 0, 2, 2, 1, 0x91C007D000000000⟩,
  ⟨4, 0, 0, 3, 3, 1, 0x000A006413880400⟩,
  ⟨4, 0, 0, 4, 4, 1, 0x101080140014000A⟩,
  ⟨4, 0, 0, 5, 5, 1, 0x0480000000000000⟩,
  ⟨4, 0, 0, 6, 6, 1, 0x0014040008000000⟩,
  ⟨7, 0, 270335, 8, 8, 1, 0x0000000000000006⟩,
  ⟨8, 0, 1023, 1, 1, 1, 0x0000006400004E20⟩,
  ⟨256, 0, 0, 0, 0, 1, 0xD0E76412B0000000⟩,
  ⟨2, 0, 0, 0, 0, 1, 0x0A04006400000000⟩,
  ⟨9, 0, 7, 0, 0, 1, 0x8000000000000000⟩,
  ⟨11, 0, 255, 0, 0, 1, 0x0000000000010000⟩,
  ⟨11, 0, 255, 2, 2, 1, 0x000000C800001388⟩,
  ⟨11, 0, 255, 3, 3, 1, 0x0000000100000000⟩,
  ⟨12, 16, 16, 0, 0, 1, 0x0000000000002100⟩,
  ⟨12, 16, 16, 2, 2, 1, 0x8018010000000000⟩,
  ⟨12, 16, 16, 3, 3, 1, 0x00202000285F0000⟩,
  ⟨13, 32, 32, 2, 2, 1, 0x803C001E00000000⟩,
  ⟨14, 0, 0, 0, 0, 1, 0x0000258019001000⟩,
  ⟨15, 0, 31, 6, 6, 1, 0xFFC0000000000000⟩,
  ⟨15, 32, 32, 3, 3, 1, 0x0018000000000000⟩,
  ⟨15, 32, 32, 5, 5, 1, 0x000000000000FFFF⟩,
  ⟨16, 0, 0, 0, 0, 1, 0xE00003E800000000⟩,
  ⟨18, 0, 0, 0, 0, 1, 0x114000C800000000⟩,
  ⟨18, 0, 0, 8, 8, 1, 0x0040020000000000⟩,
  ⟨19, 0, 0, 1, 1, 1, 0x0000000000000008⟩,
  ⟨19, 2, 257, 1, 1, 1, 0x00000000000003E8⟩,
  ⟨21, 49, 49, 0, 0, 1, 0x005A00B4003C0000⟩,
  ⟨21, 49, 49, 1, 1, 1, 0x0000271000000000⟩]

end Sys2Proof.Machine
end

