-- ==== Sys2Proof/Syntax.lean ====
section
/-! DEFINITION. The commands of the block: one constructor of `Instr` for each row of spec/opcode_table.json,
with the row's operands. The structures before it are the operands that carry a packet, a frame, a table. -/

namespace Sys2Proof

/-- Operands of a braid data packet (R82). `port` is 8n + i of the host port it arrives on; `relay` is the
DURABLE_EN bit of the receiving port where the packet was relayed (R388); `crcOk` says that BCRC holds; PLEN is the length of the
payload that stands beside the header. -/
structure BraidHdr where
  port : Nat
  relay : Option Bool
  ver : Nat
  type : Nat
  crcOk : Bool
  ackReq : Bool
  retx : Bool
  dq : Nat
  sq : Nat
  psn : Nat
  msn : Nat
  tag : Nat
  msgLen : Nat
  pktOff : Nat
  ts : Nat
  key : U64
  addr : U64
  deriving DecidableEq, Repr

/-- What every control frame of braid mode carries (R86, R88): VER, whether BCRC holds, the queue of its recipient and of its origin. -/
structure CtlHdr where
  ver : Nat
  crcOk : Bool
  rq : Nat
  oq : Nat
  deriving DecidableEq, Repr

/-- Operands of a RoCE v2 request packet (R92): whether its opcode is one that R92 lists, destination queue, PSN, the RETH or
AtomicETH, and whether the packet is the first and the last of its message. `msn` numbers the message in PSN order (R123). -/
structure RoceHdr where
  port : Nat
  icrcOk : Bool
  known : Bool
  dq : Nat
  psn : Nat
  msn : Nat
  first : Bool
  last : Bool
  rkey : BitVec 32
  addr : U64
  msgLen : Nat
  pktOff : Nat
  deriving DecidableEq, Repr

/-- What a received Ethernet frame of a host port carries (R79, R393). -/
inductive HostPayload where
  /-- an ARP request or neighbour solicitation for an address -/
  | solicit (addr : BitVec 128)
  /-- an ICMP or ICMPv6 echo request to an address -/
  | echo (addr : BitVec 128)
  /-- another ICMP message -/
  | icmpOther
  /-- a UDP datagram to a port: its source address, the device queue number it names, the PSN of the first packet of its message, its
  source queue, its CE mark and its size in bytes -/
  | udp (src : BitVec 128) (dport : Nat) (dq : Nat) (first : Nat) (sq : Nat) (ce : Bool) (bytes : Nat)
  deriving DecidableEq, Repr

/-- A received Ethernet frame (R79): the port 8n + i, its size, its FCS, its tags and its IP form (`ipOptions`: IPv4 options or an IPv6
extension header), whether the port had no receive buffer for it, and the FEC codewords corrected and found uncorrectable since the
port's frame before it (R109). -/
structure HostFrame where
  port : Nat
  noBuf : Bool
  fecCorr : Nat
  fecUncorr : Nat
  bytes : Nat
  fcsOk : Bool
  tags : Nat
  ipOptions : Bool
  fragment : Bool
  payload : HostPayload
  deriving DecidableEq, Repr

/-- The link fields of a received frame of the twin link (R51): SEQ on its virtual channel, ACK_SEQ, and the credits it returns. -/
structure LinkHdr where
  seq : Nat
  ackSeq : Nat
  crVc : Nat
  crCount : Nat
  deriving DecidableEq, Repr

/-- A frame of the twin link that carries one number (R51): a line, a weir, an epoch. -/
structure TwinFrame where
  link : LinkHdr
  value : Nat
  deriving DecidableEq, Repr

/-- A frame of a reserved TYPE (R51), and the units it takes on its channel (R53). -/
structure ReservedFrame where
  link : LinkHdr
  type : Nat
  units : Nat
  deriving DecidableEq, Repr

/-- A frame of the twin link that has failed its CRC (R52): its virtual channel and SEQ. -/
structure FrameId where
  vc : Nat
  seq : Nat
  deriving DecidableEq, Repr

/-- The header of an answer to a forwarded part: its link fields where it comes over the twin link, the part's number, and whether the
part settled on the medium of one device alone (R32). -/
structure RespHdr where
  link : Option LinkHdr
  id : Nat
  solo : Bool
  deriving DecidableEq, Repr

/-- An ECHO frame (R88): its header and the address of the destination it tells of. -/
structure EchoFrame where
  hdr : CtlHdr
  dest : Nat
  deriving DecidableEq, Repr

/-- What a device says of itself to the others (R23, R404): whether it is in service, its twin state, and whether it has stopped or was
excluded in sequencing. -/
structure Service where
  up : Bool
  twin : Nat
  stopped : Bool
  deriving DecidableEq, Repr

/-- The hops of a cascade frame (R388, R390): how many it has made, and whether it is in the second buffer class. -/
structure Hop where
  hops : Nat
  second : Bool
  deriving DecidableEq, Repr

/-- A change of a cascade link (R391): whether it is up, and the frames that stood in its replay buffer: TYPE, VC, SRC, DST, HOPS, SEQ. -/
structure LinkChange where
  up : Bool
  replay : List (Nat × Nat × Nat × Nat × Hop × Nat)
  deriving DecidableEq, Repr

/-- A flash read that failed its hard decode (R328): the step of the table that decodes it (4: none does, 5: the die does not respond),
its block, the offset that succeeded and the bits corrected. -/
structure Retry where
  step : Nat
  block : Nat
  level : Nat
  corrBits : Nat
  deriving DecidableEq, Repr

/-- What flash scrub finds in a block (R328): whether its raw error rate is too high, its read-level offset and the bits corrected. -/
structure ScrubRead where
  bad : Bool
  level : Nat
  corrBits : Nat
  deriving DecidableEq, Repr

/-- What closes a frame (R433, R438): the hourly samples of the items measured, and whether the frame could be written. -/
structure FrameInput where
  samples : List (Nat × Nat)
  written : Bool
  deriving DecidableEq, Repr

/-- What a device knows at a weir: its bank voltage (R332), and the slots whose old program still runs on another device (R173). -/
structure WeirInput where
  bankMv : Nat
  oldElsewhere : List Nat
  deriving DecidableEq, Repr

/-- A part of an access as it travels to its holding device (R128): which operation, on which region and device
offset, with which data. `id` is the part's number at its entry device; an append carries the first region byte past the
mapping it came through (`lim`); a transaction group (R165) carries its staged bytes by granule offset and its read set: line
of the granule and the count of writes to it that the lead reported with the load. The part is cut at granules into `cnt` frames of
which `grp` names the first; `flow` is the queue or thread in whose order it is applied; `bound` says that it is a program's access
through a bound handle (R162); `link` stands where it comes over the twin link. -/
inductive PartKind where
  | read | write | unit | compare | fetchAdd | append | invoke | swap | andOp | orOp | maxU | maxS | group | tile | seal
  deriving DecidableEq, Repr

structure PartReq where
  link : Option LinkHdr
  id : Nat
  kind : PartKind
  region : Nat
  off : Nat
  len : Nat
  data : List Byte
  data2 : List Byte
  expect : Option Nat
  lim : Nat
  chunks : List (Nat × List Byte)
  reads : List (Nat × Nat)
  grp : Nat
  cnt : Nat
  flow : Option Nat
  bound : Bool
  deriving DecidableEq, Repr

/-- The fields of a MIRROR frame (R51, R55); a staged append brings the append frontier after it (R425). -/
structure MirrorFrame where
  link : LinkHdr
  off : Nat
  gen : Nat
  unit : Bool
  last : Bool
  lines : List (List Byte)
  front : Option Nat
  deriving DecidableEq, Repr

/-- The payload of a PAIR_HELLO (R51): index, digest, stepping, CAP_GIB, PAIR_MODE, split epoch, grant record
(epoch and side), and whether the sender's durable regions are restored or were never lost (R68); and the granules that may differ
on the sender's side, with their generations (R68, R350), for which R51 has no frame. -/
structure HelloFrame where
  link : LinkHdr
  index : Nat
  digest : U64
  stepping : Nat
  capGib : Nat
  paired : Bool
  epoch : Nat
  grant : Option (Nat × Nat)
  restored : Bool
  changed : List (Nat × Nat)
  deriving DecidableEq, Repr

/-- One copy of the sequence table as read from SPI flash (R357, R358): its 1,330 bytes. -/
abbrev TableCopy := List Byte

/-- One firmware copy as read from SPI flash (R411): header quadwords, image bytes, signature bytes. -/
structure FwCopy where
  header : List U64
  image : List Byte
  sig : List Byte
  deriving DecidableEq, Repr

/-- One DRAM module as its SPD reports it (R300). -/
structure ModuleSpd where
  part : Nat
  gib : Nat
  ranks : Nat
  mrdimm : Bool
  x4ten : Bool
  rates : List Nat
  deriving DecidableEq, Repr

/-- One DRAM channel at stage 0x05 (R300, R315): its modules, whether training passed, its smallest eye margin. -/
structure ChanTrain where
  modules : List ModuleSpd
  trained : Bool
  eyePs : Nat
  deriving DecidableEq, Repr

/-- One flash channel at stage 0x06 (R321): dies, die part, capacity, rated cycles, whether its dies trained. -/
structure FlashTrain where
  dies : Nat
  part : Nat
  gbit : Nat
  peLimit : Nat
  ok : Bool
  deriving DecidableEq, Repr

/-- A group as one device sends it to the master (R221): its words as (control address, value) pairs, the address of a per-device
word with REMOTE and DEVICE (R218); and what the other touched devices answer to the WORDS the master sends them: whether the
checks of each pass and each holds its words. -/
structure GroupMsg where
  dev : Nat
  words : List (Nat × U64)
  othersOk : Bool
  deriving DecidableEq, Repr

/-- What the DRAM decoder makes of a line's codewords (R302): free of error, correctable at one device position,
uncorrectable, or poison marked (R305). -/
inductive EccResult where
  | clean | corrected (pos : Nat) | uncorrectable | poisonMark
  deriving DecidableEq, Repr

/-- The operation of a remote control access, or the answer to one (R218, R389). -/
inductive RemoteOp where
  | cfgs | cfgr | cfgi | answer
  deriving DecidableEq, Repr

/-- A g register number, a v or handle register number, and the modifier and immediate of a Smiga word (R184). -/
abbrev GReg := BitVec 5
abbrev VReg := BitVec 3
abbrev HReg := BitVec 3
abbrev Imm := BitVec 32

/-- The commands of the block, in the order of the table (each with the rule the row names). A Smiga instruction row
carries the engine thread `t` (16 × engine + thread, R146) that issues it and the fields of its instruction word (R184). -/
inductive Instr where
  /-- PWRON_RST_N (R230) -/
  | pwronRstN (x y : Nat)
  /-- SYS_RST_N (R230) -/
  | sysRstN
  /-- MGW_RESET_CONTROL (R230) -/
  | mgwResetControl (v : U64)
  /-- MGW_RESET_WARM (R230) -/
  | mgwResetWarm (v : U64)
  /-- MGW_RESET_STACK (R232) -/
  | mgwResetStack (v : U64)
  /-- STACK_WORDS_COPY_DONE (R232) -/
  | stackWordsCopyDone (words : List (Nat × U64))
  /-- BOOT_SEQUENCE_TABLE_READ (R357) -/
  | bootSequenceTableRead (a b : TableCopy)
  /-- FIRMWARE_VERIFY (R411) -/
  | firmwareVerify (a b : FwCopy)
  /-- DRAM_TRAINING_DONE (R315) -/
  | dramTrainingDone (chans : List ChanTrain)
  /-- FLASH_SCAN_DONE (R321) -/
  | flashScanDone (chans : List FlashTrain)
  /-- BOOT_WINDOW_READY (R213) -/
  | bootWindowReady
  /-- PCIE_LINK_UP (R213) -/
  | pcieLinkUp
  /-- MGW_CQ_BASE_WRITE (R214) -/
  | mgwCqBaseWrite (v : U64)
  /-- MGW_CQ_DOORBELL_WRITE (R214) -/
  | mgwCqDoorbellWrite (v : U64)
  /-- CONTROL_DESCRIPTOR_FETCH (R214) -/
  | controlDescriptorFetch (desc image : List U64)
  /-- CONTROL_PROGRAM_TIMEOUT (R215) -/
  | controlProgramTimeout
  /-- MGW_EQ_BASE_WRITE (R217) -/
  | mgwEqBaseWrite (v : U64)
  /-- MGW_EQ_HEAD_WRITE (R217) -/
  | mgwEqHeadWrite (v : U64)
  /-- EQ_OVERFLOW_CLEAR (R212) -/
  | eqOverflowClear (v : U64)
  /-- REGISTER_WRITE (R5) -/
  | registerWrite (key : Nat) (v : U64)
  /-- I3C_TARGET_READ (R356) -/
  | i3cTargetRead (off : Nat)
  /-- ENTDAA (R456) -/
  | entdaa (addr : BitVec 7)
  /-- JTAG_BYPASS (R467) -/
  | jtagBypass (tdi : List Bool)
  /-- JTAG_IDCODE (R467) -/
  | jtagIdcode
  /-- JTAG_SAMPLE_PRELOAD (R467) -/
  | jtagSamplePreload (pins preload : List Bool)
  /-- JTAG_EXTEST (R467) -/
  | jtagExtest
  /-- WEIR_CUTOFF (R225) -/
  | weirCutoff
  /-- PREP (R225) -/
  | prep (w last : Nat)
  /-- PREP_ACK (R225) -/
  | prepAck (dev w : Nat) (failed : List Nat)
  /-- WEIR_DECISION (R225) -/
  | weirDecision
  /-- GO (R225) -/
  | go (w : Nat) (withdrawn : List Nat)
  /-- NOGO (R225) -/
  | nogo (w : Nat)
  /-- WEIR_APPLY (R225) -/
  | weirApply (x : WeirInput)
  /-- WEIR_OUTCOME_QUERY (R227) -/
  | weirOutcomeQuery (dev w : Nat)
  /-- WEIR_OUTCOME (R227) -/
  | weirOutcome (w : Nat) (wentGo : Bool) (withdrawn : List Nat)
  /-- DOUBT_MAX_EXPIRY (R227) -/
  | doubtMaxExpiry
  /-- GROUP_CLOSE_REQUEST (R221) -/
  | groupCloseRequest (g : GroupMsg)
  /-- GROUP_WORDS (R388) -/
  | groupWords (seq : Option Nat) (words : List (Nat × U64))
  /-- GROUP_CLOSE_ANSWER (R221) -/
  | groupCloseAnswer (seq : Option Nat)
  /-- REMOTE_CONTROL_ACCESS (R218) -/
  | remoteControlAccess (src : Nat) (op : RemoteOp) (key : Nat) (v : U64)
  /-- REVOKE (R24) -/
  | revoke (region : Nat)
  /-- REVOCATION_MARK (R25) -/
  | revocationMark (region : Nat)
  /-- REVOKE_DRAIN_COMPLETE (R27) -/
  | revokeDrainComplete (region : Nat)
  /-- MAPPING_DRAIN_COMPLETE (R29) -/
  | mappingDrainComplete (dom : Nat)
  /-- LANE_LOCK (R77) -/
  | laneLock (lane : Nat)
  /-- LANE_LOCK_LOSS (R107) -/
  | laneLockLoss (lane : Nat)
  /-- PORT_LINK_UP (R78) -/
  | portLinkUp (octet port : Nat)
  /-- PORT_LINK_DOWN (R107) -/
  | portLinkDown (octet port reason : Nat)
  /-- PORT_OFF (R109) -/
  | portOff (octet : Nat) (mask : BitVec 8)
  /-- TWIN_OCTET_DOWN (R48) -/
  | twinOctetDown (octet : Nat)
  /-- PAIR_HELLO_TIMER (R49) -/
  | pairHelloTimer
  /-- PAIR_HELLO (R49) -/
  | pairHello (h : HelloFrame)
  /-- RECONCILIATION_DONE (R350) -/
  | reconciliationDone (compared copied : Nat)
  /-- TWIN_FRAME_CRC_FAIL (R52) -/
  | twinFrameCrcFail (f : FrameId)
  /-- FWD_REQ (R54) -/
  | fwdReq (src : Nat) (p : PartReq)
  /-- FWD_RESP (R54) -/
  | fwdResp (h : RespHdr) (code : Nat) (result : U64) (len detail : Nat)
  /-- MIRROR (R55) -/
  | mirror (f : MirrorFrame)
  /-- MIRROR_ACK (R55) -/
  | mirrorAck (l : LinkHdr) (ns : Nat)
  /-- HEARTBEAT_TIMER (R56) -/
  | heartbeatTimer
  /-- HEARTBEAT (R56) -/
  | heartbeat (l : LinkHdr := ⟨0, 0, 0, 0⟩)
  /-- CREDIT (R53) -/
  | credit (l : LinkHdr) (lead : Option Nat)
  /-- RESERVED_FRAME_DISCARD (R51) -/
  | reservedFrameDiscard (f : ReservedFrame) (vc : Nat)
  /-- READ_FENCE_TIMEOUT (R58) -/
  | readFenceTimeout (silenceNs : Nat) (overdue : Option Nat)
  /-- TWIN_LOSS_TIMEOUT (R59) -/
  | twinLossTimeout (silenceNs : Nat := 8000)
  /-- GRANT_REQUEST_RETRY (R59) -/
  | grantRequestRetry
  /-- GRANT_REQUEST (R61) -/
  | grantRequest (pair epoch side : Nat)
  /-- GRANT_RECORD (R61) -/
  | grantRecord (pair epoch side src : Nat)
  /-- GRANT_RECORD_ACK (R61) -/
  | grantRecordAck (pair epoch : Nat)
  /-- GRANT (R62) -/
  | grant (pair epoch arbiter : Nat)
  /-- GRANT_REFUSAL (R63) -/
  | grantRefusal (pair epoch : Nat)
  /-- HOLD_LIMIT_EXPIRY (R63) -/
  | holdLimitExpiry
  /-- TWIN_GRANT (R60) -/
  | twinGrant (v : U64)
  /-- SAVE_NOTICE (R66) -/
  | saveNotice (f : TwinFrame) (granted : Bool)
  /-- GRANT_DECLINE (R66) -/
  | grantDecline (dev epoch : Nat)
  /-- GRANT_REPORT (R66) -/
  | grantReport (pair epoch side : Nat)
  /-- GRANT_REPORT_RETRY (R66) -/
  | grantReportRetry
  /-- RESYNC_DATA (R69) -/
  | resyncData (l : LinkHdr) (gran gen : Nat) (data : List Byte)
  /-- RESYNC_DONE (R70) -/
  | resyncDone (f : TwinFrame)
  /-- HEAL_REQ (R41) -/
  | healReq (f : TwinFrame)
  /-- HEAL_DATA (R41) -/
  | healData (f : TwinFrame) (data : Option (List Byte))
  /-- HEAL_TIMEOUT (R41) -/
  | healTimeout (line : Nat)
  /-- HOST_FRAME_RECEIVE (R79) -/
  | hostFrameReceive (f : HostFrame)
  /-- HOST_RELAY (R80) -/
  | hostRelay (f : HostFrame) (relayed : Option Bool)
  /-- BRAID_WRITE (R84) -/
  | braidWrite (h : BraidHdr) (data : List Byte)
  /-- BRAID_READ_REQ (R82) -/
  | braidReadReq (h : BraidHdr) (raddr rkey : List Byte)
  /-- BRAID_CAPSULE (R83) -/
  | braidCapsule (h : BraidHdr) (data : List Byte)
  /-- BRAID_ATOMIC (R82) -/
  | braidAtomic (h : BraidHdr) (a b op : List Byte)
  /-- BRAID_SACK (R86) -/
  | braidSack (c : CtlHdr) (cum : Nat) (bitmap : U64) (tsEcho nowUs : Nat)
  /-- BRAID_ECHO (R100) -/
  | braidEcho (f : EchoFrame) (nowUs : Nat)
  /-- BRAID_RNR (R97) -/
  | braidRnr (c : CtlHdr) (msn retryUs : Nat)
  /-- SACK_TIMER (R87) -/
  | sackTimer (dq : Nat)
  /-- RETRANSMIT_TIMEOUT (R90) -/
  | retransmitTimeout (dq psn nowUs : Nat)
  /-- PATH_HOLDOFF_EXPIRY (R89) -/
  | pathHoldoffExpiry (dq path : Nat)
  /-- RATE_RISE_TIMER (R100) -/
  | rateRiseTimer
  /-- RATE_CONTEXT_FREE (R100) -/
  | rateContextFree (dest : Nat)
  /-- COMPAT_SEND (R92) -/
  | compatSend (h : RoceHdr) (data : List Byte)
  /-- COMPAT_RDMA_WRITE (R94) -/
  | compatRdmaWrite (h : RoceHdr) (data : List Byte)
  /-- COMPAT_RDMA_READ (R92) -/
  | compatRdmaRead (h : RoceHdr)
  /-- COMPAT_COMPARE_SWAP (R92) -/
  | compatCompareSwap (h : RoceHdr) (cmp swp : U64)
  /-- COMPAT_FETCH_ADD (R92) -/
  | compatFetchAdd (h : RoceHdr) (add : U64)
  /-- COMPAT_ACK (R92) -/
  | compatAck (dq psn : Nat)
  /-- COMPAT_NAK (R143) -/
  | compatNak (dq : Nat)
  /-- COMPAT_ACK_TIMEOUT (R143) -/
  | compatAckTimeout (dq : Nat)
  /-- CNP (R100) -/
  | cnp (dest nowUs : Nat)
  /-- PFC_PAUSE (R95) -/
  | pfcPause (port prio : Nat) (on : Bool)
  /-- PAUSE_LONG (R107) -/
  | pauseLong (port : Nat)
  /-- CONTEXT_FETCH_COMPLETE (R101) -/
  | contextFetchComplete (q : Nat)
  /-- EDDY_PARK_TIMEOUT (R103) -/
  | eddyParkTimeout (q : Nat)
  /-- READ (R116) -/
  | read (q tag : Nat)
  /-- WRITE (R116) -/
  | write (q tag : Nat)
  /-- WRITE_ATOMIC (R34) -/
  | writeAtomic (q tag : Nat)
  /-- COMPARE_WRITE (R116) -/
  | compareWrite (q tag : Nat)
  /-- FETCH_ADD (R116) -/
  | fetchAdd (q tag : Nat)
  /-- INVOKE (R175) -/
  | invoke (q tag : Nat)
  /-- ABORT (R124) -/
  | abort (q tag : Nat)
  /-- APPEND (R118) -/
  | append (q tag : Nat)
  /-- TILE_READ (R284) -/
  | tileRead (q tag : Nat)
  /-- SEGMENT_RELEASE (R279) -/
  | segmentRelease (q tag : Nat)
  /-- ELOG_READ (R134) -/
  | elogRead (q tag : Nat)
  /-- QUEUE_RESTART (R135) -/
  | queueRestart (q tag : Nat)
  /-- PART_ADMISSION (R128) -/
  | partAdmission (pid : Nat)
  /-- PART_COMPLETION (R130) -/
  | partCompletion (pid : Nat)
  /-- COMMAND_COMPLETION (R121) -/
  | commandCompletion (q tag : Nat)
  /-- PART_HOLD (R126) -/
  | partHold (src pid : Nat)
  /-- PART_HOLD_ANSWER (R126) -/
  | partHoldAnswer (q tag dev : Nat) (held : Bool)
  /-- PART_CANCEL_OR_RELEASE (R126) -/
  | partCancelOrRelease (src pid : Nat) (cancel : Bool)
  /-- QUEUE_CLOSE_DONE (R142) -/
  | queueCloseDone (q : Nat)
  /-- KILL (R143) -/
  | kill (q : Nat)
  /-- ELOG_WORD_SELECT (R145) -/
  | elogWordSelect (q : Nat) (v : U64)
  /-- INVOCATION_START (R151) -/
  | invocationStart (cluster : Nat)
  /-- INVOCATION_TIMEOUT (R176) -/
  | invocationTimeout (t : Nat)
  /-- INVOCATION_COMPLETION (R168) -/
  | invocationCompletion (t : Nat)
  /-- ADD (R190) -/
  | add (t : Nat) (d a b : GReg)
  /-- SUB (R190) -/
  | sub (t : Nat) (d a b : GReg)
  /-- MUL (R190) -/
  | mul (t : Nat) (d a b : GReg)
  /-- MULH (R190) -/
  | mulh (t : Nat) (d a b : GReg) (u : Bool)
  /-- AND (R190) -/
  | and (t : Nat) (d a b : GReg)
  /-- OR (R190) -/
  | or (t : Nat) (d a b : GReg)
  /-- XOR (R190) -/
  | xor (t : Nat) (d a b : GReg)
  /-- SHL (R190) -/
  | shl (t : Nat) (d a b : GReg)
  /-- SHR (R190) -/
  | shr (t : Nat) (d a b : GReg)
  /-- SAR (R190) -/
  | sar (t : Nat) (d a b : GReg)
  /-- ROL (R190) -/
  | rol (t : Nat) (d a b : GReg)
  /-- MIN (R190) -/
  | min (t : Nat) (d a b : GReg)
  /-- MAX (R190) -/
  | max (t : Nat) (d a b : GReg)
  /-- MINU (R190) -/
  | minu (t : Nat) (d a b : GReg)
  /-- MAXU (R190) -/
  | maxu (t : Nat) (d a b : GReg)
  /-- ADDI (R190) -/
  | addi (t : Nat) (d a : GReg) (imm : Imm)
  /-- ANDI (R190) -/
  | andi (t : Nat) (d a : GReg) (imm : Imm)
  /-- ORI (R190) -/
  | ori (t : Nat) (d a : GReg) (imm : Imm)
  /-- XORI (R190) -/
  | xori (t : Nat) (d a : GReg) (imm : Imm)
  /-- SHLI (R190) -/
  | shli (t : Nat) (d a : GReg) (imm : Imm)
  /-- SHRI (R190) -/
  | shri (t : Nat) (d a : GReg) (imm : Imm) (arith : Bool)
  /-- LUI (R190) -/
  | lui (t : Nat) (d a : GReg) (imm : Imm)
  /-- MOVI (R190) -/
  | movi (t : Nat) (d : GReg) (imm : Imm)
  /-- POPC (R190) -/
  | popc (t : Nat) (d a : GReg)
  /-- CLZ (R190) -/
  | clz (t : Nat) (d a : GReg)
  /-- CTZ (R190) -/
  | ctz (t : Nat) (d a : GReg)
  /-- BSWAP (R190) -/
  | bswap (t : Nat) (d a : GReg)
  /-- SEL (R190) -/
  | sel (t : Nat) (d a b c : GReg)
  /-- CMPEQ (R190) -/
  | cmpeq (t : Nat) (d a b : GReg) (i : Bool) (imm : Imm)
  /-- CMPLT (R190) -/
  | cmplt (t : Nat) (d a b : GReg) (i : Bool) (imm : Imm)
  /-- CMPLTU (R190) -/
  | cmpltu (t : Nat) (d a b : GReg) (i : Bool) (imm : Imm)
  /-- BEQ (R191) -/
  | beq (t : Nat) (a b : GReg) (imm : Imm)
  /-- BNE (R191) -/
  | bne (t : Nat) (a b : GReg) (imm : Imm)
  /-- BLT (R191) -/
  | blt (t : Nat) (a b : GReg) (imm : Imm)
  /-- BGE (R191) -/
  | bge (t : Nat) (a b : GReg) (imm : Imm)
  /-- BLTU (R191) -/
  | bltu (t : Nat) (a b : GReg) (imm : Imm)
  /-- BGEU (R191) -/
  | bgeu (t : Nat) (a b : GReg) (imm : Imm)
  /-- JMPF (R191) -/
  | jmpf (t : Nat) (imm : Imm)
  /-- LOOP (R192) -/
  | loop (t : Nat) (a : GReg) (imm : Imm)
  /-- ENDL (R192) -/
  | endl (t : Nat)
  /-- EXIT (R191) -/
  | exit (t : Nat) (a : GReg)
  /-- FAULT (R191) -/
  | fault (t : Nat) (a : GReg) (imm : Imm)
  /-- YIELD (R191) -/
  | yield (t : Nat)
  /-- LD_8 (R194) -/
  | ld8 (t : Nat) (d : GReg) (h : HReg) (a : GReg) (imm : Imm) (sx : Bool)
  /-- LD_16 (R194) -/
  | ld16 (t : Nat) (d : GReg) (h : HReg) (a : GReg) (imm : Imm) (sx : Bool)
  /-- LD_32 (R194) -/
  | ld32 (t : Nat) (d : GReg) (h : HReg) (a : GReg) (imm : Imm) (sx : Bool)
  /-- LD_64 (R194) -/
  | ld64 (t : Nat) (d : GReg) (h : HReg) (a : GReg) (imm : Imm) (sx : Bool)
  /-- ST_8 (R194) -/
  | st8 (t : Nat) (h : HReg) (a : GReg) (imm : Imm) (b : GReg)
  /-- ST_16 (R194) -/
  | st16 (t : Nat) (h : HReg) (a : GReg) (imm : Imm) (b : GReg)
  /-- ST_32 (R194) -/
  | st32 (t : Nat) (h : HReg) (a : GReg) (imm : Imm) (b : GReg)
  /-- ST_64 (R194) -/
  | st64 (t : Nat) (h : HReg) (a : GReg) (imm : Imm) (b : GReg)
  /-- LDL (R194) -/
  | ldl (t : Nat) (d : VReg) (h : HReg) (a : GReg) (imm : Imm)
  /-- STL (R194) -/
  | stl (t : Nat) (h : HReg) (a : GReg) (imm : Imm) (b : VReg)
  /-- LDL_X (R196) -/
  | ldlX (t : Nat) (d : VReg) (imm : Imm)
  /-- STL_X (R196) -/
  | stlX (t : Nat) (b : VReg) (imm : Imm)
  /-- VMOV (R194) -/
  | vmov (t : Nat) (d a : VReg)
  /-- VEXT (R194) -/
  | vext (t : Nat) (d : GReg) (a : VReg) (imm : Imm) (w : BitVec 2)
  /-- VINS (R194) -/
  | vins (t : Nat) (d : VReg) (b : GReg) (imm : Imm) (w : BitVec 2)
  /-- LDB (R194) -/
  | ldb (t : Nat) (d : VReg) (h : HReg) (a : GReg) (imm : Imm) (km1 : BitVec 3)
  /-- STB (R194) -/
  | stb (t : Nat) (h : HReg) (a : GReg) (imm : Imm) (b : VReg) (km1 : BitVec 3)
  /-- MCOPY (R195) -/
  | mcopy (t : Nat) (d : GReg) (h : HReg) (a : GReg) (hs : HReg) (b : GReg) (imm : Imm)
  /-- MFILL (R195) -/
  | mfill (t : Nat) (d : GReg) (h : HReg) (a b : GReg) (imm : Imm)
  /-- MCMP (R195) -/
  | mcmp (t : Nat) (d : GReg) (h : HReg) (a : GReg) (hs : HReg) (b : GReg) (imm : Imm)
  /-- CAS_64 (R197) -/
  | cas64 (t : Nat) (d : GReg) (h : HReg) (a : GReg) (imm : Imm) (b : GReg)
  /-- CAS_128 (R197) -/
  | cas128 (t : Nat) (d : GReg) (h : HReg) (a : GReg) (imm : Imm) (b : GReg)
  /-- SWAP_64 (R197) -/
  | swap64 (t : Nat) (d : GReg) (h : HReg) (a : GReg) (imm : Imm) (b : GReg)
  /-- FADD_64 (R197) -/
  | fadd64 (t : Nat) (d : GReg) (h : HReg) (a : GReg) (imm : Imm) (b : GReg)
  /-- FAND (R197) -/
  | fand (t : Nat) (d : GReg) (h : HReg) (a : GReg) (imm : Imm) (b : GReg)
  /-- FOR (R197) -/
  | fetchOr (t : Nat) (d : GReg) (h : HReg) (a : GReg) (imm : Imm) (b : GReg)
  /-- FMAX (R197) -/
  | fmax (t : Nat) (d : GReg) (h : HReg) (a : GReg) (imm : Imm) (b : GReg) (sgn : Bool)
  /-- LCAS (R197) -/
  | lcas (t : Nat) (d : VReg) (h : HReg) (a : GReg) (imm : Imm) (b : VReg) (f : GReg)
  /-- PFENCE (R160) -/
  | pfence (t : Nat)
  /-- TXB (R163) -/
  | txb (t : Nat)
  /-- TXE (R165) -/
  | txe (t : Nat) (d : GReg)
  /-- TXA (R166) -/
  | txa (t : Nat)
  /-- PSTAT (R150) -/
  | pstat (t : Nat) (d : GReg)
  /-- QPOST (R199) -/
  | qpost (t : Nat) (d : GReg) (h : HReg) (a : GReg) (hb : HReg) (b : GReg) (imm : Imm)
  /-- QCOMP (R199) -/
  | qcomp (t : Nat) (d : GReg) (h : HReg) (a b : GReg) (imm : Imm)
  /-- QSEND (R199) -/
  | qsend (t : Nat) (d : GReg) (h : HReg) (a : GReg) (b : VReg) (imm : Imm)
  /-- FARM (R200) -/
  | farm (t : Nat) (d : GReg) (h : HReg) (a : GReg)
  /-- FDISARM (R200) -/
  | fdisarm (t : Nat) (d a : GReg)
  /-- BALLOC (R201) -/
  | balloc (t : Nat) (d : GReg) (h : HReg) (imm : Imm) (idx : Nat)
  /-- BFREE (R201) -/
  | bfree (t : Nat) (d : GReg) (h : HReg)
  /-- BREF (R201) -/
  | bref (t : Nat) (d : GReg) (h : HReg)
  /-- BUNREF (R201) -/
  | bunref (t : Nat) (d : GReg) (h : HReg)
  /-- BLEN (R201) -/
  | blen (t : Nat) (d : GReg) (h : HReg)
  /-- CINV (R202) -/
  | cinv (t : Nat) (d : GReg) (h : HReg) (a : GReg) (imm : Imm) (b : GReg)
  /-- CINV_ALL (R203) -/
  | cinvAll (t : Nat) (d : GReg) (imm : Imm)
  /-- CWB (R202) -/
  | cwb (t : Nat) (d : GReg) (h : HReg) (a : GReg) (imm : Imm) (b : GReg)
  /-- CWBI (R202) -/
  | cwbi (t : Nat) (d : GReg) (h : HReg) (a : GReg) (imm : Imm) (b : GReg)
  /-- CLOCK (R203) -/
  | clock (t : Nat) (d : GReg) (h : HReg) (a : GReg) (imm : Imm) (scr : Bool)
  /-- CUNLK (R203) -/
  | cunlk (t : Nat) (d : GReg) (h : HReg) (a : GReg) (imm : Imm) (scr : Bool)
  /-- CEN (R203) -/
  | cen (t : Nat) (d : GReg) (imm : Imm)
  /-- CDIS (R203) -/
  | cdis (t : Nat) (d : GReg) (imm : Imm)
  /-- CSTAT (R204) -/
  | cstat (t : Nat) (d a : GReg)
  /-- DIS_REQ (R250) -/
  | disReq (cluster : Nat)
  /-- STILE (R205) -/
  | stile (t : Nat) (d : GReg) (h : HReg) (a b : GReg) (hb : HReg)
  /-- SREL (R205) -/
  | srel (t : Nat) (d : GReg) (h : HReg) (a : GReg)
  /-- SWAIT (R205) -/
  | swait (t : Nat) (d : GReg) (h : HReg) (a : GReg)
  /-- SSTAT (R205) -/
  | sstat (t : Nat) (d : GReg) (h : HReg)
  /-- GENC (R206) -/
  | genc (t : Nat) (d : GReg) (h : HReg) (a b : GReg) (k : VReg) (imm : Imm)
  /-- GDEC (R206) -/
  | gdec (t : Nat) (d : GReg) (h : HReg) (a b : GReg) (k : VReg) (imm : Imm)
  /-- SHK (R206) -/
  | shk (t : Nat) (d : GReg) (h : HReg) (a : GReg) (b : VReg) (imm : Imm)
  /-- SEAL (R207) -/
  | seal (t : Nat) (d : GReg) (h : HReg)
  /-- CFGS (R220) -/
  | cfgs (t : Nat) (d a b : GReg)
  /-- CFGR (R208) -/
  | cfgr (t : Nat) (d a : GReg) (staged : Bool)
  /-- CFGC (R221) -/
  | cfgc (t : Nat) (d : GReg)
  /-- CFGI (R223) -/
  | cfgi (t : Nat) (d a b : GReg)
  /-- WWAIT (R208) -/
  | wwait (t : Nat) (d : GReg) (imm : Imm)
  /-- DRST (R208) -/
  | drst (t : Nat) (imm : Imm)
  /-- EVT (R210) -/
  | evt (t : Nat) (a : GReg) (imm : Imm)
  /-- TIME (R210) -/
  | time (t : Nat) (d : GReg)
  /-- CAL (R210) -/
  | cal (t : Nat) (d : GReg)
  /-- HIST (R210) -/
  | hist (t : Nat) (a : GReg) (imm : Imm)
  /-- EDDY_PEAK_READ (R110) -/
  | eddyPeakRead
  /-- LOW_FREE_READ (R265) -/
  | lowFreeRead (pool : Nat)
  /-- WAIT_PEAK_READ (R298) -/
  | waitPeakRead (stream : Nat)
  /-- ZQ_RUNS_READ (R319) -/
  | zqRunsRead (chan : Nat)
  /-- TIME_ERR_MAX_READ (R408) -/
  | timeErrMaxRead
  /-- ZEROING_DONE (R257) -/
  | zeroingDone (pool idx : Nat)
  /-- STREAM_LOAD_IMAGE_DONE (R274) -/
  | streamLoadImageDone (stream : Nat) (away : List (Nat × Option (List Byte)))
  /-- TILE_FETCH_COMPLETE (R278) -/
  | tileFetchComplete (stream seg tile : Nat)
  /-- TILE_FLASH_READ_FAIL (R291) -/
  | tileFlashReadFail (stream seg tile : Nat)
  /-- TILE_RECOVERY_TIMEOUT (R292) -/
  | tileRecoveryTimeout (stream seg tile : Nat)
  /-- TILE_STALL_TIMEOUT (R289) -/
  | tileStallTimeout (stream waiter : Nat)
  /-- RELEASE_COUNT (R279) -/
  | releaseCount (stream seg dev q tag : Nat) (count : Option Nat)
  /-- NEW_FIRST (R280) -/
  | newFirst (stream first : Nat)
  /-- SCHEDULE_CHECK (R281) -/
  | scheduleCheck (stream : Nat)
  /-- STREAM_CONTROLLER_TAKEOVER (R282) -/
  | streamControllerTakeover (stream : Nat)
  /-- DATA_RESP (R285) -/
  | dataResp (id : Nat) (data : List Byte)
  /-- REFRESH (R311) -/
  | refresh (chan : Nat) (hotReported : Option Bool)
  /-- CALIBRATION_REFRESH (R316) -/
  | calibrationRefresh (chan sub lane : Nat) (driftPs : Int)
  /-- ZQ_LATCH_REFRESH (R316) -/
  | zqLatchRefresh (chan : Nat)
  /-- MODULE_SENSOR_READ (R312) -/
  | moduleSensorRead (chan module : Nat) (temp : Option Nat)
  /-- POWER_DOWN_ENTRY (R314) -/
  | powerDownEntry (chan sub rank : Nat)
  /-- DRAM_REQUEST (R308) -/
  | dramRequest (chan port id line sub rank row : Nat) (isWrite : Bool) (data : List Byte)
  /-- DRAM_COMMAND_SLOT (R309) -/
  | dramCommandSlot (chan sub ageNs : Nat)
  /-- DRAM_READ_DATA (R303) -/
  | dramReadData (chan id : Nat) (ecc : EccResult)
  /-- DRAM_WRITE_ON_MEDIUM (R310) -/
  | dramWriteOnMedium (line : Nat)
  /-- PATROL_SCRUB_READ (R307) -/
  | patrolScrubRead (chan line sub rank : Nat) (ecc : EccResult) (otherLost : Bool)
  /-- WRITE_BEHIND_PROGRAM_DONE (R325) -/
  | writeBehindProgramDone (gran : Nat)
  /-- FLASH_PROGRAM_FAILURE (R329) -/
  | flashProgramFailure (chan die block : Nat)
  /-- FLASH_ERASE_FAILURE (R329) -/
  | flashEraseFailure (chan die block : Nat)
  /-- FLASH_READ_RETRY (R328) -/
  | flashReadRetry (chan die : Nat) (step : Retry) (gran kind : Nat)
  /-- FLASH_SCRUB (R328) -/
  | flashScrub (block : Nat) (bad : ScrubRead) (passEnd : Bool)
  /-- FLASH_RELOCATION (R327) -/
  | flashRelocation (block gib : Nat)
  /-- OWN_BUDGET (R333) -/
  | ownBudget (mib : Nat)
  /-- SPATE_FLAGS (R334) -/
  | spateFlags (dev : Nat) (spate full ovr : Bool) (dMib : Nat)
  /-- SAVE_RATE_RETEST (R332) -/
  | saveRateRetest (mbs : Nat)
  /-- ARMING_TEST_DONE (R338) -/
  | armingTestDone (mbs : Nat)
  /-- PFAIL_N (R339) -/
  | pfailN
  /-- INPUT_FAILED (R373) -/
  | inputFailed (code : Nat)
  /-- INPUT_GOOD (R373) -/
  | inputGood (code : Nat)
  /-- SAVE_NOW_HALT (R339) -/
  | saveNowHalt
  /-- SAVE_NOW_RESUME (R339) -/
  | saveNowResume
  /-- SAVE_METADATA_DONE (R340) -/
  | saveMetadataDone
  /-- SAVE_RECORDS_DONE (R340) -/
  | saveRecordsDone
  /-- SAVE_COMMIT_DONE (R344) -/
  | saveCommitDone (ms : Nat)
  /-- RESUME_DWELL (R344) -/
  | resumeDwell
  /-- POWER_LOST (R346) -/
  | powerLost
  /-- RESTORE_DONE (R347) -/
  | restoreDone (ms : Nat)
  /-- SEQ_SYNC_RISE (R362) -/
  | seqSyncRise
  /-- SEQ_GUARD_END (R363) -/
  | seqGuardEnd
  /-- SEQ_CHAIN_IN (R363) -/
  | seqChainIn (level : Bool)
  /-- SEQ_CHAIN_RET (R362) -/
  | seqChainRet (level : Bool)
  /-- RAIL_ENABLE_GAP (R363) -/
  | railEnableGap
  /-- CHAIN_LIMIT (R364) -/
  | chainLimit
  /-- SYNC_LIMIT (R364) -/
  | syncLimit
  /-- RAIL_SETTLE_DWELL (R368) -/
  | railSettleDwell (rail : Nat)
  /-- RAIL_SETTLE_LIMIT (R368) -/
  | railSettleLimit (rail : Nat)
  /-- RAIL_FAULT (R370) -/
  | railFault (rail code : Nat)
  /-- RAIL_WARNING (R367) -/
  | railWarning (rail code : Nat)
  /-- RAIL_OFF_CONFIRMED (R372) -/
  | railOffConfirmed (rail : Nat) (off : Bool)
  /-- POWER_DOWN_GAP (R372) -/
  | powerDownGap
  /-- DISCHARGE_TEST_START (R376) -/
  | dischargeTestStart (mv : Nat) (steady : Bool)
  /-- DISCHARGE_TEST_ESR (R376) -/
  | dischargeTestEsr (mv : Nat)
  /-- DISCHARGE_TEST_V1 (R376) -/
  | dischargeTestV1 (mv : Nat)
  /-- DISCHARGE_TEST_END (R376) -/
  | dischargeTestEnd (mv us : Nat)
  /-- DISCHARGE_TEST_TIMEOUT (R376) -/
  | dischargeTestTimeout
  /-- ENGINE_CLOCK_GATE (R379) -/
  | engineClockGate (engine : Nat)
  /-- CLUSTER_POWER_GATE (R379) -/
  | clusterPowerGate (cluster : Nat)
  /-- BLOCK_POWER_GATE (R379) -/
  | blockPowerGate (domain : Nat)
  /-- DOMAIN_WAKE_DONE (R380) -/
  | domainWakeDone (domain ns : Nat)
  /-- PLL_LOCK_LOSS (R378) -/
  | pllLockLoss (pll : Nat)
  /-- JUNCTION_SENSOR_READ (R437) -/
  | junctionSensorRead (eighths : Int)
  /-- THERM_TRIP (R468) -/
  | thermTrip
  /-- TIME_BROADCAST (R395) -/
  | timeBroadcast
  /-- TIME_FRAME (R395) -/
  | timeFrame (src masterNs : Nat) (corr : Int) (epoch : Nat)
  /-- BEAT_ACK (R398) -/
  | beatAck (dev epoch : Nat)
  /-- MASTER_STEP_DOWN (R398) -/
  | masterStepDown
  /-- DEPUTY_CLAIM (R398) -/
  | deputyClaim
  /-- STEP_DOWN (R398) -/
  | stepDown (epoch : Nat)
  /-- CLAIM (R398) -/
  | claim (src epoch : Nat) (quietHalf : Bool)
  /-- CLAIM_ACK (R398) -/
  | claimAck (dev : Nat) (groups : List (Nat × List (Nat × U64)))
  /-- CLAIM_NAK (R398) -/
  | claimNak (dev : Nat)
  /-- CLAIM_TIMEOUT (R398) -/
  | claimTimeout
  /-- SELF_EXCLUSION (R401) -/
  | selfExclusion
  /-- STACK_FORM_TIMEOUT (R402) -/
  | stackFormTimeout
  /-- JOIN (R402) -/
  | join (dev stepping : Nat) (empty : Bool)
  /-- JOIN_REFUSE (R402) -/
  | joinRefuse (reason : Nat)
  /-- EXCLUDE (R404) -/
  | exclude (dev cause : Nat)
  /-- CASCADE_LINK_CHANGE (R391) -/
  | cascadeLinkChange (dir : Nat) (up : LinkChange)
  /-- LINK_MAP (R391) -/
  | linkMap (links : List (Nat × Nat))
  /-- CASCADE_FRAME_HOP (R390) -/
  | cascadeFrameHop (type vc src dst : Nat) (hops : Hop) (seq : Nat)
  /-- IN_SERVICE_CHANGE (R282) -/
  | inServiceChange (dev : Nat) (x : Service)
  /-- RNG_HEALTH_FAIL (R410) -/
  | rngHealthFail (test : Nat)
  /-- FLASH_KEY_ROTATION_DONE (R423) -/
  | flashKeyRotationDone
  /-- ATTEST_REPORT_READY (R417) -/
  | attestReportReady
  /-- SCHEDULED_SEAL (R427) -/
  | scheduledSeal (slot : Nat)
  /-- SEAL_RECORD_WRITE (R427) -/
  | sealRecordWrite (slot : Nat)
  /-- FRAME_CLOSE (R438) -/
  | frameClose (openSecs : Nat) (samples : FrameInput)
  /-- RECORDER_CHECKPOINT (R438) -/
  | recorderCheckpoint (openSecs : Nat)
  /-- CHATTER_EDGE (R368) -/
  | chatterEdge (rail : Nat)
  /-- RAIL_WARNING_CLEAR (R367) -/
  | railWarningClear (rail : Nat)
  /-- PFAIL_N_HIGH (R344) -/
  | pfailNHigh
  /-- BEAT_ACK_TIMEOUT (R404) -/
  | beatAckTimeout (dev : Nat)
  /-- RNG_HEALTH_PASS (R410) -/
  | rngHealthPass
  /-- THERM_TRIP_RELEASE (R468) -/
  | thermTripRelease
  /-- FRAME_LOAD_DONE (R448) -/
  | frameLoadDone
  /-- PERST_N (R456) -/
  | perstN
  deriving DecidableEq, Repr

end Sys2Proof
end

