-- ==== Sys2Proof/Machine/State.lean ====
section
/-! DEFINITION. The state of one FV6412 as plain data: the control words, the memory, the caches and pools, the twin link,
the access parts, the queues, the engines, the staging store, the save and flash tables, the supply, the stack's view, the
security core and the recorder; and the queue of commands that wait. -/

namespace Sys2Proof.Machine

/-- Why the machine stops with a fault. No meaning raises one: the block refuses, ignores or answers what it does not do. -/
inductive Fault where
  /-- raised by no command; the type is closed. Safe: an unreachable reason adds no behaviour -/
  | unreachable
  deriving DecidableEq, Repr

/-- Why a command has no meaning. -/
inductive Refusal where
  /-- raised by exec for a command whose meaning is not written, by its mnemonic. Safe: no effect is claimed -/
  | notModelled (mnemonic : String)
  deriving DecidableEq, Repr

/-- What the device sends: the kinds of frame, packet, interrupt and host-memory write, whose numbers (`args`) and bytes are
those of the rule each names. -/
inductive MsgKind where
  /-- a twin-link frame (R51): TYPE, then its fields -/
  | twin
  /-- a cascade frame of the control channel (R388): its type number, then its fields -/
  | cascade
  /-- a forwarded part to another device (R54, R128): part, kind, region, offset, length, expect -/
  | fwdReq
  /-- the completion fields of a forwarded part (R51): part, code, result, length, detail -/
  | fwdResp
  /-- the data of a forwarded read (R285): part -/
  | dataResp
  /-- a HOLD, CANCEL or RELEASE of a part (R126): part, 0 HOLD, 1 CANCEL, 2 RELEASE -/
  | partCtl
  /-- an answer to a HOLD (R126): queue, tag, 1 HELD or 0 ADMITTED -/
  | holdAnswer
  /-- a packet of braid mode to a host (R82): its type, queue, then its fields -/
  | braid
  /-- a RoCE v2 packet to a host (R92): its kind, queue, then its fields -/
  | compat
  /-- another Ethernet frame of a host port (R79, R95): its kind, port, then its fields -/
  | ether
  /-- a completion entry written to a queue's ring (R121): queue, host address; bytes of the entry -/
  | completion
  /-- an event entry written to the event ring (R217): ring index, QW0 to QW3 -/
  | event
  /-- a control descriptor written back (R215): index, quadword number, value -/
  | descriptor
  /-- MSI-X vector (R215, R217): vector -/
  | msix
  /-- a value that a read returns (R110, R265, R298, R319, R356, R408, R467) -/
  | readback
  /-- a cascade frame passed on at a hop (R390): TYPE, VC, SRC, DST, HOPS, SEQ -/
  | hop
  deriving DecidableEq, Repr

/-- One thing sent. -/
structure Msg where
  kind : MsgKind
  dst : Nat
  args : List Nat
  data : List Byte
  deriving DecidableEq, Repr

/-- The occurrences of a per-reach event in the current reach (R471): its code, its source, how many, the last one's data. -/
structure ReachEv where
  code : Nat
  src : Nat
  count : Nat
  dat : List Nat
  deriving DecidableEq, Repr

/-- The event queue beside its boot-window registers (R217, R374): EQSEQ of the next entry, whether EN was ever set since
boot, the supply and clock events kept until then, and the stack time of the last MSI-X vector 0. -/
structure EvQ where
  seq : Nat
  everEn : Bool
  kept : List (Nat × Nat × List Nat)
  lastMsix : Option Nat
  deriving DecidableEq, Repr

/-- Whom the settling of applied lines lets go on (R30, R31, R55). -/
inductive Waiter where
  /-- a part of a command or message of this device -/
  | part (pid : Nat)
  /-- a MIRROR or RESYNC_DATA frame received (R55) -/
  | mirror (seq : Nat)
  deriving DecidableEq, Repr

/-- Lines applied and not yet settled: the granule, the lines not yet on this device's medium, the MIRROR not yet
acknowledged, and who waits. -/
structure Unsettled where
  id : Nat
  gran : Nat
  lines : List Nat
  mirror : Option Nat
  who : Waiter
  result : U64
  len : Nat
  solo : Bool
  /-- stack time at which its MIRROR was sent (ns) -/
  sentAt : Nat
  deriving DecidableEq, Repr

/-- The DRAM of the device as the fabric sees it (R9, R30, R36, R41): bytes by device offset, the poisoned lines, the granule
generations, a count of the writes to each line (so that a group can tell whether its lines were written, R165), what is
applied and not settled, the lines for which a heal is asked, the granules newer than their flash homes, oldest first (R325),
and the effective dirty budget B in bytes (R333). -/
structure Dram where
  mem : SMap Byte
  poison : List Nat
  gens : SMap Nat
  ver : SMap Nat
  unsettled : List Unsettled
  nextId : Nat
  heals : List Nat
  dirty : List Nat
  budget : Nat
  deriving DecidableEq, Repr

/-- An entry of a line cache (R238 to R246): the line it is for (none: scratch or never used), whether it holds data, the
contents last written back if the data are dirty (DRAM as seen by the fabric is `Dram.mem`; these are what CINV returns to),
its lock, whether it was prefetched and not hit since, the bytes of a scratch entry and whether they are poisoned (R243); its words with
an ECC error, each with whether two bits of it are wrong, and whether the parity of its tag and of its directory copy fails (R244). -/
structure CEntry where
  line : Option Nat
  valid : Bool
  dirty : Option (List Byte)
  locked : Bool
  isScratch : Bool
  prefetched : Bool
  scratch : List Byte
  poisoned : Bool
  ecc : List (Nat × Bool)
  tagBad : Bool
  dirBad : Bool
  deriving DecidableEq, Repr

/-- One cluster's line cache (R238): its 48 entries by number (an absent one is invalid and unlocked), and the numbers of
the entries that hold lines, most recently used first. -/
structure Cache where
  entries : SMap CEntry
  order : List Nat
  deriving DecidableEq, Repr

/-- The state of one buffer (R256, R257). -/
inductive BufSt where
  | free | owned | shared | zeroing
  deriving DecidableEq, Repr

/-- A buffer of a pool that is not free (R255 to R259): owner thread or unit, reference count, the references that engine
threads hold, and its contents where they are not all zero. -/
structure Buf where
  st : BufSt
  owner : Nat
  refs : Nat
  held : SMap Nat
  data : List Byte
  deriving DecidableEq, Repr

/-- A copy of the twin not yet applied (R335): its chunks, its generation, its SEQ, the log frontier it brings, and whether it is a granule
of a resync. -/
structure Late where
  chunks : List (Nat × List Byte)
  gen : Nat
  seq : Nat
  front : Option Nat
  sync : Bool
  deriving DecidableEq, Repr

/-- The twin link and the pair (R49 to R72, R350) beside the TWIN words. -/
structure Twin where
  /-- the grant record: its epoch and the side it names -/
  grant : Option (Nat × Nat)
  /-- the changed-granule map -/
  changed : List Nat
  /-- SEQ of the next frame of each virtual channel, of the next one due from the twin (none: any, the first is taken), and the MIRRORs
  not acknowledged (R51, R52) -/
  seqOut : List Nat
  seqIn : List (Option Nat)
  unacked : List Nat
  /-- the replay buffer, oldest first: virtual channel, SEQ, units, frame (R52) -/
  replay : List (Nat × Nat × Nat × Msg)
  /-- the twin's hello was accepted; ours was answered by the twin's -/
  helloIn : Bool
  peerEpoch : Nat
  peerGranted : Bool
  /-- PAIRING was entered from SOLO_PROV (R57) -/
  fromSolo : Bool
  /-- no grant may be asked for or taken (R67) -/
  noAsk : Bool
  /-- FENCED was entered from RESYNC_TARGET (R67) -/
  fromTarget : Bool
  /-- the own SAVE_NOTICE has been sent (R65) -/
  noticeSent : Bool
  /-- a grant report waits for its acknowledgement (R66, R67) -/
  reportDue : Bool
  /-- the granules still to copy in a resync, ascending, those copied, and when it began -/
  copySet : List Nat
  copied : Nat
  resyncStart : Nat
  resyncFull : Bool
  /-- the SEQ of the last RESYNC_DATA, and the weir named in the RESYNC_DONE sent or received -/
  lastResyncSeq : Option Nat
  doneWeir : Option Nat
  /-- granules the two sides still have to compare before they serve (R350) -/
  reconcile : List Nat
  /-- arbiter's grants and standby's records: (pair, epoch, side) (R61) -/
  arbiter : List (Nat × Nat × Nat)
  standby : List (Nat × Nat × Nat)
  /-- grants that wait for the standby's acknowledgement -/
  pendingGrant : List (Nat × Nat × Nat)
  /-- a UNIT received in part (R55): SEQ, device offset and bytes of its frames -/
  unitIn : List (Nat × Nat × List Byte)
  /-- copies of the twin that would make a granule dirty while D is at or above B, in the order they came (R335) -/
  late : List Late
  /-- credits held on the four virtual channels (R53); the frame of each that fails its CRC, and how often it has (R52) -/
  credits : List Nat
  retries : List (Nat × Nat)
  /-- reserved frames discarded (R51) -/
  discarded : Nat
  /-- octets of the twin link that are down (R48) -/
  octetsDown : List Nat
  /-- the twin's own budget and dirty flags as last sent (R333, R334) -/
  peerOwn : Option Nat
  peerSpate : Bool
  peerFull : Bool
  peerOver : Bool
  /-- no octet carries the link -/
  linkDown : Bool
  /-- frames that wait for credit: virtual channel, units, frame (R53) -/
  held : List (Nat × Nat × Msg)
  /-- units received on each virtual channel and not returned as credit (R53) -/
  owed : List Nat
  /-- SEQ of the MIRROR that has gone 4 µs without its MIRROR_ACK (R57) -/
  overdue : Option Nat
  deriving DecidableEq, Repr

/-- Where a part stands. -/
inductive PartSt where
  /-- not admitted at its device -/
  | waiting
  /-- a read held at the read fence (R58), not admitted -/
  | heldRead
  /-- admitted, and a read that waits for a seal record (R429), a write held by a full dirty budget (R335), or waiting for a heal
  (R41) -/
  | heldSeal
  | heldFull
  | heldHeal (line : Nat)
  /-- performed; its lines are not settled -/
  | admitted
  /-- sent to another device -/
  | forwarded
  /-- complete, with its code -/
  | done
  /-- cancelled before admission -/
  | cancelled
  deriving DecidableEq, Repr

/-- A seal ordered and not yet written (R427, R428): SEAL_SEQ, KIND, FROM_OFF, TO_OFF, the calendar time in µs and the stack time
in ns of its moment, and the appends ordered by then. -/
structure SealDue where
  seq : Nat
  kind : Nat
  frm : Nat
  upto : Nat
  cal : Nat
  at_ : Nat
  appends : Nat
  deriving DecidableEq, Repr

/-- The log state of one LOG slot beside its record (R425 to R430): appends ordered, the number of the last seal ordered, the
first byte the next seal covers, the chain digest D(n − 1), whether the next seal is the first after a grant or a restore, the
weir count at the slot's commit, the weir count at which the reach of the last extra seal began, the SEAL requests that wait (a
part each) with the seal each waits for, the seals ordered and not yet written, the seal that the last interval weir asked for
(TO_OFF, calendar, stack time, appends), the frontier at that weir, the number and the TO_OFF of the last seal on the medium of
both twins (whose digest is D(n − 1)), and the highest number reported late. -/
structure LogSt where
  appends : Nat
  sealSeq : Nat
  fromOff : Nat
  chain : List Byte
  kind3 : Bool
  startWeir : Nat
  extraAt : Option Nat
  waiters : List (Nat × Option Nat)
  due : List SealDue
  mark : Option (Nat × Nat × Nat × Nat)
  intervalF : Nat
  last : Nat × Nat
  lateTo : Nat
  deriving DecidableEq, Repr

/-- What a part belongs to. -/
inductive Origin where
  | cmd (q tag : Nat)
  | msg (q msn : Nat)
  | thread (t : Nat)
  /-- forwarded by another device -/
  | remote (src id : Nat)
  /-- an action of a fiddlehead -/
  | fiddle (k : Nat)
  /-- a seal record of a LOG slot (R427) -/
  | seal (slot seq : Nat)
  deriving DecidableEq, Repr

/-- A part of an access (R128): its holding device, what it does, its place in its region, its data, where it stands, and its
outcome. -/
structure Part where
  org : Origin
  kind : PartKind
  dev : Nat
  region : Nat
  off : Nat
  len : Nat
  data : List Byte
  data2 : List Byte
  expect : Option Nat
  /-- an append's mapping ends before this region byte -/
  lim : Nat
  /-- a transaction group's staged bytes and read set (R165) -/
  chunks : List (Nat × List Byte)
  reads : List (Nat × Nat)
  st : PartSt
  code : Nat
  result : U64
  rdata : List Byte
  /-- a compare-write has stored -/
  stored : Bool
  reported : Bool
  /-- its first byte's offset in the message or command -/
  moff : Nat
  /-- bytes done: what the outcome reports, or an invocation's DETAIL -/
  doneLen : Nat
  /-- stack time at which it was made (ns) -/
  born : Nat
  /-- its wait for a buffer of a unit's pool has been counted (R265) -/
  retried : Bool
  /-- the part is cut at granules into `cnt` pieces, each a record of its own; `grp` is the number of the first (R128) -/
  grp : Nat
  cnt : Nat
  /-- it has passed check 5 (R26) -/
  passed : Bool
  /-- it stays held by a HOLD of its home device (R126) -/
  onHold : Bool
  /-- the queue or thread of another device that it comes from, in whose order it is applied (R38, R54) -/
  flow : Option Nat
  /-- it settled on the medium of one device alone (R32) -/
  solo : Bool
  deriving DecidableEq, Repr

/-- Where an address lies (R23): the region, the region byte, the bytes from there to its mapping's end, the mapping. -/
structure Tgt where
  region : Nat
  off : Nat
  left : Nat
  map : Nat
  deriving DecidableEq, Repr

/-- The outcome of a command (R120): CODE, DETAIL, RESULT, DONE_LEN, PART_MAP. -/
structure Done where
  code : Nat
  detail : Nat
  result : U64
  len : Nat
  map : U64
  deriving DecidableEq, Repr

/-- A command of a queue (R113 to R130): its tag, its eight quadwords, its data and whether all of it has arrived, the code of
its checks (0: passed), where its address lies, whether it has
started, its parts, its outcome, whether a byte of its data has been sent to the host, the PSNs its completion waits for, the
target an ABORT has met and waits for, the HOLD round that runs (the ABORT's tag; 65536: a freeze or an error), the devices it asked, and
their answers; the device and the code of its first part that failed (R133). -/
structure Cmd where
  tag : Nat
  msn : Nat
  qw : List U64
  data : List Byte
  whole : Bool
  check : Nat
  tgt : Option Tgt
  started : Bool
  parts : List Nat
  outcome : Option Done
  sent : Bool
  awaiting : List Nat
  abort : Option Nat
  hold : Option Nat
  asked : List Nat
  answers : List (Nat × Bool)
  fail : Option (Nat × Nat)
  deriving DecidableEq, Repr

/-- A braid or RoCE message of a queue (R82, R84, R92): its MSN, its packet type, the header fields every packet repeats, its
PSN at the start (compatible mode), the payload received with its offsets (a capsule's, until the capsule's packet arrives), the
bytes received, its code, the region byte and region it names, its parts, the bytes of an answer, its ingress units, whether it
is complete, and its result. -/
structure OneSided where
  msn : Nat
  kind : Nat
  tag : Nat
  key : U64
  addr : U64
  len : Nat
  psn : Nat
  raddr : U64
  rkey : U64
  chunks : List (Nat × List Byte)
  got : Nat
  code : Nat
  tgt : Option Tgt
  parts : List Nat
  data : List Byte
  units : Nat
  closed : Bool
  result : U64
  /-- when its last packet was accepted (ns) -/
  lastAt : Nat
  deriving DecidableEq, Repr

/-- A packet sent and not acknowledged (R86, R90): its PSN, its path, its tries, when it was sent (µs), the send it belongs to,
the buffer that the send holds, whether it writes a completion entry (R143), and the packet itself. -/
structure TxPkt where
  psn : Nat
  path : Nat
  tries : Nat
  sentUs : Nat
  send : Nat
  buf : Option Nat
  entry : Bool
  msg : Msg
  deriving DecidableEq, Repr

/-- One path of a queue (R89): the times of its last two retransmission timeouts (µs), and whether it is held out of service. -/
structure Path where
  last : Option Nat
  before : Option Nat
  held : Bool
  deriving DecidableEq, Repr

/-- The dynamic state of one queue beside its QUEUE record (R85 to R97, R101 to R103, R111 to R135). -/
structure Queue where
  /-- commands whose tags are in use, in message order -/
  cmds : List Cmd
  /-- messages open or complete, oldest first; of complete ones the last 4,096 -/
  msgs : List OneSided
  /-- the last 4,096 completed tags -/
  doneTags : List Nat
  /-- error log entries retained, oldest first -/
  elog : List (List U64)
  /-- ENTRY_SEQ of the retained entries that an ELOG_READ has given to the host -/
  elogSeen : List Nat
  /-- the lowest MSN not checked, and those beyond it that are -/
  nextMsn : Nat
  msnSeen : List Nat
  /-- CUM_PSN and the PSNs received beyond it; packets accepted since the last SACK; TS of the latest one -/
  rxNext : Nat
  rxSeen : List Nat
  sinceSack : Nat
  lastTs : Nat
  /-- packets sent and not acknowledged; the next PSN and MSN to send -/
  tx : List TxPkt
  /-- acknowledged packets of messages that are not acknowledged whole: a refusal sends them again (R97) -/
  kept : List TxPkt
  txNext : Nat
  txMsn : Nat
  /-- srtt and rttvar in ns, none before the first sample -/
  rtt : Option (Nat × Nat)
  paths : SMap Path
  lastPath : Nat
  /-- own packets whose message the host has refused (R97): until when in ns, and the packet -/
  refused : List (Nat × TxPkt)
  /-- messages refused: MSN, and the stack time in ns before which their packets are discarded -/
  rnr : List (Nat × Nat)
  /-- bytes of this queue in the ingress pool -/
  ingress : Nat
  /-- compatible mode: a sequence NAK is outstanding -/
  nakSent : Bool
  /-- packets parked in the eddy: footprint in units of 256 B, arrival in ns, PSN of its message's first packet, port -/
  parked : List (Nat × Nat × Nat × Nat)
  fetching : Bool
  /-- the last time something of the queue was under way (R102) -/
  lastUse : Nat
  deriving DecidableEq, Repr

/-- A rate context (R100): the destination address, rate and target in Gb/s, beta, the calm count, the time of the last cut in
µs, the port rate, and the other destinations that share it. -/
structure RateCtx where
  dest : Nat
  rate : Rat
  target : Rat
  beta : Rat
  calm : Nat
  lastCut : Option Nat
  line : Nat
  shared : List Nat
  deriving DecidableEq, Repr

/-- What the transport holds beside its queues: the packets it has discarded and counted (R79, R80, R82, R85); compatible-mode packets that
wait for a paused port (R95); the flows echoed, by source address and source queue, with the time of the last echo in ns (R99); and
the request-channel credits in units of 64 B that each lead has issued to this device, and that it has issued as a lead (R98). -/
structure Tp where
  discards : Nat
  paused : List (Nat × Msg)
  echoes : List ((Nat × Nat) × Nat)
  lent : SMap Nat
  issued : SMap Nat
  deriving DecidableEq, Repr
/-- Nothing discarded, waiting, echoed or issued. -/
def Tp.reset : Tp := ⟨0, [], [], [], []⟩

/-- An armed fiddlehead (R137, R138): its descriptor and the SUCCESS completions since arming. -/
structure Fiddle where
  q : Nat
  desc : List U64
  count : Nat
  deriving DecidableEq, Repr

/-- A handle register (R150, R152 to R155). -/
inductive Handle where
  | invalid
  /-- bytes `off` to `off + len − 1` of a region, under a mapping (none in control mode), with rights -/
  | region (dom : Option (Nat × Nat)) (region off len : Nat) (rd wr at_ : Bool)
  | buffer (handle : Nat) (rd wr : Bool)
  | queue (q : Nat) (post : Bool)
  /-- the STREAM region, under a mapping (none in control mode) -/
  | stream (dom : Option (Nat × Nat)) (region : Nat) (rd : Bool)
  deriving DecidableEq, Repr

/-- An open transaction group (R163, R164): its granule (region, region granule), the bytes staged by their offset in the
granule, and for each line of the read set the count of writes to it when it was first loaded. -/
structure Tx where
  gran : Option (Nat × Nat)
  staged : SMap Byte
  reads : SMap Nat
  deriving DecidableEq, Repr

/-- What started a program (R151, R138, R215). -/
inductive Start where
  | invoke (q tag : Nat)
  | fiddle (q k tag : Nat)
  /-- forwarded from the home device `src` as part `id` -/
  | remote (src id : Nat)
  | control (token : Nat)
  deriving DecidableEq, Repr

/-- How a program ended (R177): CODE, DETAIL, RESULT. -/
structure End where
  code : Nat
  detail : Nat
  result : U64
  deriving DecidableEq, Repr

/-- A thread that runs a program (R150): its registers, pc, status, loop stack, and what the device keeps for it. -/
structure Thread where
  g : Vector U64 32
  v : Vector (BitVec 512) 8
  h : Vector Handle 8
  pc : Nat
  ctl : Bool
  unmir : Bool
  dom : Nat
  charged : Nat
  /-- loop stack, innermost first: count, start, end -/
  loops : List (Nat × Nat × Nat)
  tx : Option Tx
  /-- the image it runs, its handle declarations, its slot (0xFFFF for an image), and whether the slot was replaced -/
  img : List U64
  decls : List U64
  slot : Nat
  old : Bool
  budget : Nat
  start : Start
  began : Nat
  timeoutUs : Nat
  timedOut : Bool
  /-- the weir count a WWAIT waits for, the result that a wait outside the parts has brought, a line whose heal it waits for -/
  wait : Option Nat
  ready : Option U64
  healWait : Option (Nat × Bool)
  /-- the release that it waits for (R205, R279): stream, segment -/
  relWait : Option (Nat × Nat)
  /-- PSNs of the packets it has posted on the invoking queue (R200) -/
  posted : List Nat
  ended : Option End
  deriving DecidableEq, Repr

/-- An invocation that waits for a thread of its cluster (R148). -/
structure Inv where
  start : Start
  cluster : Nat
  slot : Nat
  dom : Nat
  g1 : U64
  g2 : U64
  h0 : Handle
  len : Nat
  since : Nat
  deriving DecidableEq, Repr

/-- The engines (R146 to R148, R155): the running threads by number, the invocation queues, the invocations that wait in the ingress buffer
because their cluster's queue is full, the events posted by EVT in this reach by slot (R210), the index and the words of the control
descriptor that runs (R214), and the words of program memory with an uncorrectable error, by slot and instruction (R211). -/
structure Eng where
  threads : SMap Thread
  waiting : List Inv
  ingress : List Inv
  evtCount : SMap Nat
  desc : Nat × List U64
  badWords : List (Nat × Nat)
  deriving DecidableEq, Repr

/-- One staged word of a stage group: its control address key, the device it is for (none: stack-wide) and the new value of
its staged fields. -/
structure Staged where
  key : Nat
  dev : Option Nat
  v : U64
  deriving DecidableEq, Repr

/-- A closed stage group (R221, R222): GROUP_SEQ, the words of it that this device holds, whether this device closed it, and, at
the master, how many words each touched device has to apply. -/
structure Group where
  seq : Nat
  words : List (Nat × U64)
  mine : Bool
  counts : List (Nat × Nat)
  deriving DecidableEq, Repr

/-- What a weir outcome was (R225, R227): the weir, GO or NOGO, the last group of the list, the withdrawn groups. -/
structure Outcome where
  weir : Nat
  went : Bool
  last : Nat
  withdrawn : List Nat
  deriving DecidableEq, Repr

/-- Staging and the weir (R220 to R228): the open group of the control program, the group whose CFGC waits, the closed groups in
GROUP_SEQ order; the commit in progress at a participant: the PREP it has answered (weir, LAST) and the outcome it has heard, and
whether it is in doubt; at the master the next GROUP_SEQ, the round (weir, LAST), the participants asked, those that answered with
the groups they fail, and the misses in a row; the highest GROUP_SEQ known, the last 16 outcomes, and whether stack-wide words
are being copied (R232, R402: no part is admitted), and whether a control reset of the stack falls due at the next weir (R232). -/
structure Stage where
  opened : Option (List Staged)
  closing : Option (List Staged)
  groups : List Group
  nextSeq : Nat
  maxSeq : Nat
  prep : Option (Nat × Nat)
  outcome : Option Outcome
  doubt : Bool
  round : Option (Nat × Nat)
  asked : List Nat
  acked : List (Nat × List Nat)
  misses : SMap Nat
  history : List Outcome
  copying : Bool
  stackReset : Bool
  /-- the words of the group whose CFGC waits, as they went to the master (R221) -/
  closeWords : List (Nat × U64)
  /-- the program slots whose old program another device still runs, as the last weir found (R173) -/
  oldElsewhere : List Nat
  deriving DecidableEq, Repr

/-- A granule record (R331): its region, its generation, its bytes that are not 0, its poisoned lines; its KIND (1 home, 2 save),
IMAGE_SEQ, ORDINAL and IV counter, and the generation of the flash key it is encrypted under (R423). -/
structure Rec where
  region : Nat
  gen : Nat
  data : SMap Byte
  poison : List Nat
  kind : Nat
  seq : Nat
  ordinal : Nat
  iv : Nat
  keyGen : Nat
  deriving DecidableEq, Repr

/-- A commit record (R342): its trigger, the device, IMAGE_SEQ, the granule and metadata counts, the split epoch, the stack time and the
calendar time of the trigger, its IV counter, and the digest that is its message. -/
structure CommitRec where
  trigger : Nat
  device : Nat
  seq : Nat
  granules : Nat
  metaBytes : Nat
  epoch : Nat
  time : Nat
  cal : Nat
  iv : Nat
  digest : List Byte
  deriving DecidableEq, Repr

/-- A save image (R340 to R343): its number, its class (1 COMMITTED, 2 INCOMPLETE, 3 UNUSABLE), its trigger, its granule
records, and the metadata: the words of the region table and the STREAM configuration, the dirty and changed-granule maps, the
split epoch and the grant record, the words of TWIN_CTL and of the SAVE configuration, the log table, the generation of the flash key
that all of it is written under (R423), and the commit record. -/
structure Image where
  seq : Nat
  kind : Nat
  trigger : Nat
  recs : SMap Rec
  table : SMap U64
  dirty : List Nat
  changed : List Nat
  epoch : Nat
  granted : Bool
  grant : Option (Nat × Nat)
  cfg : SMap U64
  logs : SMap LogSt
  keyGen : Nat
  commit : Option CommitRec
  deriving DecidableEq, Repr

/-- A save that runs (R339 to R344): its trigger, what SAVE_NOW asked (0 nothing, 1 power-down, 2 resume), when it began (ns)
and the calendar time then (µs), the strongest reset asked since (0 none, 1 control, 2 warm, 3 cold), whether every record is programmed, and whether its commit
record is. -/
structure SaveRun where
  trigger : Nat
  mode : Nat
  began : Nat
  cal : Nat
  reset : Nat
  recorded : Bool
  committed : Bool
  deriving DecidableEq, Repr

/-- The flash tier (R322 to R350): the homes by granule, the generation of each dirty granule when write-behind took it, the
newest image, the save that runs, granules cleaned and GiB adopted and not relocated, failures by die and the blocks retired,
the blocks that the flash scrub has read and moved in this pass, SAVE_RATE in bytes/s, the IV counter, when a new budget takes
effect and the own budget computed for it, whether PFAIL_N is low, whether a restore has still to install the image's region table at a weir, the granules of
the images restored (R71), and the IMAGE_SEQ of the last image written. -/
structure Flash where
  homes : SMap Rec
  inFlight : SMap Nat
  image : Option Image
  run : Option SaveRun
  cleaned : Nat
  adopted : Nat
  dieFails : SMap Nat
  badBlocks : List (Nat × Nat)
  scrubRead : Nat
  scrubMoved : Nat
  rate : Nat
  iv : Nat
  budgetAt : Option (Nat × Nat)
  pfailLow : Bool
  install : Bool
  restored : List Nat
  lastSeq : Nat
  /-- granules to be recleaned after a die was retired, and the units of 64 KiB that ranks 4 and 5 had of each channel while both had
  work (R326) -/
  reclean : List Nat
  shares : SMap (Nat × Nat)
  /-- home writes by granule (R331), tracked read-level offsets by block (R328), bits corrected by channel beyond those shown in units of
  2^20 (R353), program/erase cycles by block (R327), and GiB of the save area on retired dies (R329) -/
  homeWrites : SMap Nat
  levels : SMap Nat
  corrected : SMap Nat
  cycles : SMap Nat
  saveLost : Nat
  deriving DecidableEq, Repr

/-- A slot of a stream's window (R278): its position, whether its segment's header is resident, its resident tiles, whether it is
READY, the tiles poisoned in it beyond the poison list (R292), and the tiles in recovery (R291): tile, since when (ns), and the
device lines still to come. -/
structure Slot where
  pos : Nat
  hdr : Bool
  tiles : List Nat
  ready : Bool
  bad : List Nat
  recov : List (Nat × Nat × List Nat)
  deriving DecidableEq, Repr

/-- A stream beside its STREAM record (R271 to R296): the per-pair images of its loaded segments, the load that runs (image
number, region granule where it begins), the window: FIRST, the pass and its start (ns), the release counts by position, the
next schedule entry, the slots; the last releases counted, and those taken over with the controller's part (R279); the positions
below N that have not been READY since OPEN; the HEAL_REQs of the twin that wait for a tile; and whether the window is being
fetched anew after a return (R296). -/
structure Stream where
  loaded : SMap (List Byte)
  load : Option (Nat × Nat)
  first : Nat
  pass : Nat
  passStart : Nat
  counts : SMap Nat
  sched : Nat
  slots : SMap Slot
  recent : List (Nat × Nat × Nat)
  inherited : List (Nat × Nat × Nat)
  filling : List Nat
  asked : List Nat
  catchUp : Bool
  deriving DecidableEq, Repr
/-- A request at a channel controller (R308): its client port (7: the device's own write-back of a corrected line), its number,
its line, subchannel, rank and row, whether it writes and what, its age in ns, and whether it has been counted late. -/
structure DReq where
  port : Nat
  id : Nat
  line : Nat
  sub : Nat
  rank : Nat
  row : Nat
  isWrite : Bool
  data : List Byte
  age : Nat
  late : Bool
  deriving DecidableEq, Repr

/-- A DRAM channel beside its CH words (R302 to R317): the requests that wait, oldest first; the reads issued whose data are due,
each with whether a write to its line has entered the queue since (R303); the write batch that runs on a subchannel (0 none, 1
begun at 48 entries, 2 otherwise); the open row of a rank; the ranks in power-down; the subchannels whose next slot a throttled
channel leaves empty; the corrections by location; the modules' temperatures (none: the sensor failed); whether mode register 4
reported hot and the normal reports since; whether the throttle is on by temperature; the calibration that waits for the next
refresh, the one of this refresh (0 none, 1 due, 2 under way), the ZQ latch that waits for the next refresh and the one of this
refresh; the last data delivered; the lines scrubbed in this pass. -/
structure Chan where
  reqs : List DReq
  issued : List (DReq × Bool)
  batch : SMap Nat
  rows : SMap Nat
  asleep : List Nat
  skip : List Nat
  hits : SMap Nat
  temps : SMap (Option Nat)
  mr4Hot : Bool
  normals : Nat
  tooHot : Bool
  calDue : Bool
  calRun : Nat
  zqDue : Bool
  zqRun : Bool
  last : Option (Nat × List Byte)
  scrubbed : Nat
  /-- the device positions that have reached ERASE_THRESH (R304) -/
  reached : List Nat
  deriving DecidableEq, Repr

/-- A discharge test that runs (R376): 0 asserted, 1 the ESR is measured, 2 v1 is taken; v0, v1 in mV; the ESR in 0.1 mΩ. -/
structure BankTest where
  stage : Nat
  v0 : Nat
  v1 : Nat
  esr : Nat
  deriving DecidableEq, Repr

/-- The moss domain's supply side (R357 to R381) beside the SUPPLY and CLOCKS words: the table in use; the guard of the state, the
turn (0 not begun, 1 its gap runs, 2 its rails are enabled, 3 ended), the chain inputs and output, whether a missing
SEQ_CHAIN_RET has been waited for, and when state 1 was entered; the power-down: its state, what it is for (0 a halt, 1 a warm
reset, 2 a critical stop, 3 an exclusion, 4 a cold reset) and the rails not yet off; the discharge test, whether one is due, when
the last was accepted and when the last ended, in stack time; the engines and the domains that are gated. -/
structure Supply where
  table : List Byte
  guard : Bool
  turn : Nat
  chainIn : Bool
  chainRet : Bool
  chainOut : Bool
  retGiven : Bool
  seqStart : Nat
  down : Nat
  downFor : Nat
  offDue : List Nat
  test : Option BankTest
  testDue : Bool
  lastTest : Option Int
  endTest : Option Int
  gatedEngines : List Nat
  gated : List Nat
  deriving DecidableEq, Repr

/-- The stack as this device sees it (R388 to R404) beside the STACK words: a claim that runs (those that acknowledged it, those
that refused), the stack time of each member's last BEAT_ACK, whether STEP_DOWN was heard and TIME ever since the reset, the
stack time of the last TIME frame, whether the count was stepped and is not yet within 20 ns, the slew still to make in ns and the
time since its last ns, the joiners whose copy is complete, the link map, the frames held for want of a route (TYPE, VC, SRC,
DST, HOPS with the buffer class, SEQ), the next SEQ due from each source on each channel, and those that came ahead of it; the frames
that stood in the replay buffer of a link that went down, and the frames discarded. -/
structure Stk where
  claim : Option (List Nat × List Nat)
  beats : SMap Nat
  stepped : Bool
  heardTime : Bool
  lastTime : Nat
  unsync : Bool
  slew : Int
  slewTick : Nat
  joiners : List Nat
  links : Option (List (Nat × Nat))
  heldFrames : List (Nat × Nat × Nat × Nat × Hop × Nat)
  nextIn : SMap Nat
  ahead : List (Nat × Nat)
  again : List (Nat × Nat × Nat × Nat × Hop × Nat)
  discarded : Nat
  deriving DecidableEq, Repr

/-- The security core (R409 to R423) beside the SECURITY words: the owner key, the digest of the running firmware copy,
the reports since the last cold reset, whether a report is being built, and the report. -/
structure Sec where
  ownerKey : List Byte
  fwDigest : U64
  reports : Nat
  attest : Bool
  report : List Byte
  deriving DecidableEq, Repr

/-- A recorder frame (R439): its header, the program histograms' index (slot, n) in index order, the extremes (MAX, MIN) by entry,
and the bins: device histogram bins by 64 × number + bin, program histogram bins by 64 × index + bin. -/
structure Frame where
  seq : Nat
  kind : Nat
  cleared : Bool
  gap : Bool
  partial_ : Bool
  calValid : Bool
  calStart : Nat
  powerStart : Nat
  seconds : Nat
  resets : Nat
  lostHours : Nat
  events : Nat
  eventsLost : Nat
  dropped : Nat
  index : List (Nat × Nat)
  extremes : SMap (Int × Int)
  dev : SMap Nat
  prog : SMap Nat
  deriving DecidableEq, Repr

/-- The recorder, the RTC and the health history (R433 to R446) beside their words: the open frame, its last checkpoint, the ring,
the lifetime frames, the clear log; the frame in the window and whether one is being loaded; the RTC in 10⁻⁹ ns and whether it was
ever set, the slew still to make in the same unit, the RTC in µs at the last accepted trim; powered seconds since manufacture; the
equivalent hours at 80 °C and whether they have passed the last multiple; the samples of each health item: powered hours and
metric; the C0 and ESR0 of the bank and V0 of the last accepted test in mV; the lines corrected in each module's item since the last
hourly sample, and in the 24 hours before, latest first (R433). -/
structure Recorder where
  frame : Frame
  checkpoint : Option Frame
  ring : SMap Frame
  life : SMap Frame
  clears : List (List U64)
  loaded : Option Frame
  loading : Bool
  rtc : Nat
  rtcSet : Bool
  slew : Int
  lastTrim : Option Int
  powered : Nat
  eq80 : Rat
  samples : SMap (List (Nat × Nat))
  bank0 : Option (Nat × Nat)
  v0 : Nat
  lines : SMap Nat
  hours : SMap (List Nat)
  deriving DecidableEq, Repr

/-- Pins and side interfaces (R456, R467, R468): THERM_TRIP_N asserted, PERST_N high, the PCIe link up, the I3C target's address,
the boundary-scan preload, and whether EXTEST is the test access port's instruction. -/
structure Pins where
  thermTrip : Bool
  perst : Bool
  pcie : Bool
  i3c : Nat
  preload : List Bool
  extest : Bool
  deriving DecidableEq, Repr

/-- The device. -/
structure State where
  /-- the control words that differ from their After reset words, by control address bits [47:0] (R218); boot window: space 256 -/
  ctl : SMap U64
  /-- the control words written since the reset that left them undefined (R6) -/
  written : List Nat
  /-- what the device has sent, oldest first -/
  out : List Msg
  /-- MODEL: the free values drawn so far -/
  fv : Nat
  /-- stack time in ns (R395) -/
  time : Nat
  /-- straps (R457) -/
  strapX : Nat
  strapY : Nat
  reach : List ReachEv
  evq : EvQ
  dram : Dram
  caches : SMap Cache
  bufs : SMap Buf
  twin : Twin
  parts : SMap Part
  nextPart : Nat
  logs : SMap LogSt
  queues : SMap Queue
  /-- rate contexts (R100) -/
  rates : List RateCtx
  /-- ICMP echoes answered in the second that began at this stack time (R393) -/
  icmp : Nat × Nat
  tp : Tp
  /-- devices whose spate throttle is engaged, as they last told (R334) -/
  spates : List Nat
  fiddles : SMap Fiddle
  /-- fiddleheads that unfurled and have not been armed since (R200) -/
  spent : List Nat
  eng : Eng
  stage : Stage
  flash : Flash
  streams : SMap Stream
  /-- devices of the stack known to be out of service (R282), and the twin states that devices have told (R23, R96) -/
  absent : List Nat
  peers : SMap Nat
  /-- mappings removed whose accesses are still in flight, by domain (R29) -/
  drains : SMap (List Nat)
  chans : SMap Chan
  /-- the patrol pass (R307): lines read, and found uncorrectable -/
  scrub : Nat × Nat
  /-- lines of the reserved area lost in both copies (R307) -/
  tablesLost : List Nat
  supply : Supply
  stk : Stk
  sec : Sec
  recd : Recorder
  pins : Pins
  pending : List Instr
  deriving DecidableEq, Repr


/-- The credits of the four virtual channels as the link comes up: 16 of the control channel (R53), and of the others a quarter
each of the twin and cascade reorder pool of R253 in units of 64 B (DESIGN CHOICE). -/
def Twin.credits0 : List Nat := [16384, 16384, 16384, 16]
/-- No frame of a channel has failed its CRC. -/
def Twin.retries0 : List (Nat × Nat) := [(0, 0), (0, 0), (0, 0), (0, 0)]

/-- A frame just opened (R438). -/
def Frame.empty : Frame := ⟨0, 0, false, false, false, false, 0, 0, 0, 0, 0, 0, 0, 0, [], [], [], []⟩

/-- The supply side right after a cold reset (R230, R362): the table is not read, SEQ_SYNC is held low, a discharge test is due. -/
def Supply.reset : Supply := ⟨[], false, 0, false, false, false, false, 0, 0, 0, [], none, true, none, none, [], []⟩
/-- Nothing staged, no group closed (R230); GROUP_SEQ counts from 1. -/
def Stage.reset : Stage := ⟨none, none, [], 1, 0, none, none, false, none, [], [], [], [], false, false, [], []⟩
/-- Not joined (R402). -/
def Stk.reset : Stk := ⟨none, [], false, false, 0, false, 0, 0, [], none, [], [], [], [], 0⟩

/-- The machine right after a cold reset (R6, R230): every control word at its After reset value, nothing listed in memory,
every table empty; the straps and the stored values as the assumption log names them. -/
def State.reset : State where
  ctl := []
  written := []
  out := []
  fv := 0
  time := 0
  strapX := 0
  strapY := 0
  reach := []
  evq := ⟨0, false, [], none⟩
  dram := ⟨[], [], [], [], [], 0, [], [], 0⟩
  caches := []
  bufs := []
  twin := ⟨none, [], [0, 0, 0, 0], [none, none, none, none], [], [], false, 0, false, false, false, false, false, false, [], 0, 0, false, none, none,
    [], [], [], [], [], [], Twin.credits0, Twin.retries0, 0, [], none, false, false, false, true, [], [0, 0, 0, 0], none⟩
  parts := []
  nextPart := 0
  logs := []
  queues := []
  rates := []
  icmp := (0, 0)
  tp := .reset
  spates := []
  fiddles := []
  spent := []
  eng := ⟨[], [], [], [], (0, []), []⟩
  stage := .reset
  flash := ⟨[], [], none, none, 0, 0, [], [], 0, 0, 0, 0, none, false, false, [], 0, [], [], [], [], [], [], 0⟩
  streams := []
  absent := []
  peers := []
  drains := []
  chans := []
  scrub := (0, 0)
  tablesLost := []
  supply := .reset
  stk := .reset
  sec := ⟨[], 0, 0, false, []⟩
  recd := ⟨.empty, none, [], [], [], none, false, 0, false, 0, none, 0, 0, [], none, 0, [], []⟩
  pins := ⟨false, false, false, 0x5A, [], false⟩
  pending := []

end Sys2Proof.Machine
end

