-- ==== Sys2Proof/Machine/Samples.lean ====
section
/-! DEFINITION. What the recorder takes as it happens (R210, R440 to R442): samples of the device and program histograms, and the
extremes. -/

namespace Sys2Proof.Machine

/-- The bin of a value (R210). -/
def binOf (v : Nat) : Nat := if v = 0 then 0 else Nat.min 63 (Nat.log2 v + 1)

namespace State

def onFrame (s : State) (f : Frame → Frame) : State := { s with recd := { s.recd with frame := f s.recd.frame } }

/-- Count a sample in a bin of a device histogram; a bin saturates (R440). -/
def histBin (s : State) (n bin : Nat) : State :=
  s.onFrame fun x => { x with dev := x.dev.set 0 (64 * n + bin) (satAdd 32 (x.dev.get 0 (64 * n + bin)) 1) }
/-- A sample of a device histogram, by the rule of R210. -/
def histAdd (s : State) (n v : Nat) : State := s.histBin n (binOf v)

/-- A sample of an extreme (R441). -/
def extreme (s : State) (i : Nat) (v : Int) : State :=
  s.onFrame fun x => { x with extremes := x.extremes.put i (match x.extremes.at? i with
    | some (a, b) => (max a v, min b v)
    | none => (v, v)) }

/-- A sample of a program histogram (R442): the first 32 pairs of slot and number in a frame are held. -/
def progSample (s : State) (slot n v : Nat) : State :=
  s.onFrame fun x =>
    let known := x.index.findIdx? fun e => e == (slot, n)
    match known, decide (x.index.length < 32) with
    | some i, _ => { x with prog := x.prog.set 0 (64 * i + binOf v) (satAdd 32 (x.prog.get 0 (64 * i + binOf v)) 1) }
    | none, true => { x with index := x.index ++ [(slot, n)]
                             prog := x.prog.set 0 (64 * x.index.length + binOf v) 1 }
    | none, false => { x with dropped := x.dropped + 1 }

end State

end Sys2Proof.Machine
end

