-- ==== Sys2Proof/Machine/Words.lean ====
section
/-! DEFINITION. Reading and writing control words and their fields, the After reset words, the device's index, what it sends,
free values, and the event queue (R6, R10, R212 to R219, R471). -/

namespace Sys2Proof.Machine

/-- The key of a control word: bits [47:0] of its control address (R218), 24 of them for the record and 16 for the word. -/
def wkey (sp r w : Nat) : Nat := sp * 2 ^ 40 + r % 2 ^ 24 * 2 ^ 16 + w % 2 ^ 16

def keySpace (k : Nat) : Nat := k / 2 ^ 40
def keyRec (k : Nat) : Nat := k / 2 ^ 16 % 2 ^ 24
def keyWord (k : Nat) : Nat := k % 2 ^ 16

/-- The reference layout of the pools (R253): SIZE_LOG2, COUNT, BASE_KIB. -/
def poolLayout : Nat → Nat × Nat × Nat
  | 0 => (8, 196608, 0)
  | 1 => (16, 256, 49152)
  | 2 => (8, 16384, 65536)
  | 3 => (8, 16384, 69632)
  | 4 => (16, 512, 73728)
  | 5 => (16, 128, 106496)
  | 6 => (8, 8192, 114688)
  | 7 => (10, 4096, 116736)
  | 8 => (12, 1024, 120832)
  | 9 => (16, 96, 124928)
  | _ => (0, 0, 0)

/-- The After reset values of words 0 and 1 of a pool record (R265). -/
def poolReset (p w : Nat) : Nat :=
  let (size, count, base) := poolLayout p
  if w = 0 then b2n (decide (p ≤ 9)) <<< 63 ||| b2n (decide (6 ≤ p ∧ p ≤ 9)) <<< 62 ||| size <<< 56 ||| count <<< 32 ||| base
  else b2n (decide (p ≤ 9)) <<< 62 ||| count

/-- The default targets of the DRAM client ports in ns (R308). -/
def portTarget : Nat → Nat
  | 0 => 600
  | 1 => 800
  | 2 => 800
  | 3 => 50000
  | 4 => 20000
  | 5 => 800
  | 6 => 2000
  | _ => 0

/-- The kind of a health item (R433). -/
def healthKind (i : Nat) : Nat :=
  if i ≤ 4 then i else if i ≤ 16 then 5 else 6

/-- The After reset word of a control address (R6). -/
def resetWord (k : Nat) : U64 :=
  let sp := keySpace k
  let r := keyRec k
  let w := keyWord k
  if sp = 10 then (if r < 16 ∧ w < 2 then BitVec.ofNat 64 (poolReset r w) else 0)
  else if sp = 5 then
    (if w = 1 then BitVec.ofNat 64 (r <<< 48) else if w = 2 then BitVec.ofNat 64 (r <<< 16) else 0)
  else if sp = 12 ∧ r = 16 ∧ 4 ≤ w ∧ w ≤ 7 then
    BitVec.ofNat 64 (portTarget (2 * (w - 4)) <<< 32 ||| portTarget (2 * (w - 4) + 1))
  else if sp = 21 ∧ r < 49 ∧ w = 0 then BitVec.ofNat 64 (healthKind r <<< 56)
  else match resetWords.find? fun x =>
      x.sp = sp ∧ x.rl ≤ r ∧ r ≤ x.rh ∧ x.wl ≤ w ∧ w ≤ x.wh ∧ (w - x.wl) % x.stride = 0 with
    | some x => BitVec.ofNat 64 x.v
    | none => 0

namespace State

/-- The value a control word holds. -/
def word (s : State) (k : Nat) : U64 := s.ctl.get (resetWord k) k

/-- Give a control word a value. -/
def setWord (s : State) (k : Nat) (v : U64) : State := { s with ctl := s.ctl.set (resetWord k) k v }


end State

/-- The key of the word of a field, `r` records and `w` words after the first of its map. -/
def Fld.key (f : Fld) (r w : Nat) : Nat := wkey f.sp (f.rcd + r) (f.word + w)

/-- `a` is not after `b` in 32-bit sequence numbers. -/
def seqLe (a b : Nat) : Bool := decide ((b + 2 ^ 32 - a % 2 ^ 32) % 2 ^ 32 < 2 ^ 31)

/-- The 64 B units of a frame (R53): the header one, each payload line one; PAIR_HELLO, SAVE_NOTICE and RESYNC_DONE carry 64 B. -/
def frameUnits (type n : Nat) : Nat := 1 + if type = 6 ∨ type = 7 ∨ type = 0x0C then 1 else ceilDiv n 64

/-- The number before a SEQ. -/
def seqBefore (q : Nat) : Nat := (q + 2 ^ 32 - 1) % 2 ^ 32

/-- What the replay buffer keeps of a channel with `out` units not yet freed at the twin: the newest frames that make them up. -/
def trimReplay (vc out : Nat) (l : List (Nat × Nat × Nat × Msg)) : List (Nat × Nat × Nat × Msg) :=
  (l.foldr (fun e (acc : List (Nat × Nat × Nat × Msg) × Nat) =>
    if e.1 ≠ vc then (e :: acc.1, acc.2) else if acc.2 < out then (e :: acc.1, acc.2 + e.2.2.1) else acc) ([], 0)).1

namespace State

/-- A field's value. -/
def f (s : State) (x : Fld) (r : Nat := 0) (w : Nat := 0) : Nat := bits (s.word (x.key r w)).toNat x.hi x.lo

/-- Give a field a value (its low bits). -/
def setF (s : State) (x : Fld) (v : Nat) (r : Nat := 0) (w : Nat := 0) : State :=
  s.setWord (x.key r w) (BitVec.ofNat 64 (setBits (s.word (x.key r w)).toNat x.hi x.lo v))

/-- Add to a counter field, which saturates. -/
def bump (s : State) (x : Fld) (r : Nat := 0) (n : Nat := 1) (w : Nat := 0) : State :=
  s.setF x (satAdd (x.hi + 1 - x.lo) (s.f x r w) n) r w

/-- Whether a field is not 0. -/
def flag (s : State) (x : Fld) (r : Nat := 0) (w : Nat := 0) : Bool := s.f x r w != 0

/-- Set or clear one bit of a field. -/
def setBitF (s : State) (x : Fld) (r i : Nat) (b : Bool) : State :=
  s.setF x (if b then s.f x r ||| 2 ^ i else s.f x r &&& (s.f x r ^^^ 2 ^ i)) r

/-- The device index 8y + x, its pair and its side (R10). -/
def index (s : State) : Nat := 8 * s.strapY + s.strapX
def pair (s : State) : Nat := s.index / 2
def side (s : State) : Nat := s.index % 2

/-- Send something. -/
def emit (s : State) (m : Msg) : State := { s with out := s.out ++ [m] }

/-- The virtual channel of a twin frame type (R51). -/
def frameVc (type : Nat) : Nat :=
  if type = 1 ∨ type = 8 then 0 else if type = 2 ∨ type = 9 then 1 else if type = 3 ∨ type = 4 ∨ type = 10 then 2 else 3

/-- The MIRRORs received that are not on the medium, or not applied. -/
def mirrorsOpen (s : State) : List Nat :=
  (s.dram.unsettled.filterMap fun x => match x.who with
    | .mirror q => some q
    | _ => none) ++ s.twin.unitIn.map Prod.fst

/-- ACK_SEQ of a frame (R51, R55): the last frame of the mirror channel received in order; in a MIRROR_ACK no MIRROR after it is
open. -/
def ackSeqOf (s : State) (type : Nat) : Nat :=
  let last := seqBefore ((s.twin.seqIn.getD 2 none).getD 0)
  if type = 4 then s.mirrorsOpen.foldl (fun a q => if seqLe q a then seqBefore q else a) last else last

/-- Transmit a frame: its SEQ, the credits that it returns and ACK_SEQ follow its TYPE; it stays in the replay buffer (R51 to R53). -/
def linkTransmit (s : State) (vc n : Nat) (m : Msg) : State :=
  let q := s.twin.seqOut.getD vc 0
  let cv := ((List.range 4).find? fun v => s.twin.owed.getD v 0 != 0).getD 0
  let cc := Nat.min 4095 (s.twin.owed.getD cv 0)
  let type := m.args.headD 0
  let frame : Msg := { m with args := type :: q :: cv :: cc :: s.ackSeqOf type :: m.args.drop 1 }
  let x : Twin := { s.twin with
    seqOut := s.twin.seqOut.set vc ((q + 1) % 2 ^ 32)
    credits := s.twin.credits.set vc (s.twin.credits.getD vc 0 - n)
    owed := s.twin.owed.set cv (s.twin.owed.getD cv 0 - cc)
    replay := s.twin.replay ++ [(vc, q, n, frame)] }
  { s with twin := x }.emit frame

/-- The SEQ that the next frame of a virtual channel will have. -/
def nextSeq (s : State) (vc : Nat) : Nat :=
  (s.twin.seqOut.getD vc 0 + (s.twin.held.filter fun h => h.1 == vc).length) % 2 ^ 32

/-- Send a frame of a type on its virtual channel while it holds the credits for it (R53). A frame without credit waits, and those
behind it; a link that is down carries nothing, and drops what goes on the control channel. -/
def linkSend (s : State) (type : Nat) (m : Msg) : State :=
  let vc := frameVc type
  let n := frameUnits type m.data.length
  let m : Msg := { m with args := type :: m.args }
  if s.twin.linkDown && vc == 3 then s
  else if s.twin.linkDown || (s.twin.held.any fun h => h.1 == vc) || decide (s.twin.credits.getD vc 0 < n) then
    { s with twin := { s.twin with held := s.twin.held ++ [(vc, n, m)] } }
  else s.linkTransmit vc n m

/-- The frames of a channel that wait go in their order while there is credit for them. -/
def linkFlow (s : State) (vc : Nat) : State :=
  let waiting := s.twin.held.filter fun h => h.1 == vc
  let s : State := { s with twin := { s.twin with held := s.twin.held.filter fun h => h.1 != vc } }
  waiting.foldl (fun (t : State) h =>
    if t.twin.linkDown || (t.twin.held.any fun k => k.1 == vc) || decide (t.twin.credits.getD vc 0 < h.2.1) then
      { t with twin := { t.twin with held := t.twin.held ++ [h] } }
    else t.linkTransmit vc h.2.1 h.2.2) s

/-- Credits come back on a virtual channel (R53): what waits for them goes. -/
def creditBack (s : State) (vc n : Nat) : State :=
  let c := s.twin.credits.getD vc 0 + n
  { s with twin := { s.twin with
      credits := s.twin.credits.set vc c
      replay := trimReplay vc (Twin.credits0.getD vc 0 - c) s.twin.replay } }.linkFlow vc

/-- Send a frame of the twin link (R51): TYPE and fields. -/
def sendTwin (s : State) (type : Nat) (args : List Nat) (data : List Byte := []) : State :=
  s.linkSend type ⟨.twin, s.index ^^^ 1, args, data⟩

/-! The torus and the members of the stack (R385, R386, R391, R392). -/

def isMember (s : State) (d : Nat) : Bool := bit (s.f F.STK_MEMBERS_MEMBERS) d
def members (s : State) : List Nat := bitsOf 64 (s.f F.STK_MEMBERS_MEMBERS)
def shapeW (s : State) : Nat := s.f F.STK_CTL_SHAPE_W
def shapeH (s : State) : Nat := s.f F.STK_CTL_SHAPE_H
/-- The neighbour of a position in a direction: +x, −x, +y, −y. -/
def neighbour (s : State) (d dir : Nat) : Option Nat :=
  let w := s.shapeW
  let h := s.shapeH
  let x := d % 8
  let y := d / 8
  if dir < 2 then (if w = 1 then none else some (8 * y + (if dir = 0 then x + 1 else x + w - 1) % w))
  else if h = 1 then none
  else some (8 * ((if dir = 2 then y + 1 else y + h - 1) % h) + x)
/-- The links that are up between members: the map, or every link of the torus before the first map. -/
def linkList (s : State) : List (Nat × Nat) :=
  match s.stk.links with
  | some l => l
  | none => s.members.flatMap fun d => ([0, 2] : List Nat).filterMap fun k => match s.neighbour d k with
    | some e => if s.isMember e then some (d, e) else none
    | none => none
def linked (s : State) (a b : Nat) : Bool := s.linkList.any fun l => l == (a, b) || l == (b, a)
/-- Breadth-first search: the devices within `n` hops of those known, with their distances. -/
def spread (links : List (Nat × Nat)) : Nat → List (Nat × Nat) → Nat → List (Nat × Nat)
  | 0, known, _ => known
  | n + 1, known, d =>
    let edge := known.filter fun e => e.2 == d
    let near := edge.flatMap fun e => links.filterMap fun l =>
      if l.1 = e.1 then some l.2 else if l.2 = e.1 then some l.1 else none
    let fresh := (near.filter fun x => !(known.any fun e => e.1 == x)).eraseDups
    if fresh.isEmpty then known else spread links n (known ++ fresh.map fun x => (x, d + 1)) (d + 1)
def distances (s : State) (dst : Nat) : List (Nat × Nat) := spread s.linkList 64 [(dst, 0)] 0

/-- The other members in ascending order of distance; last those that no link reaches. -/
def others (s : State) : List Nat :=
  let near := ((s.distances s.index).map Prod.fst).filter s.isMember
  (near ++ s.members.filter fun d => !near.contains d).filter (· != s.index)

/-- Send a cascade frame to a device: TYPE and fields (R388); to 255, one frame to each other member in ascending order of
distance (R392). -/
def sendCascade (s : State) (dst type : Nat) (args : List Nat) (data : List Byte := []) : State :=
  if dst = 255 then s.others.foldl (fun (t : State) d => t.emit ⟨.cascade, d, type :: args, data⟩) s
  else s.emit ⟨.cascade, dst, type :: args, data⟩

/-- What a read from outside returns. -/
def readback (s : State) (args : List Nat) : State := s.emit ⟨.readback, 0, args, []⟩

/-- Draw a free value. -/
def fresh (s : State) : U64 × State := (Config.freeValue s.fv, { s with fv := s.fv + 1 })

/-- MGW_IDENT (R212): the constant fields and the straps. -/
def ident (s : State) : U64 :=
  BitVec.ofNat 64 (0xD0E76412B0000000 ||| (s.index <<< 18) ||| (s.side <<< 17))

/-- DIGEST of the stack identity (R408, R470). -/
def digest (s : State) : Nat :=
  ofBytes (Config.shake256 ((List.range 6).flatMap fun w => toBytes 8 (s.word (wkey 18 0 w)).toNat) 8) % 2 ^ 64

/-- The count of stack time is set (R395): what is measured from an earlier moment moves with it. -/
def setTime (s : State) (n : Nat) : State :=
  let d : Int := (n : Int) - s.time
  { s with time := n, evq := { s.evq with lastMsix := none }
           supply := { s.supply with lastTest := s.supply.lastTest.map fun (t : Int) => t + d
                                     endTest := s.supply.endTest.map fun (t : Int) => t + d } }

/-! The event queue (R217). -/

/-- The two 32-bit slots of a data item wider than 32 bits. -/
def w64 (v : Nat) : List Nat := [v % 2 ^ 32, v / 2 ^ 32 % 2 ^ 32]

/-- The quadwords of an event entry: posting time in ns, code, 32-bit data slots, and the phase and number of the entry. -/
def eventEntry (s : State) (at_ code : Nat) (dat : List Nat) : List Nat :=
  let l := s.f F.MGW_CQ_BASE_LOG2 0 2
  [((at_ / 1000 % 2 ^ 32) <<< 32) ||| (s.index <<< 16) ||| code,
   dat.getD 0 0 ||| (dat.getD 1 0 <<< 32), dat.getD 2 0 ||| (dat.getD 3 0 <<< 32),
   (b2n (s.evq.seq / 2 ^ l % 2 == 0) <<< 63) ||| (s.evq.seq % 2 ^ 32)]

/-- Whether the event ring is in use, and whether it has room (R217). -/
def eqEnabled (s : State) : Bool := s.flag F.MGW_CQ_BASE_EN 0 2
def eqRoom (s : State) : Bool :=
  decide ((s.evq.seq + 2 ^ 32 - s.f F.MGW_EQ_HEAD_HEAD) % 2 ^ 32 < 2 ^ s.f F.MGW_CQ_BASE_LOG2 0 2)

/-- An event lost to a full ring. -/
def eventLost (s : State) : State :=
  ((s.bump F.MGW_STATUS_EQ_LOST).setF F.MGW_STATUS_EQ_OVERFLOW 1).onFrame fun x => { x with eventsLost := x.eventsLost + 1 }

/-- MSI-X vector 0, at most once per 10 µs. -/
def raiseMsix0 (s : State) : State :=
  match s.evq.lastMsix with
  | some t => if s.time < t + 10000 then s
    else { s with evq := { s.evq with lastMsix := some s.time } }.emit ⟨.msix, 0, [0], []⟩
  | none => { s with evq := { s.evq with lastMsix := some s.time } }.emit ⟨.msix, 0, [0], []⟩

/-- Write the next entry of the event ring, or lose the event. -/
def eventWrite (s : State) (at_ code : Nat) (dat : List Nat) : State :=
  if s.eqEnabled && s.eqRoom then
    let e := s.eventEntry at_ code dat
    let i := s.evq.seq % 2 ^ s.f F.MGW_CQ_BASE_LOG2 0 2
    ({ s with evq := { s.evq with seq := s.evq.seq + 1 } }.emit ⟨.event, 0, i :: e, []⟩ |>.raiseMsix0).onFrame fun x =>
      { x with events := x.events + 1 }
  else s.eventLost

/-- Whether the group 0x0gxx of an event is masked. -/
def eventMasked (s : State) (code : Nat) : Bool := (s.f F.DEV_EVMASK_MASK <<< 1).testBit (code / 256 % 16)

/-- Post an event (R217); a supply or clock event (group 0x0B) before the ring was first enabled is kept (R374). -/
def event (s : State) (code : Nat) (dat : List Nat) : State :=
  if s.eventMasked code then s
  else if !s.evq.everEn && decide (code / 256 = 0x0B) then
    if s.evq.kept.length < 64 then { s with evq := { s.evq with kept := s.evq.kept ++ [(s.time, code, dat)] } }
    else s.eventLost
  else s.eventWrite s.time code dat

/-- Count an occurrence of a per-reach event (R471). -/
def reachEvent (s : State) (code src : Nat) (dat : List Nat) (n : Nat := 1) : State :=
  let hit := s.reach.any fun e => e.code = code ∧ e.src = src
  { s with reach :=
      if hit then s.reach.map fun e => if e.code = code ∧ e.src = src then { e with count := e.count + n, dat := dat } else e
      else s.reach ++ [⟨code, src, n, dat⟩] }

/-- INT_N is asserted while HEAD differs from the next EQSEQ and INT_EN is 1 (R217). -/
def intN (s : State) : Bool :=
  s.flag F.DEV_MGMT_INT_EN && decide (s.f F.MGW_EQ_HEAD_HEAD ≠ s.evq.seq % 2 ^ 32)

end State

end Sys2Proof.Machine
end

