-- ==== Sys2Proof/Machine/Regions.lean ====
section
/-! DEFINITION. Regions: where a region's bytes lie and who leads them (R14 to R16, R23), the codes of the twin states (R57), and the
poison of lines (R41 to R43). -/

namespace Sys2Proof.Machine

/-- The codes of the twin states (R57). -/
def TS.unpaired : Nat := 0
def TS.pairing : Nat := 1
def TS.mirrored : Nat := 2
def TS.suspect : Nat := 3
def TS.holding : Nat := 4
def TS.solo : Nat := 5
def TS.fenced : Nat := 6
def TS.resyncSource : Nat := 7
def TS.resyncTarget : Nat := 8
def TS.soloProv : Nat := 9

/-- The region classes (R45). -/
def Cls.durable : Nat := 0
def Cls.log : Nat := 1
def Cls.volatile : Nat := 2
def Cls.stream : Nat := 3

/-- The lines of a rising list gathered into runs of consecutive lines: first line and count. -/
def runsOf : List Nat → List (Nat × Nat)
  | [] => []
  | l :: t => match runsOf t with
    | (l', n) :: r => if l' = l + 1 then (l, n + 1) :: r else (l, 1) :: (l', n) :: r
    | [] => [(l, 1)]

/-- The lines of a list without repeats, rising. -/
def lineUnion (ls : List Nat) : List Nat := (ls.foldl (fun (m : SMap Unit) l => m.put l ()) []).map Prod.fst

namespace State

/-- Send a notice of the cascade control channel (R389): kind and items; 255 broadcasts. -/
def notice (s : State) (dst kind : Nat) (items : List Nat) : State := s.sendCascade dst 0x18 (kind :: items)

def tstate (s : State) : Nat := s.f F.TWIN_STATUS_STATE
def epoch (s : State) : Nat := s.f F.TWIN_STATUS_SPLIT_EPOCH

/-- A device is present in the stack, and in service. -/
def present (s : State) (d : Nat) : Bool := decide (d = s.index) || bit (s.f F.STK_MEMBERS_MEMBERS) d
def inService (s : State) (d : Nat) : Bool := s.present d && !s.absent.contains d

/-! Regions (R14, R15). -/

def regionValid (s : State) (r : Nat) : Bool := s.flag F.REG_SHAPE_VALID r
def regionClass (s : State) (r : Nat) : Nat := s.f F.REG_SHAPE_CLASS r
def regionK (s : State) (r : Nat) : Nat := s.f F.REG_SHAPE_STRIPE_KM1 r + 1
def regionPair (s : State) (r j : Nat) : Nat :=
  bits (s.word (F.REG_PAIRS_PAIR0.key r (j / 8))).toNat (8 * (j % 8) + 4) (8 * (j % 8))
def regionPairs (s : State) (r : Nat) : List Nat := (List.range (s.regionK r)).map (s.regionPair r)
def regionBase (s : State) (r : Nat) : Nat := s.f F.REG_BASE_BASE_GRAN r
def regionLen (s : State) (r : Nat) : Nat := s.f F.REG_SHAPE_LEN_GRAN r
def isVolatile (s : State) (r : Nat) : Bool := s.regionClass r == Cls.volatile
def isDurable (s : State) (r : Nat) : Bool := decide (s.regionClass r ≤ Cls.log)

/-- The pair and the device offset of a region byte (R15, R23). -/
def place (s : State) (r off : Nat) : Nat × Nat :=
  let g := off / granBytes
  (s.regionPair r (g % s.regionK r), (s.regionBase r + g / s.regionK r) * granBytes + off % granBytes)

/-- The first line past the device granule that holds a line. -/
def granEnd (line : Nat) : Nat := (line / 1024 + 1) * 1024

/-- This device alone leads every granule of its pair (R16, R23). -/
def leadsAll (s : State) : Bool :=
  s.tstate == TS.soloProv || s.tstate == TS.solo || s.tstate == TS.resyncSource ||
    (s.tstate == TS.pairing && s.twin.fromSolo)

/-- The twin state that another device has told (R23); MIRRORED before it has told any. -/
def peerState (s : State) (d : Nat) : Nat := s.peers.get TS.mirrored d
/-- A device of another pair leads every granule of it: provisioned alone, a survivor, or the source of a resync (R23). -/
def leadsPair (s : State) (volatile : Bool) (d : Nat) : Bool :=
  s.inService d && (s.peerState d == TS.soloProv ||
    !volatile && (s.peerState d == TS.solo || s.peerState d == TS.resyncSource))

/-- The side that leads a granule of a pair, as this device sees it (R16, R23, R63, R64, R70). A volatile granule keeps its lead but
on a solo-provisioned device; of another pair with one member in service, that member decides. -/
def leadSide (s : State) (volatile : Bool) (p gran : Nat) : Nat :=
  if p = s.pair then
    if s.tstate = TS.soloProv ∨ (s.tstate = TS.pairing ∧ s.twin.fromSolo = true) then s.side
    else if volatile then gran % 2
    else if s.leadsAll then s.side
    else if s.tstate = TS.resyncTarget ∨ s.tstate = TS.fenced then 1 - s.side
    else gran % 2
  else if s.leadsPair volatile (2 * p) then 0
  else if s.leadsPair volatile (2 * p + 1) then 1
  else if s.inService (2 * p) && !s.inService (2 * p + 1) then 0
  else if s.inService (2 * p + 1) && !s.inService (2 * p) then 1
  else gran % 2

/-- The device that leads a region byte (R23). -/
def leadDev (s : State) (r off : Nat) : Nat :=
  let (p, d) := s.place r off
  2 * p + s.leadSide (s.isVolatile r) p (d / granBytes)

/-- The device that serves a read of a region byte (R16, R158): this one if it holds the line and may serve it, else the lead. -/
def readDev (s : State) (r off : Nat) : Nat :=
  let (p, _) := s.place r off
  if p = s.pair ∧ s.isVolatile r = false ∧ s.tstate ≠ TS.resyncTarget ∧ s.tstate ≠ TS.fenced then s.index
  else s.leadDev r off

/-- A line of this device is poisoned (R41, R42). -/
def isPoisoned (s : State) (line : Nat) : Bool := s.dram.poison.contains line

/-- Count a region's poisoned lines on this device after one more or one less (R45). -/
def poisonCount (s : State) (r : Nat) (more : Bool) : State :=
  let n := s.f F.REG_STATE_POISON_LINES r
  let n' := if more then satAdd 32 n 1 else n - 1
  (s.setF F.REG_STATE_POISON_LINES n' r).setF F.REG_STATE_POISON_PRESENT (b2n (decide (n' ≠ 0))) r

/-- The valid region that holds a device granule of this device's pair. -/
def regionOfGran (s : State) (gran : Nat) : Option Nat :=
  (s.ctl.filter fun e => keySpace e.1 == 6 && keyWord e.1 == 0).map (fun e => keyRec e.1) |>.find? fun r =>
    s.regionValid r && (s.regionPairs r).contains s.pair && decide (s.regionBase r ≤ gran ∧
      gran < s.regionBase r + s.regionLen r / s.regionK r)

/-- The channel of a line (R299, R301): of all 16, or of C0 to C7. -/
def chanOf (s : State) (line : Nat) : Nat :=
  Config.chanOf line % (if s.f F.DRM_CTL_CH_MASK = 0xFF then 8 else 16)

/-- Mark a line poisoned, or clear its poison (R41, R43, R305, R319). -/
def setPoison (s : State) (line : Nat) : State :=
  if s.isPoisoned line then s
  else
    let s := { s with dram := { s.dram with poison := line :: s.dram.poison } }.bump F.CH_POISON_POISON_WR (s.chanOf line)
    match s.regionOfGran (line / 1024) with
    | some r => s.poisonCount r true
    | none => s
def clearPoison (s : State) (line : Nat) : State :=
  if s.isPoisoned line then
    let s := { s with dram := { s.dram with poison := s.dram.poison.filter (· != line) } }.bump F.CH_POISON_POISON_CLR
      (s.chanOf line)
    match s.regionOfGran (line / 1024) with
    | some r => s.poisonCount r false
    | none => s
  else s

end State

end Sys2Proof.Machine
end

