-- ==== Sys2Proof/Machine/Cache.lean ====
section
/-! DEFINITION. The bytes of the device's DRAM, the line caches before them (R147, R238 to R251) and the allocator of the
buffer pools (R253 to R260), as operations over the state. -/

namespace Sys2Proof.Machine

/-- The completion codes (R136). -/
def Code.success : Nat := 0x00
def Code.partial_ : Nat := 0x01
def Code.aborted : Nat := 0x02
def Code.abortLate : Nat := 0x03
def Code.abortNoTarget : Nat := 0x04
def Code.access : Nat := 0x05
def Code.bounds : Nat := 0x06
def Code.revoked : Nat := 0x07
def Code.media : Nat := 0x08
def Code.poisoned : Nat := 0x09
def Code.tileLate : Nat := 0x0A
def Code.noBuffer : Nat := 0x0B
def Code.programFault : Nat := 0x0C
def Code.programBudget : Nat := 0x0D
def Code.frozen : Nat := 0x0E
def Code.twinLost : Nat := 0x0F
def Code.invalid : Nat := 0x10
def Code.length : Nat := 0x11
def Code.authFail : Nat := 0x12
def Code.unavailable : Nat := 0x13
def Code.shared : Nat := 0x14

/-- Read `n` bytes from a byte map whose unlisted bytes are 0. -/
def readMem (m : SMap Byte) (a : Nat) : Nat → List Byte
  | 0 => []
  | n + 1 => m.get 0 a :: readMem m (a + 1) n

/-- Write bytes to a byte map whose unlisted bytes are 0. -/
def writeMem (m : SMap Byte) (a : Nat) : List Byte → SMap Byte
  | [] => m
  | b :: t => writeMem (m.set 0 a b) (a + 1) t

/-- The line numbers that `n` bytes at `a` touch, and those of them they cover whole. -/
def linesOf (a n : Nat) : List Nat :=
  if n = 0 then [] else (List.range ((a + n - 1) / 64 + 1 - a / 64)).map (· + a / 64)
def wholeLines (a n : Nat) : List Nat := (linesOf a n).filter fun l => decide (a ≤ 64 * l ∧ 64 * l + 64 ≤ a + n)

/-- The cluster of a device line (R147). -/
def clusterOf (line : Nat) : Nat :=
  (List.range 13).foldl (fun c i => c ^^^ (line >>> (3 * i)) % 8) 0

namespace State

def readDram (s : State) (a n : Nat) : List Byte := readMem s.dram.mem a n
def setDram (s : State) (a : Nat) (bs : List Byte) : State :=
  { s with dram := { s.dram with mem := writeMem s.dram.mem a bs } }

/-! Line caches. -/

def cache (s : State) (c : Nat) : Cache := s.caches.get ⟨[], []⟩ c
def setCache (s : State) (c : Nat) (x : Cache) : State := { s with caches := s.caches.set ⟨[], []⟩ c x }
def cacheOn (s : State) (c : Nat) : Bool := s.flag F.CCH_STATUS_EN c

end State

/-- An entry that holds nothing and carries no lock. -/
def CEntry.empty : CEntry := ⟨none, false, none, false, false, false, [], false, [], false, false⟩

namespace Cache

def entry (x : Cache) (i : Nat) : CEntry := x.entries.get .empty i
def setEntry (x : Cache) (i : Nat) (e : CEntry) : Cache := { x with entries := x.entries.set .empty i e }
/-- Make an entry the most recently used. -/
def touch (x : Cache) (i : Nat) : Cache := { x with order := i :: x.order.filter (· != i) }
/-- The entry that is for a line, and the entry that hits for it. -/
def slotOf (x : Cache) (line : Nat) : Option Nat :=
  (List.range 48).find? fun i => (x.entry i).line == some line && !(x.entry i).isScratch
def hitOf (x : Cache) (line : Nat) : Option Nat :=
  (x.slotOf line).bind fun i => if (x.entry i).valid && !(x.entry i).tagBad then some i else none
def locked (x : Cache) : Nat := (x.entries.vals.filter (·.locked)).length
def scratches (x : Cache) : Nat := (x.entries.vals.filter fun e => e.locked && e.isScratch).length
def dirties (x : Cache) : Nat := (x.entries.vals.filter fun e => e.dirty.isSome).length
/-- The entry an allocation takes (R242): an invalid unlocked one, else the unlocked one least recently used. -/
def victim (x : Cache) : Option Nat :=
  match (List.range 48).find? fun i => !(x.entry i).valid && !(x.entry i).locked with
  | some i => some i
  | none => (x.order.reverse.find? fun i => !(x.entry i).locked)
/-- The entry a prefetch of a line may fill (R241): the pinned one that has lost its data, an invalid unlocked one, or the clean
unlocked one least recently used. -/
def prefetchSlot (x : Cache) (line : Nat) : Option Nat :=
  match x.slotOf line with
  | some i => some i
  | none => match (List.range 48).find? fun i => !(x.entry i).valid && !(x.entry i).locked with
    | some i => some i
    | none => x.order.reverse.find? fun i => !(x.entry i).locked && (x.entry i).dirty.isNone

end Cache

namespace State

/-- An enabled cache holds a line. -/
def cached (s : State) (line : Nat) : Bool := s.cacheOn (clusterOf line) && ((s.cache (clusterOf line)).hitOf line).isSome

/-- A dirty line is written to DRAM whole (R242): counted, and its poison there is gone. -/
def wroteBack (s : State) (c line : Nat) : State := (s.bump F.CCH_WB_WRITEBACKS c).clearPoison line

/-- Reuse an entry for a line, writing back the dirty line it held (R242). -/
def cacheFill (s : State) (c i line : Nat) (dirty : Option (List Byte)) (pf : Bool) : State :=
  let old := (s.cache c).entry i
  let s := match old.dirty, old.line with
    | some _, some l => s.wroteBack c l
    | _, _ => s
  s.setCache c (((s.cache c).setEntry i { CEntry.empty with line := some line, valid := true, dirty := dirty, prefetched := pf, locked := old.locked }).touch i)

/-- Allocate an entry for a line (R242, R245: a pinned entry of the line takes it back). -/
def cacheAlloc (s : State) (line : Nat) (dirty : Option (List Byte)) (pf : Bool := false) : State :=
  let c := clusterOf line
  match (s.cache c).slotOf line with
  | some i => s.cacheFill c i line dirty pf
  | none => match (s.cache c).victim with
    | some i => s.cacheFill c i line dirty pf
    | none => s

/-- A hit on entry `i` (R239, R264): counted; a prefetched line is now used. -/
def cacheHit (s : State) (c i : Nat) : State :=
  let x := s.cache c
  let e := x.entry i
  let s := s.bump F.CCH_HITS_HITS c
  let s := if e.prefetched then s.bump F.CCH_PREF_PREF_USED c else s
  s.setCache c ((x.setEntry i { e with prefetched := false }).touch i)

/-- Prefetch the line after a read or atomic miss (R241); `lim` is the first line past the granule or region. -/
def prefetch (s : State) (line lim : Nat) : State :=
  let c := clusterOf (line + 1)
  let x := s.cache c
  if decide (line + 1 < lim) && s.cacheOn c && s.flag F.CCH_CTL_PREFETCH_EN c && (x.hitOf (line + 1)).isNone &&
      !s.dram.poison.contains (line + 1) then
    match x.prefetchSlot (line + 1) with
    | some i => (s.cacheFill c i (line + 1) none true).bump F.CCH_PREF_PREFETCHES c
    | none => s
  else s

/-- A read of a line (R239): hit, or miss with a fill (none of a poisoned line, R240) and a prefetch. -/
def cacheRead (s : State) (line lim : Nat) : State :=
  let c := clusterOf line
  if !s.cacheOn c then s
  else match (s.cache c).hitOf line with
    | some i => s.cacheHit c i
    | none =>
      let s := s.bump F.CCH_HITS_MISSES c
      if s.dram.poison.contains line then s else (s.cacheAlloc line none).prefetch line lim

/-- A control program's load of a line of a STREAM region (R238): served by the cache only under a pinned lock. -/
def cacheReadPinned (s : State) (line : Nat) : State :=
  let x := s.cache (clusterOf line)
  match x.slotOf line with
  | some i => if (x.entry i).locked then s.cacheRead line 0 else s
  | none => s

/-- A write of a line (R239): a durable line's entry is updated and stays clean; a volatile line's entry becomes dirty,
remembering what DRAM held. `old` are the line's bytes before the write; an atomic (`atom`) fills on a miss and prefetches; a write of
the whole line (`whole`) leaves no word in error (R243). -/
def cacheWrite (s : State) (line lim : Nat) (volatile atom whole : Bool) (old : List Byte) : State :=
  let c := clusterOf line
  if !s.cacheOn c then s
  else match (s.cache c).hitOf line with
    | some i =>
      let s := s.cacheHit c i
      let e := (s.cache c).entry i
      s.setCache c ((s.cache c).setEntry i { e with
        dirty := if volatile then some (e.dirty.getD old) else e.dirty, ecc := if whole then [] else e.ecc })
    | none =>
      let s := s.bump F.CCH_HITS_MISSES c
      if volatile then
        let s := s.cacheAlloc line (some old)
        if atom then s.prefetch line lim else s
      else if atom then (s.cacheAlloc line none).prefetch line lim
      else s

/-- Write a dirty entry back: DRAM has the bytes; the entry is clean (R242). -/
def cacheClean (s : State) (c i : Nat) : State :=
  let x := s.cache c
  let e := x.entry i
  match e.dirty, e.line with
  | some _, some l => (s.setCache c (x.setEntry i { e with dirty := none })).wroteBack c l
  | _, _ => s

/-- Invalidate an entry, keeping its lock; dirty data are dropped, so the line reads as last written back (R202, R247). -/
def cacheDrop (s : State) (c i : Nat) : State :=
  let x := s.cache c
  let e := x.entry i
  let s := match e.dirty, e.line with
    | some old, some l => s.setDram (64 * l) old
    | _, _ => s
  if e.locked then s.setCache c (x.setEntry i { e with valid := false, dirty := none, prefetched := false, ecc := [], tagBad := false, dirBad := false })
  else s.setCache c { (x.setEntry i .empty) with order := x.order.filter (· != i) }

/-- The window slot of a span of lines is filled anew (R238): the entries that hold such a line are invalidated; a lock stays. -/
def cacheStale (s : State) (lo hi : Nat) : State :=
  (List.range 8).foldl (fun (s : State) c =>
    ((s.cache c).entries.filter fun e => match e.2.line with
      | some l => decide (lo ≤ l ∧ l < hi) && !e.2.isScratch
      | none => false).foldl (fun (t : State) e => t.cacheDrop c e.1) s) s

/-- Steps 1 to 4 of a disable (R203, R250): every dirty line written back, scratch contents and locks gone, EN and FULLINV
cleared. -/
def cacheDisable (s : State) (c : Nat) : State :=
  if !s.cacheOn c then
    let x := s.cache c
    ((s.setCache c { x with entries := (x.entries.filter fun e => !e.2.locked) }).setF F.CCH_STATUS_FULLINV 0 c).event 0x0505
      [c, 0]
  else
    let x := s.cache c
    let n := x.dirties
    let s := (x.entries.vals.filter fun e => e.dirty.isSome).foldl (fun (t : State) e => t.wroteBack c (e.line.getD 0)) s
    let keep := x.entries.filter fun e => !e.2.isScratch
    let s := s.setCache c ⟨keep.map fun e => (e.1, { e.2 with dirty := none, locked := false }), x.order⟩
    let s := (s.setF F.CCH_STATUS_EN 0 c).setF F.CCH_STATUS_FULLINV 0 c
    s.event 0x0505 [c, n]

/-- How many lines a disable of a cluster writes back (R250). -/
def disableCount (s : State) (c : Nat) : Nat := if s.cacheOn c then (s.cache c).dirties else 0

/-- Drop every cached line of a span of lines and release its locks (R248); the number of locks released per cluster goes
into event 0x0508 with the region. -/
def cacheForget (s : State) (region lo hi : Nat) : State :=
  (List.range 8).foldl (fun s c =>
    let x := s.cache c
    let mine := (x.entries.filter fun e => match e.2.line with
      | some l => decide (lo ≤ l ∧ l < hi) && !e.2.isScratch
      | none => false).map Prod.fst
    let n := (mine.filter fun i => (x.entry i).locked).length
    let x' : Cache := ⟨x.entries.filter fun e => !mine.contains e.1, x.order.filter fun i => !mine.contains i⟩
    let s := s.setCache c x'
    if n = 0 then s else s.event 0x0508 [c, region, n]) s

/-! Buffer pools. -/

def poolOf (h : Nat) : Nat := h / 2 ^ 20
def buf? (s : State) (h : Nat) : Option Buf := s.bufs.at? h

/-- The buffers of a pool that are being zeroed: neither free nor counted in ALLOCATED (R257). -/
def poolZeroing (s : State) (p : Nat) : Nat := (s.bufs.filter fun e => poolOf e.1 == p && e.2.st == .zeroing).length
def poolFree (s : State) (p : Nat) : Nat := s.f F.POOL_CTL_COUNT p - s.f F.POOL_STATUS_ALLOCATED p - s.poolZeroing p
/-- The size of a pool's buffers in bytes. -/
def poolSize (s : State) (p : Nat) : Nat := 2 ^ s.f F.POOL_CTL_SIZE_LOG2 p
/-- The pool serves allocations (R261). -/
def poolOn (s : State) (p : Nat) : Bool := s.f F.POOL_STATUS_STATE p == 1

/-- LOW_FREE follows the free count down (R265). -/
def poolLow (s : State) (p free : Nat) : State :=
  s.setF F.POOL_STATUS_LOW_FREE (Nat.min free (s.f F.POOL_STATUS_LOW_FREE p)) p

/-- A granted allocation of buffer `h` (R256): state 1, owner, count 1, and the counters of R265. -/
def poolGrant (s : State) (h owner : Nat) : State :=
  let p := poolOf h
  let s := { s with bufs := s.bufs.put h ⟨.owned, owner, 1, [(owner, 1)], []⟩ }
  let s := (s.bump F.POOL_ALLOC_ALLOCS p).setF F.POOL_STATUS_ALLOCATED (s.f F.POOL_STATUS_ALLOCATED p + 1) p
  s.poolLow p (s.poolFree p)

/-- A failed allocation (R256, R265). -/
def poolFail (s : State) (p : Nat) : State := (s.bump F.POOL_ALLOC_NOBUF p).reachEvent 0x0603 p []

/-- Reserve `n` buffers of a fixed-unit pool whose buffers the model does not tell apart: only how many are held counts
(pools 0 to 4). -/
def poolTake (s : State) (p n : Nat) : State :=
  let s := (s.bump F.POOL_ALLOC_ALLOCS p n).setF F.POOL_STATUS_ALLOCATED (s.f F.POOL_STATUS_ALLOCATED p + n) p
  s.poolLow p (s.f F.POOL_CTL_COUNT p - s.f F.POOL_STATUS_ALLOCATED p)
def poolRoom (s : State) (p n : Nat) : Bool :=
  s.poolOn p && decide (s.f F.POOL_STATUS_ALLOCATED p + n ≤ s.f F.POOL_CTL_COUNT p)
/-- A DRAINING pool becomes OFF when its last buffer is freed (R261). -/
def poolDrained (s : State) (p : Nat) : State :=
  if s.f F.POOL_STATUS_STATE p = 2 ∧ s.f F.POOL_STATUS_ALLOCATED p = 0 then
    (s.setF F.POOL_STATUS_STATE 0 p).event 0x0604 [p, 0]
  else s
/-- Give `n` buffers of a pool back (R257, R261). -/
def poolGive (s : State) (p n : Nat) : State :=
  (s.setF F.POOL_STATUS_ALLOCATED (s.f F.POOL_STATUS_ALLOCATED p - n) p).poolDrained p

/-- Free a buffer (R257): zeroed first where its pool is open to engines. -/
def poolRelease (s : State) (h : Nat) : State :=
  let p := poolOf h
  let s := if s.flag F.POOL_CTL_ENG_OPEN p then { s with bufs := s.bufs.put h ⟨.zeroing, 0, 0, [], []⟩ }
    else { s with bufs := s.bufs.del h }
  s.poolGive p 1

/-- Record a rejected request (R258, R265): 1 double free, 2 foreign free, 3 reference limit. -/
def poolReject (s : State) (h requester kind : Nat) : State :=
  let p := poolOf h
  let owner := match s.buf? h with
    | some b => b.owner
    | none => 0
  let s := ((s.setF F.POOL_LAST_BAD_HANDLE h p).setF F.POOL_LAST_BAD_REQUESTER requester p
    |>.setF F.POOL_LAST_BAD_OWNER owner p).setF F.POOL_LAST_BAD_KIND kind p
  if kind = 1 then (s.bump F.POOL_BAD_DOUBLE_FREES p).event 0x0601 [h, requester]
  else if kind = 2 then (s.bump F.POOL_BAD_FOREIGN_FREES p).event 0x0602 [h, requester, owner]
  else (s.bump F.POOL_BAD_REF_OVERFLOWS p).event 0x0605 [h, requester]

/-- A request for a handle that no allocated buffer has: a double free, or, with an index at or above COUNT, a foreign one (R254, R258). -/
def poolNone (s : State) (h who : Nat) : State :=
  s.poolReject h who (if h % 2 ^ 20 < s.f F.POOL_CTL_COUNT (poolOf h) then 1 else 2)

/-- Take a reference (R259). -/
def poolRef (s : State) (h who : Nat) : State :=
  match s.buf? h with
  | some b =>
    if 255 ≤ b.refs then s.poolReject h who 3
    else
      let b' : Buf := { b with st := .shared, refs := b.refs + 1, held := b.held.put who (b.held.get 0 who + 1) }
      { s with bufs := s.bufs.put h b' }
  | none => s

/-- Drop `n` references of a holder; the last one frees the buffer (R258, R259). -/
def poolUnref (s : State) (h who n : Nat) : State :=
  match s.buf? h with
  | some b =>
    if b.st = .zeroing ∨ b.st = .free then s.poolReject h who 1
    else if b.held.get 0 who < n then s.poolReject h who 2
    else if b.refs ≤ n then s.poolRelease h
    else
      let b' : Buf := { b with st := if b.refs - n = 1 then .owned else .shared, refs := b.refs - n, held := b.held.set 0 who (b.held.get 0 who - n) }
      { s with bufs := s.bufs.put h b' }
  | none => s.poolNone h who

/-- A plain free (R258, R259). -/
def poolPlainFree (s : State) (h who : Nat) : State :=
  match s.buf? h with
  | some b =>
    if b.st = .zeroing ∨ b.st = .free then s.poolReject h who 1
    else if b.owner ≠ who then s.poolReject h who 2
    else if b.refs = 1 then s.poolRelease h
    else s
  | none => s.poolNone h who

end State

end Sys2Proof.Machine
end

