-- ==== Sys2Proof/Machine/Medium.lean ====
section
/-! DEFINITION. Applying a write at the lead (R33 to R36, R38, R54), and settling it when its lines are on the medium of both
twins (R30 to R32); dirty accounting and the changed-granule map. -/

namespace Sys2Proof.Machine

namespace State

/-! Dirty accounting and the spate flags (R325, R334). -/

/-- Dirty data in bytes. -/
def dirtyBytes (s : State) : Nat := s.dram.dirty.length * granBytes
def mib (n : Nat) : Nat := ceilDiv n (2 ^ 20)

/-- The flags after the dirty data or the budget have changed (R334): what they become. -/
def spateNext (s : State) : Bool :=
  let d := s.dirtyBytes
  if d * 100 ≥ s.dram.budget * 90 then true
  else if d * 100 < s.dram.budget * 85 then false else s.flag F.SV_STATUS_SPATE
def fullNext (s : State) : Bool :=
  let d := s.dirtyBytes
  let b := s.dram.budget
  if b < 2 ^ 29 then true
  else if d + 2 ^ 29 ≥ b then true
  else if d + 2 ^ 30 ≤ b then false else s.flag F.SV_STATUS_FULL
def overNext (s : State) : Bool := decide (s.dirtyBytes > s.dram.budget)

/-- Bring the three flags up to date, post 0x0A03 and 0x0A0E on a change, and tell the stack (R334). -/
def spateUpdate (s : State) : State :=
  let sp := s.spateNext
  let fu := s.fullNext
  let ov := s.overNext
  if sp = s.flag F.SV_STATUS_SPATE ∧ fu = s.flag F.SV_STATUS_FULL ∧ ov = s.flag F.SV_STATUS_OVER then s
  else
    let d := mib s.dirtyBytes
    let t := ((s.setF F.SV_STATUS_SPATE (b2n sp)).setF F.SV_STATUS_FULL (b2n fu)).setF F.SV_STATUS_OVER (b2n ov)
    let t := if sp = s.flag F.SV_STATUS_SPATE then t
      else ((if sp then t.bump F.SV_STATS_SPATE_SETS else t).event 0x0A03 [b2n sp, d, mib s.dram.budget])
    let t := if fu = s.flag F.SV_STATUS_FULL then t else t.event 0x0A0E [b2n fu, d]
    t.notice 255 0x02 [s.index, b2n sp, b2n fu, b2n ov, d]

/-- A granule is newer than its flash home (R325); write-behind takes it with its generation. -/
def markDirty (s : State) (gran : Nat) : State :=
  if s.dram.dirty.contains gran then s
  else
    let s := { s with dram := { s.dram with dirty := s.dram.dirty ++ [gran] } }
    { s with flash := { s.flash with inFlight := s.flash.inFlight.put gran (s.dram.gens.get 0 gran) } }.spateUpdate

/-- A write to a granule makes it dirty only while D is below B (R335). -/
def mayDirty (s : State) (gran : Nat) : Bool := s.dram.dirty.contains gran || decide (s.dirtyBytes < s.dram.budget)
/-- Durable writes of the pair are held at the point of application (R335): FULL on either twin, which a budget below 512 MiB holds
(R334), or a granule that would become dirty while D is at or above B. -/
def holdsDurable (s : State) (gran : Nat) : Bool :=
  s.flag F.SV_STATUS_FULL || decide (s.dram.budget < 2 ^ 29) ||
    (s.twin.peerFull && decide (s.tstate = TS.mirrored ∨ s.tstate = TS.suspect ∨ s.tstate = TS.resyncSource)) ||
    !s.mayDirty gran

/-! The changed-granule map (R62, R63). -/

def markChanged (s : State) (gran : Nat) : State :=
  if s.twin.changed.contains gran then s
  else { s with twin := { s.twin with changed := s.twin.changed ++ [gran] } }.setF F.TWIN_RESYNC_CHANGED_GRAN
    (s.twin.changed.length + 1)

/-! Settling (R30 to R32, R55, R59). -/

/-- Change every record of lines not settled. -/
def mapUnsettled (s : State) (f : Unsettled → Unsettled) : State :=
  { s with dram := { s.dram with unsettled := s.dram.unsettled.map f } }

/-- Change an engine thread that runs; a part. -/
def onThread (s : State) (t : Nat) (f : Thread → Thread) : State :=
  { s with eng := { s.eng with threads := s.eng.threads.modify t f } }
def onPart (s : State) (pid : Nat) (f : Part → Part) : State := { s with parts := s.parts.modify pid f }

/-- A store of a thread has failed (R160, R162, R168): its program ends, unless it has ended otherwise; TWIN_LOST stands for any end. -/
def storeFails (s : State) (t code : Nat) : State :=
  let e : End := if code = Code.poisoned then ⟨Code.programFault, 0x06, 0⟩ else ⟨code, 0, 0⟩
  s.onThread t fun h => { h with ended := match h.ended with
    | some x => if x.code = 0 ∨ code = Code.twinLost then some e else some x
    | none => some e }

/-- A part is complete with a code. -/
def partDone (s : State) (pid code : Nat) (result : U64 := 0) (len : Nat := 0) (rdata : List Byte := []) : State :=
  let s := s.onPart pid fun p => { p with st := .done, code := code, result := result, doneLen := len, rdata := rdata }
  match s.parts.at? pid with
  | some p => match p.org, p.kind with
    | .thread t, .write => if code = 0 then s else s.storeFails t code
    | _, _ => s
  | none => s

/-- What the settling of a record does for its waiter, with a completion code. -/
def settleOne (s : State) (u : Unsettled) (code : Nat) : State :=
  match u.who with
  | .part pid =>
    let s := s.onPart pid fun p => { p with solo := u.solo }
    let rdata := ((s.parts.at? pid).map (·.rdata)).getD []
    let s := s.partDone pid code (if code = 0 then u.result else 0) u.len rdata
    match (s.parts.at? pid).map (·.org) with
    | some (Origin.thread t) => s.onThread t fun h => { h with unmir := h.unmir || u.solo }
    | _ => s
  | .mirror _ => s.sendTwin 0x04 []

/-- Every line is on this device's medium and the twin has acknowledged; nothing but mirrors settles in HOLDING (R59). -/
def settled (s : State) (u : Unsettled) : Bool :=
  u.lines.isEmpty && u.mirror.isNone && (decide (s.tstate ≠ TS.holding) || match u.who with
    | .mirror _ => true
    | _ => false)

/-- Settle what can be settled, in the order applied. -/
def settle (s : State) : State :=
  let ready := s.dram.unsettled.filter s.settled
  ready.foldl (fun t u =>
    let t := { t with dram := { t.dram with unsettled := t.dram.unsettled.filter fun x => x.id ≠ u.id } }
    t.settleOne u 0) s

/-- Give up every write that waits, with a code (R63): what the device received from the twin goes on; the invocations whose
stores wait end with the code (R168). -/
def failUnsettled (s : State) (code : Nat) : State :=
  let gone := s.dram.unsettled.filter fun u => match u.who with
    | .mirror _ => false
    | _ => true
  gone.foldl (fun t u =>
    let t := { t with dram := { t.dram with unsettled := t.dram.unsettled.filter fun x => x.id ≠ u.id } }
    t.settleOne u code) s

/-! Streams (R266, R278). -/

/-- The stream record that names a region. -/
def streamOf (s : State) (r : Nat) : Option Nat :=
  (List.range 256).find? fun j => s.flag F.STR_CTL_SVALID j && s.f F.STR_CTL_REGION j == r
/-- The window slot that holds a device granule of a stream's region is READY (R288). -/
def slotReady (s : State) (r gran : Nat) : Bool :=
  match s.streamOf r with
  | some j => match s.streams.at? j with
    | some st => match st.slots.at? ((gran - s.regionBase r) / s.f F.STR_SHAPE_SLOT_GRAN j) with
      | some w => w.ready
      | none => false
    | none => false
  | none => false

/-- A read of a region's window ends with TILE_LATE here (R288, R297, R298). -/
def lateOutcome (s : State) (r : Nat) : State := match s.streamOf r with
  | some j => (s.bump F.STR_STATS_LATE j).reachEvent 0x0702 j [j]
  | none => s

/-! The log state of a LOG region (R425). -/

/-- The LOG slot of a region (R424). -/
def slotOfLog (s : State) (r : Nat) : Option Nat :=
  (List.range 256).find? fun j => s.flag F.LOG_CTL_LVALID j && s.f F.LOG_CTL_REGION j == r
def logSt (s : State) (j : Nat) : LogSt := s.logs.get ⟨0, 0, 0, [], false, 0, none, [], [], none, 0, (0, 0), 0⟩ j
def setLog (s : State) (j : Nat) (l : LogSt) : State := { s with logs := s.logs.put j l }
/-- The append frontier of a LOG region (R425). -/
def frontier (s : State) (r : Nat) : Nat := match s.slotOfLog r with
  | some j => s.f F.LOG_FRONT_FRONTIER j
  | none => 0

/-! Errors in the line caches (R243, R244). -/

/-- The lines of the VOLATILE regions on this pair that hash to a cluster. -/
def volatileLines (s : State) (c : Nat) : List Nat :=
  (((s.ctl.filter fun e => keySpace e.1 == 6 && keyWord e.1 == 0).map fun e => keyRec e.1).filter fun r =>
    s.regionValid r && s.isVolatile r && (s.regionPairs r).contains s.pair).flatMap fun r =>
      ((List.range (s.regionLen r / s.regionK r * 1024)).map (· + s.regionBase r * 1024)).filter fun l => clusterOf l == c

/-- A line's contents are undefined (R244): free values. -/
def undefineLine (s : State) (l : Nat) : State :=
  (List.range 8).foldl (fun (t : State) i => t.fresh.2.setDram (64 * l + 8 * i) (toBytes 8 t.fresh.1.toNat)) s

/-- An entry whose tag parity fails (R244). -/
def tagFails (s : State) (c i : Nat) : State :=
  let e := (s.cache c).entry i
  let bad (s : State) : State := (s.bump F.CCH_ECC_TAGPAR c).event 0x0503 [c, i, 0]
  let s := bad s
  if e.dirty.isNone then s.cacheDrop c i
  else if !e.dirBad then (s.cacheClean c i).cacheDrop c i
  else
    let s := ((bad s).setF F.CCH_STATUS_VLOSS 1 c).event 0x0504 [c, i]
    let s := (s.setCache c ((s.cache c).setEntry i { e with dirty := none })).cacheDisable c
    (s.volatileLines c).foldl undefineLine s

/-- The words of an entry that fail their ECC as they are read (R243): single-bit errors are corrected; a double-bit error loses the
entry's data, and a dirty line is then poisoned. -/
def eccFails (s : State) (c i : Nat) : State :=
  let e := (s.cache c).entry i
  let n2 := (e.ecc.filter (·.2)).length
  let n1 := e.ecc.length - n2
  let s := s.setCache c ((s.cache c).setEntry i { e with ecc := [] })
  let s := if n1 = 0 then s else (s.bump F.CCH_ECC_CORR c n1).reachEvent 0x0501 c [c] n1
  if n2 = 0 then s
  else
    let s := (s.bump F.CCH_ECC_UNCORR c n2).event 0x0502 [c, i, if e.dirty.isSome then 2 else b2n e.locked]
    let s := s.cacheDrop c i
    match e.dirty, e.line with
    | some _, some l => s.setPoison l
    | _, _ => s

/-- An access looks up a line: the checks of its entry's tag and words. -/
def cacheSound (s : State) (line : Nat) : State :=
  let c := clusterOf line
  if !s.cacheOn c then s
  else match (s.cache c).slotOf line with
    | none => s
    | some i =>
      let e := (s.cache c).entry i
      if !e.valid then s
      else if e.tagBad then s.tagFails c i
      else if e.ecc.isEmpty then s else s.eccFails c i

/-- A poisoned line stops an access (R41, R42), but a volatile line that its cache holds is served from there (R239). -/
def stops (s : State) (line : Nat) : Bool :=
  s.isPoisoned line && !((match s.regionOfGran (line / 1024) with
    | some r => s.isVolatile r
    | none => false) && s.cached line)

/-! Applying a write at the lead (R34, R36, R38). -/

/-- The generation of a granule (R36). -/
def gen (s : State) (gran : Nat) : Nat := s.dram.gens.get 0 gran
def setGen (s : State) (gran g : Nat) : State :=
  { s with dram := { s.dram with gens := s.dram.gens.set 0 gran (g % 2 ^ 48) } }

/-- Put bytes into DRAM through the caches: the lines' entries, the bytes, the poison of lines replaced whole, and the count
of writes to each line. -/
def storeBytes (s : State) (volatile atom : Bool) (a : Nat) (bs : List Byte) : State :=
  let ls := linesOf a bs.length
  let whole := wholeLines a bs.length
  let s := ls.foldl (fun t l => t.cacheWrite l (granEnd l) volatile atom (whole.contains l) (s.readDram (64 * l) 64)) s
  let s := s.setDram a bs
  let s := whole.foldl clearPoison s
  { s with dram := { s.dram with ver := ls.foldl (fun m l => m.set 0 l (m.get 0 l + 1)) s.dram.ver } }

/-- Send the lines of an applied write to the twin as MIRROR frames (R51, R55): one frame for each run of lines. For a LOG region
they bring the append frontier too (R425). -/
def sendMirror (s : State) (gran : Nat) (unit : Bool) (ls : List Nat) : State :=
  let runs := runsOf ls
  let n := runs.length
  let front := match s.regionOfGran gran with
    | some r => if s.regionClass r = Cls.log then [s.frontier r] else []
    | none => []
  (runs.zip (List.range n)).foldl (fun t (r, i) =>
    { t with twin := { t.twin with unacked := t.twin.unacked ++ [t.nextSeq 2] } }.sendTwin 0x03
      ([64 * r.1, t.gen gran, b2n unit, b2n (unit && decide (i + 1 = n))] ++ front) (t.readDram (64 * r.1) (64 * r.2))) s

/-- The valid DURABLE and LOG regions of this device's pair. -/
def durableHere (s : State) : List Nat :=
  ((s.ctl.filter fun e => keySpace e.1 == 6 && keyWord e.1 == 0).map fun e => keyRec e.1).filter fun r =>
    s.regionValid r && s.isDurable r && (s.regionPairs r).contains s.pair
/-- UNMIRRORED of every DURABLE and LOG region of the pair (R32). -/
def setUnmirrored (s : State) (b : Bool) : State :=
  s.durableHere.foldl (fun t r => t.setF F.REG_STATE_UNMIRRORED (b2n b) r) s

/-- Applied writes are mirrored in this twin state (R57, R69). -/
def mirrors (s : State) : Bool :=
  decide (s.tstate = TS.mirrored ∨ s.tstate = TS.suspect ∨ s.tstate = TS.resyncSource)

/-- Apply a write to one granule as one step: chunks of bytes by device offset, each inside the granule. A volatile write is
complete at once (R31); a durable one raises the generation, dirties the granule, is mirrored or counted as changed, and
waits for its medium. -/
def applyWrite (s : State) (volatile atom unit : Bool) (chunks : List (Nat × List Byte)) (who : Waiter)
    (result : U64) (len : Nat) : State :=
  let gran := (chunks.headD (0, [])).1 / granBytes
  let ls := lineUnion (chunks.flatMap fun c => linesOf c.1 c.2.length)
  let s := chunks.foldl (fun t c => t.storeBytes volatile atom c.1 c.2) s
  let u : Unsettled := ⟨s.dram.nextId, gran, [], none, who, result, len, false, s.time⟩
  if volatile then s.settleOne u 0
  else
    let s := (s.setGen gran (s.gen gran + 1)).markDirty gran
    let m := s.mirrors
    let t := if m then s.sendMirror gran unit ls else s
    let t := if s.tstate = TS.solo ∨ s.tstate = TS.resyncSource then t.markChanged gran else t
    let last := if m then some (seqBefore (t.nextSeq 2)) else none
    let u := { u with lines := ls, mirror := last, solo := !m }
    { t with dram := { t.dram with unsettled := t.dram.unsettled ++ [u], nextId := t.dram.nextId + 1 } }

/-- Take a line from the first record that waits for it. -/
def dropLine (line : Nat) : List Unsettled → List Unsettled
  | [] => []
  | u :: r => if u.lines.contains line then { u with lines := u.lines.filter (· != line) } :: r else u :: dropLine line r

/-- A write to a line is on this device's medium (R30, R310): of the writes to it, the one applied first. -/
def onMedium (s : State) (line : Nat) : State :=
  { s with dram := { s.dram with unsettled := dropLine line s.dram.unsettled } }.settle

/-- The twin has acknowledged its MIRRORs up to a SEQ (R55). -/
def mirrorAcked (s : State) (q : Nat) : State :=
  let s := { s with twin := { s.twin with unacked := s.twin.unacked.filter fun x => !seqLe x q } }
  let s := s.dram.unsettled.foldl (fun t u => match u.mirror with
    | some m => if seqLe m q then t.histAdd 2 (t.time - u.sentAt) else t
    | none => t) s
  (s.mapUnsettled fun u => match u.mirror with
    | some m => if seqLe m q then { u with mirror := none } else u
    | none => u).settle

end State

end Sys2Proof.Machine
end

