-- ==== Sys2Proof/Machine/Logs.lean ====
section
/-! DEFINITION. Sealed logs (R424 to R430): the calendar, ordering a seal, the chain digest and the seal record, what the other twin
learns of them, and what falls due at a weir. -/

namespace Sys2Proof.Machine

/-- A byte list cut or filled with zeros to a length. -/
def fitBytes (n : Nat) (bs : List Byte) : List Byte := (bs ++ List.replicate n 0).take n
/-- The low 64 bits of SHAKE256 of a byte string (R409, R417). -/
def shakeId (bs : List Byte) : Nat := ofBytes (fitBytes 8 (Config.shake256 bs 8))
/-- A 256-byte signed record: the 17 quadwords of its body, the signature by the identity key, and zeros (R414, R417, R428). -/
def signedRecord (qw : List Nat) : List Byte :=
  let body := fitBytes 136 (qw.flatMap (toBytes 8))
  fitBytes 256 (body ++ fitBytes 114 (Config.ed448Sign body))
/-- Eight quadwords of 64 bytes. -/
def qwords (bs : List Byte) (n : Nat) : List Nat := (List.range n).map fun i => ofBytes ((bs.drop (8 * i)).take 8)

namespace State

/-- Calendar time in µs, 0 if it was never set (R210, R448). -/
def calNow (s : State) : Nat := if s.recd.rtcSet then s.recd.rtc / 10 ^ 12 else 0
def calValid (s : State) : Bool := s.flag F.SEC_STATUS_CAL_VALID
def weirCount (s : State) : Nat := s.f F.WEIR_COUNT

def logValid (s : State) (j : Nat) : Bool := s.flag F.LOG_CTL_LVALID j
def logRegion (s : State) (j : Nat) : Nat := s.f F.LOG_CTL_REGION j
def sealRegion (s : State) (j : Nat) : Nat := s.f F.LOG_CTL_SEAL_REGION j
/-- This device is the slot's keeper (R425): it leads the granule that holds F. -/
def isKeeper (s : State) (j : Nat) : Bool :=
  s.logValid j && s.leadDev (s.logRegion j) (s.f F.LOG_FRONT_FRONTIER j) == s.index
/-- The slots in use. -/
def logSlots (s : State) : List Nat := (List.range 256).filter s.logValid

/-- Order a seal (R427, R430): its number, and what it covers up to. -/
def orderSeal (s : State) (j kind upto cal at_ appends : Nat) : State :=
  let l := s.logSt j
  let d : SealDue := ⟨l.sealSeq + 1, if l.kind3 then 3 else kind, l.fromOff, upto, cal, at_, appends⟩
  s.setLog j { l with sealSeq := l.sealSeq + 1, fromOff := upto, kind3 := false, due := l.due ++ [d] }
/-- Order an extra seal of the moment (R207, R427); those that wait for a seal of this weir get it. -/
def orderExtra (s : State) (j : Nat) : State :=
  let s := s.orderSeal j 2 (s.f F.LOG_FRONT_FRONTIER j) s.calNow s.time (s.logSt j).appends
  let l := s.logSt j
  s.setLog j { l with extraAt := some s.weirCount
                      waiters := l.waiters.map fun w => if w.2.isNone then (w.1, some l.sealSeq) else w }

/-- Order the seal that an interval weir has asked for (R427); those that wait for a seal of that weir get it (R207). -/
def orderMarked (s : State) (j : Nat) : State :=
  match (s.logSt j).mark with
  | some (upto, cal, at_, appends) =>
    let s := s.orderSeal j 1 upto cal at_ appends
    let l := s.logSt j
    s.setLog j { l with mark := none
                        waiters := l.waiters.map fun w => if w.2.isNone then (w.1, some l.sealSeq) else w }
  | none => s

/-- D(0) of a slot's region (R426). -/
def genesis (s : State) (j : Nat) : List Byte :=
  let tag : List Byte := [0x44, 0x52, 0x56, 0x53, 0x4C, 0x4F, 0x47, 0x31]
  fitBytes 64 (Config.shake256 (tag ++ toBytes 2 (s.logRegion j) ++ List.replicate 6 0 ++ toBytes 8 s.digest ++
    toBytes 8 (s.f F.LOG_GENESIS_GENESIS_CAL j)) 64)
/-- The chain digest of a seal (R426). -/
def chainDigest (s : State) (j : Nat) (d : SealDue) : List Byte :=
  let r := s.logRegion j
  let h := toBytes 2 r ++ List.replicate 6 0 ++ toBytes 8 d.frm ++ toBytes 8 d.upto ++ toBytes 8 d.seq
  fitBytes 64 (Config.shake256 ((s.logSt j).chain ++ h ++ s.readDram (s.place r d.frm).2 (d.upto - d.frm)) 64)
/-- The seal record (R428). -/
def sealRecord (s : State) (j : Nat) (d : SealDue) : List Byte :=
  signedRecord ([(0x534C <<< 48) ||| (1 <<< 40) ||| (d.kind <<< 32) ||| (s.index <<< 24) ||| s.logRegion j, d.seq, d.frm, d.upto,
    d.appends, d.cal, d.at_, (s.epoch <<< 32) ||| b2n s.calValid] ++ qwords (s.chainDigest j d) 8 ++ [shakeId Config.identityKey])

/-- A seal is on the medium of both twins (R427, R432): its number, its TO_OFF and its digest. -/
def sealHeld (s : State) (j n upto : Nat) (dig : List Byte) : State :=
  let l := s.logSt j
  let s := s.setLog j { l with last := (n, upto), chain := dig, sealSeq := Nat.max l.sealSeq n
                               fromOff := if l.sealSeq ≤ n then upto else l.fromOff }
  let s := (s.setF F.LOG_SEQ_LAST_SEAL_SEQ n j).setF F.LOG_DIGEST_DIGEST_LO (ofBytes (dig.take 8)) j
  if s.regionLen (s.sealRegion j) * 256 < n then s.bump F.LOG_STAT_RING_WRAPS j else s

/-- What a device that did not order a seal learns from the record as it is written (R425, R428). -/
def logFollow (s : State) (chunks : List (Nat × List Byte)) : State :=
  chunks.foldl (fun (t : State) c =>
    let qw := qwords c.2 4
    if c.2.length ≠ 256 ∨ (qw.getD 0 0) / 2 ^ 48 ≠ 0x534C then t
    else match t.regionOfGran (c.1 / granBytes) with
      | none => t
      | some r => match t.logSlots.find? fun j => t.sealRegion j == r with
        | some j =>
          if (t.logSt j).last.1 < qw.getD 1 0 then t.sealHeld j (qw.getD 1 0) (qw.getD 3 0) ((c.2.drop 64).take 64) else t
        | none => t) s

/-- The first seal after a grant or a restore has KIND 3 (R430). -/
def logsAnew (s : State) : State :=
  s.logSlots.foldl (fun (t : State) j =>
    let l := t.logSt j
    t.setLog j { l with kind3 := true }) s

/-- The reaches of a seal interval (R427). -/
def sealInterval (s : State) (j : Nat) : Nat := ceilDiv (s.f F.LOG_SEAL_SEAL_MS j * 1000) (2 ^ s.f F.WEIR_CTL_REACH_K)

/-- A slot at a weir (R207, R427): at an interval weir the late seals are reported and, if F moved, a seal is asked for; where a
SEAL waits and none is, the keeper orders an extra one. -/
def sealWeirSlot (s : State) (j : Nat) : State :=
  let l := s.logSt j
  let w := s.weirCount
  let f := s.f F.LOG_FRONT_FRONTIER j
  let keeper := s.isKeeper j
  let atInterval := decide (l.startWeir < w) && (w - l.startWeir) % s.sealInterval j == 0
  let s := if !atInterval then s
    else
      let first := Nat.max l.last.1 l.lateTo
      let late := if keeper then (List.range (l.sealSeq - first)).map (first + 1 + ·) else []
      let s := late.foldl (fun (t : State) n => t.event 0x0E09 [j, n]) s
      let s := if keeper then s.orderMarked j else s
      let l := s.logSt j
      s.setLog j { l with lateTo := Nat.max l.sealSeq l.lateTo, intervalF := f
                          mark := if f ≠ l.intervalF ∧ s.flash.run.isNone then some (f, s.calNow, s.time, l.appends) else l.mark }
  if keeper && (s.logSt j).mark.isNone && (l.waiters.any fun x => x.2.isNone) then s.orderExtra j else s
def sealWeir (s : State) : State := s.logSlots.foldl sealWeirSlot s

end State

end Sys2Proof.Machine
end

