-- ==== Sys2Proof/Machine/Parts.lean ====
section
/-! DEFINITION. Access parts (R22, R34, R40, R54, R116, R128): making them, sending them to their device, admitting them under
checks 5 and 6 in the order of their flows, and performing them there. -/

namespace Sys2Proof.Machine

/-- The code of a part kind in a forwarded part. -/
def partCode : PartKind → Nat
  | .read => 1
  | .write => 2
  | .unit => 3
  | .compare => 4
  | .fetchAdd => 5
  | .append => 10
  | .invoke => 8
  | .swap => 32
  | .andOp => 33
  | .orOp => 34
  | .maxU => 35
  | .maxS => 36
  | .group => 37
  | .tile => 16
  | .seal => 38

/-- The part kinds that write. -/
def partWrites : PartKind → Bool
  | .read => false
  | .invoke => false
  | .tile => false
  | _ => true

/-- The part kinds that are atomics (R40, R161). -/
def partAtomic : PartKind → Bool
  | .read => false
  | .write => false
  | .unit => false
  | .append => false
  | .invoke => false
  | .group => false
  | .tile => false
  | .seal => false
  | _ => true

/-- The new bytes that an atomic puts in place of the old ones, none where it compares and finds a mismatch (R116, R197). -/
def atomicNew (k : PartKind) (old d d2 : List Byte) : Option (List Byte) :=
  let a : U64 := BitVec.ofNat 64 (ofBytes old)
  let b : U64 := BitVec.ofNat 64 (ofBytes d)
  let w (x : U64) : Option (List Byte) := some (toBytes 8 x.toNat)
  match k with
  | .compare => if old = d then some d2 else none
  | .fetchAdd => w (a + b)
  | .swap => w b
  | .andOp => w (a &&& b)
  | .orOp => w (a ||| b)
  | .maxU => w (if a.toNat < b.toNat then b else a)
  | .maxS => w (if a.toInt < b.toInt then b else a)
  | _ => none

/-- The 16-bit message numbers: `a` is before `b`. -/
def msnBefore (a b : Nat) : Bool := decide (a ≠ b ∧ (b + 65536 - a % 65536) % 65536 < 32768)

/-- A region range as line numbers, for overlap. -/
def overlaps (a n b m : Nat) : Bool := decide (a / 64 < (b + m + 63) / 64 ∧ b / 64 < (a + n + 63) / 64)

/-- What entry decides (R22 checks 5 and 6). -/
inductive Adm where
  | pass
  | hold
  | fail (code : Nat)
  deriving DecidableEq, Repr

namespace State

/-- No access part is admitted: a save runs (R340), stack-wide words are being copied (R232), the device is in doubt (R227), or
it is excluded (R405: MEMBER_STATE 3), its count of stack time was stepped (R395), or its DRAM block is gated (R381). -/
def admissionHeld (s : State) : Bool :=
  s.flash.run.isSome || s.stage.copying || s.stage.doubt || s.stk.unsync || s.f F.STK_STATUS_MEMBER_STATE == 3 ||
    s.supply.gated.contains 23

/-- Check 6 of R22 at this device for a piece of a region (R44, R57, R59, R63, R64, R70, R350), and of R288 for a stream's window. -/
def admit6 (s : State) (r off : Nat) (writes : Bool) : Adm :=
  let (p, d) := s.place r off
  let gran := d / granBytes
  if s.tablesLost.any fun l => Config.tableNeeds l gran then .fail Code.unavailable
  else if s.isDurable r then
    if s.flag F.REG_STATE_UNRESTORED r then .fail Code.unavailable
    else if p ≠ s.pair then .fail Code.unavailable
    else if s.tstate = TS.unpaired ∨ (s.tstate = TS.pairing ∧ s.twin.fromSolo = false) then .fail Code.unavailable
    else if s.tstate = TS.fenced then .fail Code.twinLost
    else if s.tstate = TS.resyncTarget then .fail Code.unavailable
    else if s.tstate = TS.holding ∨ s.twin.reconcile.contains gran then .hold
    else if s.tstate = TS.suspect ∧ writes = false then .hold
    else .pass
  else if s.isVolatile r then
    if p = s.pair ∧ s.leadSide true p gran = s.side then .pass else .fail Code.unavailable
  else if s.slotReady r gran then .pass else .fail Code.tileLate

/-- The part belongs to a program of this device, or is its own seal record. -/
def boundPart (p : Part) : Bool := match p.org with
  | .thread _ => true
  | .seal _ _ => true
  | _ => false

/-- Make a part; its number is the state's next. One that is not cut into pieces is a group of its own. -/
def addPart (s : State) (p : Part) : State :=
  let p : Part := { p with born := s.time, grp := match p.org with
    | .remote _ _ => p.grp
    | _ => if p.cnt = 1 then s.nextPart else p.grp }
  { s with parts := s.parts.put s.nextPart p, nextPart := s.nextPart + 1 }

/-- A queue's context, and a command of it. -/
def queue? (s : State) (q : Nat) : Option Queue := s.queues.at? q
def cmd? (s : State) (q tag : Nat) : Option Cmd := (s.queue? q).bind fun x => x.cmds.find? fun c => c.tag == tag
/-- The device queue number of a local queue (R81). -/
def dqn (s : State) (q : Nat) : Nat := s.index * 2 ^ 19 + q

/-- The flow of a part sent away (R38, R54): twice the device queue number of its queue, one more for a one-sided message; a number of
its own for a thread. -/
def flowOf (s : State) (p : Part) : Option Nat := match p.org with
  | .cmd q _ => some (2 * s.dqn q)
  | .msg q _ => some (2 * s.dqn q + 1)
  | .thread t => some (2 ^ 27 + t)
  | .remote _ _ => p.flow
  | _ => none

/-- The pair runs together: the twin link carries parts and their answers. -/
def together (s : State) : Bool :=
  decide (s.tstate = TS.mirrored ∨ s.tstate = TS.suspect ∨ s.tstate = TS.resyncSource ∨ s.tstate = TS.resyncTarget)

/-- A frame for another device goes over the twin link to the twin while the pair runs together, else over the cascade. -/
def sendDev (s : State) (type : Nat) (m : Msg) : State :=
  if m.dst = s.index ^^^ 1 ∧ s.together = true then s.linkSend type m else s.emit m

/-- The twin serves this fenced device's pair: it holds the grant and can be reached (R63). -/
def twinServes (s : State) : Bool :=
  s.twin.grant == some (s.epoch, 1 - s.side) && s.inService (s.index ^^^ 1)

/-- The device that holds a granule of a region is out of service, so that check 6 of R22 fails there: the twin, for a VOLATILE granule, while
this side waits for a grant or runs without it (R64), or a device that is not in service. Durable parts for the twin wait for the
twin state machine (R59). -/
def deadEnd (s : State) (dev r : Nat) : Bool :=
  if dev = s.index ^^^ 1 then
    !s.isDurable r && (!s.inService dev ||
      s.isVolatile r && decide (s.tstate = TS.holding ∨ s.tstate = TS.solo ∨ s.tstate = TS.fenced))
  else !s.inService dev

/-- Send a part to its device (R54, R128); a fenced device's, to its own pair, only to a granted twin (R63). -/
def forwardPart (s : State) (pid : Nat) (p : Part) : State :=
  if s.tstate = TS.fenced ∧ p.dev = s.index ^^^ 1 ∧ s.isDurable p.region = true ∧ s.twinServes = false then
    s.partDone pid Code.twinLost
  else if s.deadEnd p.dev p.region then s.partDone pid Code.unavailable
  else
    (s.onPart pid fun q => { q with st := .forwarded }).sendDev 1
      ⟨.fwdReq, p.dev, [pid, partCode p.kind, p.region, p.off, p.len, p.expect.getD (2 ^ 64), p.lim, p.grp, p.cnt,
        ((s.flowOf p).map (· + 1)).getD 0, b2n (p.passed || boundPart p)] ++
        (p.chunks.flatMap fun c => [c.1, c.2.length]) ++ p.reads.flatMap fun e => [e.1, e.2],
        p.data ++ p.data2 ++ p.chunks.flatMap Prod.snd⟩

/-- Ask the twin for a line (R41), once. -/
def askHeal (s : State) (line : Nat) : State :=
  if s.dram.heals.contains line then s
  else { s with dram := { s.dram with heals := s.dram.heals ++ [line] } }.sendTwin 0x08 [64 * line]

/-- Heal a durable line that DRAM reports poisoned from a clean cached copy (R240). -/
def healFromCache (s : State) (line : Nat) : State :=
  let c := clusterOf line
  match (s.cache c).hitOf line with
  | some i => if s.cacheOn c then (s.clearPoison line).event 0x0503 [c, i, 1] else s
  | none => s

/-- The first poisoned line of a span that would stop an access: any for a read or atomic, only partly written ones for a
write (R41 to R43), after healing from the caches. -/
def stopLine (s : State) (a n : Nat) (whole : Bool) : Option Nat :=
  (linesOf a n).find? fun l => s.stops l && !(whole && (wholeLines a n).contains l)

/-- The region holds the seal records of a LOG slot (R424). -/
def isSealRegion (s : State) (r : Nat) : Bool :=
  (List.range 256).any fun j => s.flag F.LOG_CTL_LVALID j && s.f F.LOG_CTL_SEAL_REGION j == r
/-- A read at the lead would return a seal record before its MIRROR_ACK, or, without a twin, before it is on the medium (R429). -/
def sealWaits (s : State) (r off n : Nat) : Bool :=
  s.isSealRegion r && s.dram.unsettled.any fun u => (u.mirror.isSome || u.solo && u.lines != []) && match u.who with
    | .part pid => match s.parts.at? pid with
      | some q => q.kind == .unit && q.region == r && decide (q.off < off + n ∧ off < q.off + q.len)
      | none => false
    | .mirror _ => false

/-- An access looks up its lines: the checks of their cache entries (R243), and healing from a clean copy (R240). -/
def lookUp (s : State) (durable : Bool) (ls : List Nat) : State :=
  ls.foldl (fun (t : State) l =>
    let t := t.cacheSound l
    if durable && t.isPoisoned l then t.healFromCache l else t) s

/-- The device offset of a part's first byte, and the lines that it reads or writes here. -/
def partOff (s : State) (p : Part) : Nat := (s.place p.region p.off).2
def partLines (s : State) (p : Part) : List Nat :=
  if p.kind = .group then
    lineUnion (p.chunks.flatMap fun c => linesOf (s.partOff p / granBytes * granBytes + c.1) c.2.length)
  else linesOf (s.partOff p) p.len

/-- A part waits for the heal of a durable line, or ends with POISONED (R41, R42). -/
def poisonStop (s : State) (pid : Nat) (p : Part) (line : Nat) : State :=
  if s.isDurable p.region then (s.onPart pid fun q => { q with st := .heldHeal line }).askHeal line
  else s.partDone pid Code.poisoned

/-- Perform a part of this device that has been admitted. -/
def performPart (s : State) (pid : Nat) (p : Part) : State :=
  let d := s.partOff p
  let gran := d / granBytes
  let vol := s.isVolatile p.region
  let s := if s.regionClass p.region = Cls.stream then s else s.lookUp (s.isDurable p.region) (s.partLines p)
  let stop : Option Nat := match s.stopLine d p.len (p.kind == .write || p.kind == .unit) with
    | some l => some l
    | none => p.chunks.findSome? fun (c : Nat × List Byte) => s.stopLine (gran * granBytes + c.1) c.2.length true
  match stop with
  | some l => s.poisonStop pid p l
  | none =>
    if p.kind = .read ∧ s.sealWaits p.region p.off p.len = true then s.onPart pid fun q => { q with st := .heldSeal }
    else if p.kind = .read then
      let s := (linesOf d p.len).foldl (fun t l => if s.regionClass p.region = Cls.stream then t else t.cacheRead l (granEnd l)) s
      let s := if boundPart p then s else s.histAdd 0 (s.time - p.born)
      s.partDone pid 0 (BitVec.ofNat 64 (s.dram.ver.get 0 (d / 64))) p.len (s.readDram d p.len)
    else if p.kind = .group ∧ (p.reads.all fun e => s.dram.ver.get 0 (gran * 1024 + e.1) == e.2) = false then s.partDone pid 0 0
    else if p.kind = .group ∧ p.chunks.isEmpty then s.partDone pid 0 1
    else if !vol && s.holdsDurable gran then s.onPart pid fun q => { q with st := .heldFull }
    else if p.kind = .write ∨ p.kind = .unit then
      let s := (s.onPart pid fun q => { q with st := .admitted }).applyWrite vol false (p.kind == .unit) [(d, p.data)] (.part pid) 0
        p.len
      if p.kind = .unit ∧ !boundPart p then s.logFollow [(d, p.data)] else s
    else if p.kind = .group then
      (s.onPart pid fun q => { q with st := .admitted }).applyWrite vol false true
        (p.chunks.map fun c => (gran * granBytes + c.1, c.2)) (.part pid) 1 0
    else
      let old := s.readDram d p.len
      match atomicNew p.kind old p.data p.data2 with
      | some new =>
        ((s.onPart pid fun q => { q with st := .admitted, stored := true, rdata := old }).applyWrite vol true false [(d, new)]
          (.part pid) (BitVec.ofNat 64 (ofBytes (old.take 8))) p.len)
      | none =>
        let s := (linesOf d p.len).foldl (fun t l => t.cacheRead l (granEnd l)) s
        s.partDone pid 0 (BitVec.ofNat 64 (ofBytes (old.take 8))) p.len old

/-- `n` bytes at region byte `f` lie in one mapping of a domain with the WRITE right (R118), or in one removed whose accesses are
still in flight (R29). -/
def appendMapped (s : State) (dom r f n : Nat) : Bool :=
  (List.range 1024).any fun m =>
    (s.flag F.MAP_VA_MVALID dom (3 * m) || (s.drains.get [] dom).contains m) && s.flag F.MAP_VA_WRITE dom (3 * m) &&
      s.f F.MAP_TGT_REGION dom (3 * m) == r && decide (s.f F.MAP_TGT_RGRAN dom (3 * m) * granBytes ≤ f ∧
        f + n ≤ (s.f F.MAP_TGT_RGRAN dom (3 * m) + s.f F.MAP_LEN_NGRAN dom (3 * m)) * granBytes)

/-- The keeper orders an append (R425): EXPECT, the advance past a granule that is too full, the domain's mappings (R118), the
region's end, the hand-over to the other twin, and the staged write at F. -/
def performAppend (s : State) (pid : Nat) (p : Part) : State :=
  match s.slotOfLog p.region with
  | none => s.partDone pid Code.access
  | some j =>
    let f0 := s.f F.LOG_FRONT_FRONTIER j
    if p.expect.isSome && p.expect != some f0 then s.partDone pid Code.access
    else
      let f := if granBytes < f0 % granBytes + p.len then (f0 / granBytes + 1) * granBytes else f0
      if s.regionLen p.region * granBytes < f + p.len then (s.partDone pid Code.bounds).reachEvent 0x0E0A j [p.region]
      else if !s.appendMapped p.lim p.region f p.len then s.partDone pid Code.bounds
      else if s.leadDev p.region f ≠ s.index then
        -- the keeper's duty goes with it: no seal is left unwritten, and the SEALs that wait go on to the new keeper (R425)
        if (s.logSt j).due ≠ [] then s else
        let s := (s.logSt j).waiters.foldl (fun (t : State) w => match t.parts.at? w.1 with
          | some x =>
            let y : Part := { x with dev := s.leadDev p.region f }
            (t.onPart w.1 fun _ => y).forwardPart w.1 y
          | none => t) s
        let l := s.logSt j
        let s := s.setLog j { l with waiters := [] }
        let q := { p with dev := s.leadDev p.region f, expect := none }
        (s.setF F.LOG_FRONT_FRONTIER f j).onPart pid (fun _ => q) |>.forwardPart pid q
      else
        let (_, d) := s.place p.region f
        let s := s.lookUp true (linesOf d p.len)
        match s.stopLine d p.len true with
        | some l => s.poisonStop pid p l
        | none =>
          if s.holdsDurable (d / granBytes) then s.onPart pid fun q => { q with st := .heldFull }
          else
            let l := s.logSt j
            let s := (s.setF F.LOG_FRONT_FRONTIER (f + p.len) j).setLog j { l with appends := l.appends + 1 }
            (s.onPart pid fun q => { q with st := .admitted }).applyWrite false false true [(d, p.data)] (.part pid)
              (BitVec.ofNat 64 f) p.len

/-- A SEAL reaches the lead of the region's frontier (R207, R427): at most one extra seal in a reach. -/
def performSeal (s : State) (pid : Nat) (p : Part) : State :=
  match s.slotOfLog p.region with
  | none => s.partDone pid Code.access
  | some j =>
    let dev := s.leadDev p.region (s.f F.LOG_FRONT_FRONTIER j)
    if dev ≠ s.index then
      let q := { p with dev := dev }
      (s.onPart pid fun _ => q).forwardPart pid q
    else
      -- the seal that the last interval weir asked for is numbered before an extra one (R207)
      let s := (s.onPart pid fun q => { q with st := .admitted }).orderMarked j
      let l := s.logSt j
      let s := s.setLog j { l with waiters := l.waiters ++ [(pid, none)] }
      if l.extraAt = some s.weirCount then s else s.orderExtra j

/-- A part that has arrived here although the twin leads its granule (R16, R70): a write or atomic, or a VOLATILE read; an append or
a seal only in RESYNC_TARGET, since a keeper hands them over itself (R425). A fenced device sends nothing on (R63). -/
def ledByTwin (s : State) (p : Part) (off : Nat) : Bool :=
  decide (s.leadDev p.region off = s.index ^^^ 1) &&
    if s.isVolatile p.region then true
    else s.isDurable p.region && decide (s.tstate ≠ TS.fenced) && (partWrites p.kind || p.kind == .seal) &&
      (decide (s.tstate = TS.resyncTarget) || !(p.kind == .append || p.kind == .seal))

/-- A part waits for a buffer of a unit's pool: counted once, however often it retries (R253, R265). -/
def poolRetry (s : State) (pid : Nat) (p : Part) (pool : Nat) : State :=
  if p.retried then s else (s.poolFail pool).onPart pid fun q => { q with retried := true }

/-- Where a part takes effect in its region: an append or a seal, where the frontier lies. -/
def effectOff (s : State) (p : Part) : Nat := if p.kind = .append ∨ p.kind = .seal then s.frontier p.region else p.off

/-- Check 6 of R22 at this device for a part: one that the twin leads is sent on, from a durable granule's other twin once it is
admitted here (R54), and by the target of a resync at once (R70). -/
def check6 (s : State) (p : Part) : Adm :=
  if s.ledByTwin p (s.effectOff p) && (s.isVolatile p.region || decide (s.tstate = TS.resyncTarget)) then .pass
  else s.admit6 p.region (s.effectOff p) (partWrites p.kind)

/-- Perform an admitted part (R22, R128), or send it on to the lead twin (R16); a staged write takes a buffer of pool 1 and retries
while there is none (R253). -/
def serve (s : State) (pid : Nat) (p : Part) : State :=
  if s.ledByTwin p (s.effectOff p) then
    let q := { p with dev := s.index ^^^ 1 }
    (s.onPart pid fun _ => q).forwardPart pid q
  else if p.kind = .seal then s.performSeal pid p
  else if p.kind = .unit ∨ p.kind = .append then
    if s.poolRoom 1 1 then
      let s := s.poolTake 1 1
      (if p.kind = .append then s.performAppend pid p else s.performPart pid p).poolGive 1 1
    else s.poolRetry pid p 1
  else s.performPart pid p

/-! The order of writes (R38, R84, R123, R159). -/

/-- The queue and the message number of a part of this device, and whether a command has it. -/
def msnOf (s : State) (o : Origin) : Option (Nat × Nat × Bool) := match o with
  | .cmd q tag => (s.cmd? q tag).map fun c => (q, c.msn, true)
  | .msg q msn => some (q, msn, false)
  | _ => none

/-- Two parts change common lines; lie in one granule. -/
def overlapParts (p q : Part) : Bool := p.region == q.region && overlaps p.off p.len q.off q.len
def sameGranule (p q : Part) : Bool := p.region == q.region && p.off / granBytes == q.off / granBytes

/-- Write part `a` is to be applied before `b`: of the commands of one queue in message order, of its one-sided messages where their
lines overlap, of one thread in one granule. -/
def before (s : State) (a b : Nat × Part) : Bool := match a.2.org, b.2.org with
  | .thread t, .thread u => t == u && decide (a.1 < b.1) && sameGranule a.2 b.2
  | .remote x _, .remote y _ => x == y && decide (a.1 < b.1) && match a.2.flow, b.2.flow with
    | some m, some n =>
      if m < 2 ^ 27 ∧ n < 2 ^ 27 then m / 2 == n / 2 && (decide (m % 2 = 0 ∧ n % 2 = 0) || overlapParts a.2 b.2)
      else m == n && sameGranule a.2 b.2
    | _, _ => false
  | x, y => match s.msnOf x, s.msnOf y with
    | some (q, m, c), some (r, n, d) => q == r && msnBefore m n && (c && d || overlapParts a.2 b.2)
    | _, _ => false

/-- A one-sided message of the queue with a lower number, of which bytes are missing, will write lines of this part (R84). -/
def messageDue (s : State) (p : Part) : Bool := match p.org with
  | .msg q msn => match s.queue? q with
    | some x => x.msgs.any fun m => m.kind == 1 && !m.closed && msnBefore m.msn msn && decide (m.got < m.len) && match m.tgt with
      | some t => t.region == p.region && overlaps t.off m.len p.off p.len
      | none => false
    | none => false
  | _ => false

/-- A write part waits for one that is to be applied before it at this device. -/
def writeBlocked (s : State) (pid : Nat) (p : Part) : Bool :=
  partWrites p.kind && (s.messageDue p || s.parts.any fun e =>
    e.2.dev == s.index && partWrites e.2.kind && s.before e (pid, p) && match e.2.st with
      | .waiting | .heldFull | .heldHeal _ => true
      | _ => false)

/-! Admission (R22, R128). -/

/-- A part for another device leaves this one. A write to a granule of the own pair that the twin leads is admitted here first (R54, R57,
R59). -/
def sendAway (s : State) (pid : Nat) (p : Part) : State :=
  if s.messageDue p then s
  else if p.dev = s.index ^^^ 1 ∧ s.isDurable p.region = true ∧ partWrites p.kind = true then
    if s.tstate = TS.unpaired ∨ (s.tstate = TS.pairing ∧ s.twin.fromSolo = false) then s.partDone pid Code.unavailable
    else if s.tstate = TS.holding ∨ s.admissionHeld = true then s
    else s.forwardPart pid p
  else s.forwardPart pid p

/-- Two parts come from one place. -/
def sameHome (a b : Origin) : Bool := match a, b with
  | .remote x _, .remote y _ => x == y
  | _, _ => decide (a = b)
/-- The pieces of a part: those of its group. -/
def mates (s : State) (p : Part) : List (Nat × Part) := s.parts.filter fun e => e.2.grp == p.grp && sameHome e.2.org p.org

/-- All pieces of a part end with a code. -/
def refusePieces (s : State) (g : List (Nat × Part)) (code : Nat) : State :=
  g.foldl (fun (t : State) e => (if code = Code.tileLate then t.lateOutcome e.2.region else t).partDone e.1 code) s

/-- Take a part through admission once all its pieces are here and its turn in order has come (R22, R128): check 5, unless it is a
program's or has passed it before (R26, R162), then check 6, for all its pieces together. A held read waits at the fence, a held write for
its next try. -/
def admission (s : State) (pid : Nat) : State :=
  match s.parts.at? pid with
  | none => s
  | some p =>
    if p.st ≠ .waiting ∨ p.onHold = true ∨ p.kind = .tile ∨ p.kind = .invoke then s
    else if p.dev ≠ s.index then s.sendAway pid p
    else
      let g := (s.mates p).filter fun e => e.2.st == .waiting && e.2.dev == s.index
      let checked := p.passed || boundPart p
      if (!checked && decide ((s.mates p).length < p.cnt)) || s.admissionHeld || (g.any fun e => e.2.onHold || s.writeBlocked e.1 e.2)
      then s
      else if !checked && (!s.regionValid p.region || s.f F.REG_STATE_REVOKE_STATE p.region != 0) then s.refusePieces g Code.revoked
      else match g.findSome? fun e => (match s.check6 e.2 with
          | .fail c => some c
          | _ => none) with
        | some c => s.refusePieces g c
        | none =>
          let held := g.any fun e => s.check6 e.2 == .hold
          let s := g.foldl (fun (t : State) e => t.onPart e.1 fun q =>
            { q with passed := true, st := if held && q.kind == .read then .heldRead else q.st }) s
          if held then s
          else g.foldl (fun (t : State) e => match t.parts.at? e.1 with
            | some q => t.serve e.1 q
            | none => t) s

/-- A part that was held is taken up: a read at the fence passes check 6 again; one that was admitted is performed, in its order. -/
def takeUp (s : State) (pid : Nat) : State :=
  match s.parts.at? pid with
  | none => s
  | some p =>
    if p.onHold ∨ s.admissionHeld = true ∨ p.kind = .tile ∨ p.kind = .invoke then s
    else match p.st with
      | .waiting => s.admission pid
      | .heldRead => match s.check6 p with
        | .hold => s
        | .fail c => s.refusePieces [(pid, p)] c
        | .pass => s.serve pid p
      | .heldSeal => s.performPart pid p
      | .heldFull | .heldHeal _ =>
        if s.writeBlocked pid p ∨ s.tstate = TS.holding then s else s.serve pid p
      | _ => s

/-- Take up parts that were held, in the order of their numbers (R41, R58, R62, R335). -/
def retryParts (s : State) (which : Part → Bool) : State :=
  (s.parts.filter fun e => which e.2).foldl (fun t e => t.takeUp e.1) s

/-- The reads that wait for a seal record are performed as far as they may be (R429). -/
def retrySealed (s : State) : State := s.retryParts fun p => p.st == .heldSeal

/-- Split the bytes `off` to `off + n − 1` of a region into the pieces that lie on one device: at granule boundaries, each
with the device that holds it (R128). -/
def splitRange (s : State) (r : Nat) (rd : Bool) : Nat → Nat → Nat → List (Nat × Nat × Nat)
  | 0, _, _ => []
  | fuel + 1, off, n =>
    if n = 0 then []
    else
      let k := Nat.min n (granBytes - off % granBytes)
      (if rd then s.readDev r off else s.leadDev r off, off, k) :: splitRange s r rd fuel (off + k) (n - k)

end State

end Sys2Proof.Machine
end

