-- ==== Sys2Proof/Machine/Engine.lean ====
section
/-! DEFINITION. The machine that a Smiga program sees (R150 to R168, R184 to R189): registers, the instruction word, issuing an
instruction of a thread, ending a program, handles and effective addresses, and loads and stores through them. -/

namespace Sys2Proof.Machine

/-! Registers (R150, R187). -/

namespace Thread

/-- g[a]; g0 reads 0. -/
def rg (h : Thread) (a : GReg) : U64 := if a = 0 then 0 else h.g[a.toNat]'(a.isLt)
/-- Write g[d]; a write to g0 is discarded. -/
def wg (h : Thread) (d : GReg) (x : U64) : Thread := if d = 0 then h else { h with g := h.g.set d.toNat x d.isLt }
def rv (h : Thread) (a : VReg) : BitVec 512 := h.v[a.toNat]'(a.isLt)
def wv (h : Thread) (d : VReg) (x : BitVec 512) : Thread := { h with v := h.v.set d.toNat x d.isLt }
def rh (h : Thread) (a : HReg) : Handle := h.h[a.toNat]'(a.isLt)
def wh (h : Thread) (d : HReg) (x : Handle) : Thread := { h with h := h.h.set d.toNat x d.isLt }
/-- Leave the instruction: its charge, the next pc. A thread whose timeout has passed in a wait stops here (R176). -/
def goto (h : Thread) (cost pc : Nat) : Thread :=
  { h with charged := h.charged + cost, pc := pc, ended := if h.timedOut then some ⟨Code.programBudget, 0, 0⟩ else h.ended }
def adv (h : Thread) (cost : Nat) : Thread := h.goto cost (h.pc + 1)

end Thread

/-- The second register of a pair (R187). -/
def pairReg (a : GReg) : GReg := a + 1

/-- imm32 as a signed and as an unsigned 64-bit value (R186). -/
def sext (i : Imm) : U64 := i.signExtend 64
def zext (i : Imm) : U64 := i.setWidth 64

/-- The bytes of a line register, byte 0 first, and back. -/
def lineOfBytes (bs : List Byte) : BitVec 512 := BitVec.ofNat 512 (ofBytes bs)
def bytesOfLine (v : BitVec 512) : List Byte := toBytes 64 v.toNat

/-- An instruction word from its fields (R184). -/
def iword (op d a b h m : Nat) (imm : Imm) : U64 :=
  BitVec.ofNat 64 ((op <<< 56) ||| (d <<< 51) ||| (a <<< 46) ||| (b <<< 41) ||| (h <<< 38) ||| (m <<< 32) ||| imm.toNat)

namespace State

def thread? (s : State) (t : Nat) : Option Thread := s.eng.threads.at? t
def setThread (s : State) (t : Nat) (h : Thread) : State :=
  { s with eng := { s.eng with threads := s.eng.threads.put t h } }

/-- The parts of a thread that are not complete, writes only (R160), and whether a durable one is among them. -/
def partsOf (s : State) (t : Nat) : SMap Part := s.parts.filter fun e => decide (e.2.org = .thread t)
def storesPending (s : State) (t : Nat) : Bool :=
  (s.partsOf t).any fun e => e.2.kind == .write && !(e.2.st == .done) && s.isDurable e.2.region

/-- The status word (R150). -/
def status (s : State) (t : Nat) (h : Thread) : U64 :=
  BitVec.ofNat 64 ((b2n h.ctl <<< 62) ||| (b2n h.tx.isSome <<< 61) ||| (h.loops.length <<< 58) ||| (b2n h.unmir <<< 57) |||
    (b2n (s.storesPending t) <<< 56) ||| ((if h.ctl then 0 else h.dom) <<< 32) ||| (h.charged % 2 ^ 21))

/-- The program of a thread has ended (R177). -/
def endThread (s : State) (t : Nat) (h : Thread) (e : End) : State := s.setThread t { h with ended := some e }

/-- A device fault (R189, R211): the instruction has no effect; the program ends. -/
def fault (s : State) (t : Nat) (h : Thread) (code : Nat) : State := s.endThread t h ⟨Code.programFault, code, 0⟩

/-- The word at a thread's pc has an uncorrectable error in program memory (R211). -/
def wordBad (s : State) (h : Thread) : Bool := !h.old && s.eng.badWords.contains (h.slot, h.pc)
/-- Issue the instruction word `w` on thread `t`: nothing happens unless the thread runs a program that has not ended and has
that word at its pc. One that cannot be read faults (R211). -/
def issue (s : State) (t : Nat) (w : U64) (k : Thread → State) : State :=
  match s.thread? t with
  | some h =>
    if h.ended.isNone && h.img[h.pc]? == some w then (if s.wordBad h then s.fault t h 0x01 else k h) else s
  | none => s

/-- An instruction that changes registers only. -/
def regs (s : State) (t : Nat) (w : U64) (cost : Nat) (f : Thread → Thread) : State :=
  s.issue t w fun h => s.setThread t ((f h).adv cost)

/-! Handles and effective addresses (R156, R188). -/

/-- The buffer a handle names and its size. -/
def bufSize (s : State) (b : Nat) : Nat := s.poolSize (poolOf b)

/-- A right that an instruction needs. -/
inductive Right where
  | read | write | atomic
  deriving DecidableEq, Repr

/-- Rights and length of a handle; none for one that is invalid or of another kind. -/
def handleSpan (s : State) (x : Handle) : Option (Nat × Bool × Bool × Bool) :=
  match x with
  | .region _ _ _ len rd wr at_ => some (len, rd, wr, at_)
  | .buffer b rd wr => if (s.buf? b).isSome then some (s.bufSize b, rd, wr, false) else none
  | _ => none

/-- ea of the instruction reference (R188): the offset within the handle, or the first fault that holds (R189). -/
def ea (s : State) (x : Handle) (off : U64) (n : Nat) (right : Right) (align : Nat) : Nat ⊕ Nat :=
  match s.handleSpan x with
  | none => .inr 0x04
  | some (len, rd, wr, at_) =>
    if !(match right with
      | .read => rd
      | .write => wr
      | .atomic => at_) then .inr 0x03
    else if off.toInt < 0 ∨ len < off.toNat + n then .inr 0x02
    else if off.toNat % align ≠ 0 then .inr 0x07
    else .inl off.toNat

/-- The bytes of a buffer; what was never written reads 0 (R201). -/
def bufRead (s : State) (b off n : Nat) : List Byte :=
  match s.buf? b with
  | some x => (List.range n).map fun i => x.data.getD (off + i) 0
  | none => List.replicate n 0
def bufWrite (s : State) (b off : Nat) (bs : List Byte) : State :=
  match s.buf? b with
  | some x =>
    let old := x.data ++ List.replicate (off + bs.length - x.data.length) 0
    let x' : Buf := { x with data := old.take off ++ bs ++ old.drop (off + bs.length) }
    { s with bufs := s.bufs.put b x' }
  | none => s

/-! Loads through a region handle (R157, R158, R162, R164). -/

/-- The region byte of byte `o` of a region handle. A handle of a control program is bound to device offsets (R180): bits [43:0] of
`o` count from the region's BASE on one pair, the bits above name that pair's place in the region. -/
def regByte (s : State) (dom : Option (Nat × Nat)) (r o : Nat) : Nat :=
  match dom with
  | some _ => o
  | none =>
    let x := o % 2 ^ 44
    (x / granBytes * s.regionK r + o / 2 ^ 44) * granBytes + x % granBytes

/-- The pieces of `n` bytes of a region handle from byte `o`, cut at granules: device, region byte, length. -/
def handlePieces (s : State) (dom : Option (Nat × Nat)) (r : Nat) (rd : Bool) : Nat → Nat → Nat → List (Nat × Nat × Nat)
  | 0, _, _ => []
  | fuel + 1, o, n =>
    if n = 0 then []
    else
      let k := Nat.min n (granBytes - o % granBytes)
      let b := s.regByte dom r o
      (if rd then s.readDev r b else s.leadDev r b, b, k) :: handlePieces s dom r rd fuel (o + k) (n - k)

/-- What a load finds: bytes, the bytes before a piece that holds a poisoned line, nothing yet, or the end of the program; with the
state it leaves. -/
inductive Got where
  | ok (bs : List Byte) (s : State)
  | bad (bs : List Byte) (s : State)
  | wait (s : State)
  | stop (s : State)

/-- A store has been applied at its lead, as far as this device knows. -/
def storeApplied (p : Part) : Bool := p.st == .done || p.st == .admitted
/-- The thread's stores to the granule of a region byte, in program order. -/
def storesTo (s : State) (t r off : Nat) : SMap Part :=
  (s.partsOf t).filter fun e => e.2.kind == .write && e.2.region == r && e.2.off / granBytes == off / granBytes

/-- The thread's own stores from the first that has not been applied, in program order, over bytes read (R157). -/
def overlay (s : State) (t r off : Nat) (bs : List Byte) : List Byte :=
  ((s.storesTo t r off).dropWhile fun e => storeApplied e.2).foldl (fun acc e =>
    (acc.zip (List.range acc.length)).map fun (b, i) =>
      if e.2.off ≤ off + i ∧ off + i < e.2.off + e.2.len then e.2.data.getD (off + i - e.2.off) b else b) bs
/-- Stores of a thread that are complete and behind no store to their granule that is still to be applied are forgotten. -/
def forgetStores (s : State) (t : Nat) : State :=
  { s with parts := s.parts.filter fun e => !(decide (e.2.org = .thread t) && e.2.kind == .write && e.2.st == .done && e.2.code == 0 &&
      (s.storesTo t e.2.region e.2.off).all fun x => decide (e.1 ≤ x.1) || storeApplied x.2) }

/-- Enter lines into the read set of the open group (R164): each with the count of writes to it. -/
def addReads (x : Tx) (ls : List (Nat × Nat)) : Tx :=
  { x with reads := ls.foldl (fun m e => if (m.at? e.1).isSome then m else m.put e.1 e.2) x.reads }

/-- The group's granule rule (R163, R164, R194): the fault of an access to bytes of a region inside an open group. -/
def txFault (s : State) (h : Thread) (r off n : Nat) (load : Bool) : Bool :=
  match h.tx with
  | none => false
  | some x =>
    let g := off / granBytes
    let lines := lineUnion (x.reads.map Prod.fst ++ (linesOf (off % granBytes) n))
    n != 0 && (s.regionClass r == Cls.log || s.regionClass r == Cls.stream || decide ((off + n - 1) / granBytes ≠ g) ||
      (match x.gran with
        | some y => decide (y ≠ (r, g))
        | none => false) || (load && decide (64 < lines.length)))

/-- One piece of a load on this device. -/
def loadHere (s : State) (t : Nat) (h : Thread) (r off n : Nat) : Got :=
  let (_, d) := s.place r off
  if s.admissionHeld then .wait s else
  match s.admit6 r off false with
  | .hold => .wait s
  | .fail c => .stop ((if c = Code.tileLate then s.lateOutcome r else s).endThread t h ⟨c, 0, 0⟩)
  | .pass =>
    let s := s.lookUp (s.isDurable r) (linesOf d n)
    if s.sealWaits r off n then .wait s else
    match s.stopLine d n false with
    | some l => if s.isDurable r && !(h.healWait == some (l, true)) then .wait ((s.askHeal l).setThread t { h with healWait := some (l, false) })
      else .bad [] s
    | none =>
      let s := (linesOf d n).foldl (fun u l => if u.regionClass r = Cls.stream then u.cacheReadPinned l else u.cacheRead l (granEnd l)) s
      .ok (s.readDram d n) s

/-- The thread's read part for a piece on another device. -/
def findRead (s : State) (t r off n : Nat) : Option (Nat × Part) :=
  (s.partsOf t).find? fun e => e.2.kind == .read && decide (e.2.region = r ∧ e.2.off = off ∧ e.2.len = n)

def newPart (org : Origin) (kind : PartKind) (dev r off n : Nat) (data data2 : List Byte) : Part :=
  ⟨org, kind, dev, r, off, n, data, data2, none, 0, [], [], .waiting, 0, 0, [], false, false, 0, 0, 0, false, 0, 1, false, false,
    none, false⟩

/-- One piece of a load on another device (R158): ask for it, wait, then take the answer. -/
def loadAway (s : State) (t : Nat) (h : Thread) (dev r off n : Nat) : Got :=
  match s.findRead t r off n with
  | none =>
    let p := newPart (.thread t) .read dev r off n [] []
    .wait ((s.addPart p).admission s.nextPart)
  | some (pid, p) =>
    if p.st = .done then
      let s := { s with parts := s.parts.del pid }
      if p.code = 0 then .ok p.rdata s
      else if p.code = Code.poisoned then .bad [] s
      else .stop (s.endThread t h ⟨p.code, 0, 0⟩)
    else .wait s

/-- The pieces of a load in turn; those on other devices are all asked for before the first is waited for. -/
def loadPieces (s : State) (t : Nat) (h : Thread) (r : Nat) : List (Nat × Nat × Nat) → List Byte → Bool → Got
  | [], acc, waits => if waits then .wait s else .ok acc s
  | (dev, off, n) :: rest, acc, waits =>
    let got : Got :=
      if dev = s.index then s.loadHere t h r off n
      else match s.findRead t r off n with
        | some (_, p) => if waits || p.st != .done then .wait s else s.loadAway t h dev r off n
        | none => s.loadAway t h dev r off n
    match got with
    | .ok bs s => loadPieces s t h r rest (acc ++ s.overlay t r off bs) waits
    | .bad _ s => if waits then .wait s else .bad acc s
    | .wait s => loadPieces s t h r rest acc true
    | .stop s => .stop s
/-- Cut pieces at lines. -/
def cutLines (l : List (Nat × Nat × Nat)) : List (Nat × Nat × Nat) :=
  l.flatMap fun (dev, off, n) => (linesOf off n).map fun x =>
    let a := Nat.max off (64 * x)
    (dev, a, Nat.min (off + n) (64 * x + 64) - a)
/-- What is left of a thread's reads of other devices goes with the instruction. -/
def forgetReads (s : State) (t : Nat) : State :=
  { s with parts := s.parts.filter fun e => !(decide (e.2.org = .thread t) && e.2.kind == .read) }

/-- The staged bytes of the open group over bytes read from its granule (R157, R164). -/
def txOverlay (x : Tx) (off : Nat) (bs : List Byte) : List Byte :=
  (bs.zip (List.range bs.length)).map fun (b, i) => (x.staged.at? (off % granBytes + i)).getD b

/-- The count of writes to the lines of a piece, as the lead knows it. -/
def readSetOf (s : State) (r off n : Nat) : List (Nat × Nat) :=
  (linesOf (off % granBytes) n).map fun l =>
    (l, s.dram.ver.get 0 ((s.place r (off - off % granBytes)).2 / 64 + l))

/-- A store of the thread to a granule has not been applied at its lead. -/
def ownStoreDue (s : State) (t r off : Nat) : Bool := (s.storesTo t r off).any fun e => !storeApplied e.2

/-- Load `n` bytes at a target that `ea` has passed, line by line where `bulk` asks for it: what `k` gets is all of them, or the bytes
before a poisoned line. Inside a group the lead serves once the thread's earlier stores to the granule are applied there, so that only
another writer changes its lines after the load (R165), and each line enters the read set; a lead on another device serves whole lines
one by one and reports each line's count of writes with it. -/
def loadTo (s : State) (t : Nat) (h : Thread) (x : Handle) (off n : Nat) (bulk : Bool)
    (k : List Byte → Bool → Thread → State → State) : State :=
  match x with
  | .buffer b _ _ => k (s.bufRead b off n) false h s
  | .region dom r base _ _ _ _ =>
    let lin := base + off
    let o := s.regByte dom r lin
    let cut (l : List (Nat × Nat × Nat)) : List (Nat × Nat × Nat) := if bulk then cutLines l else l
    if n = 0 then k [] false h s
    else match h.tx with
    | none =>
      match s.loadPieces t h r (cut (s.handlePieces dom r true (n / granBytes + 2) lin n)) [] false with
      | .ok bs s => k bs false h s
      | .bad bs s => k bs true { h with healWait := none } s
      | .wait s => s
      | .stop s => s
    | some x =>
      if s.txFault h r o n true then s.fault t h 0x08
      else if s.ownStoreDue t r o then s
      else
        let lead := s.leadDev r o
        let first := o / 64 * 64
        let cnt := (linesOf o n).length
        let here := lead = s.index
        let pieces := if here then cut [(lead, o, n)] else (List.range cnt).map fun i => (lead, first + 64 * i, 64)
        let vers := if here then s.readSetOf r o n
          else (List.range cnt).map fun i => ((first + 64 * i) % granBytes / 64,
            match s.findRead t r (first + 64 * i) 64 with
            | some (_, p) => p.result.toNat
            | none => 0)
        let tx' := addReads { x with gran := some (r, o / granBytes) } vers
        let mine (bs : List Byte) : List Byte := txOverlay tx' o (if here then bs else (bs.drop (o - first)).take n)
        match s.loadPieces t h r pieces [] false with
        | .ok bs s => k (mine bs) false { h with tx := some tx' } s
        | .bad bs s => k (mine bs) true { h with tx := some tx', healWait := none } s
        | .wait s => s
        | .stop s => s
  | _ => s.fault t h 0x04

/-- Load `n` bytes; a poisoned line faults (R162). -/
def load (s : State) (t : Nat) (h : Thread) (x : Handle) (off n : Nat) (k : List Byte → Thread → State → State) : State :=
  s.loadTo t h x off n false fun bs bad h s => if bad then s.fault t h 0x06 else k bs h s

/-- Store bytes at a target that `ea` has passed (R159, R164): into the buffer, into the open group, or as write parts, one
for each granule, applied here at once where this device leads. -/
def store (s : State) (t : Nat) (h : Thread) (x : Handle) (off : Nat) (bs : List Byte) (k : Thread → State → State) : State :=
  match x with
  | .buffer b _ _ => k h (s.bufWrite b off bs)
  | .region dom r base _ _ _ _ =>
    let lin := base + off
    let o := s.regByte dom r lin
    if bs.isEmpty then k h s
    else match h.tx with
    | some x =>
      if s.txFault h r o bs.length false then s.fault t h 0x08
      else
        let st := (bs.zip (List.range bs.length)).foldl (fun m (b, i) => m.put (o % granBytes + i) b) x.staged
        k { h with tx := some { x with gran := some (r, o / granBytes), staged := st } } s
    | none =>
      let pieces := s.handlePieces dom r false (bs.length / granBytes + 2) lin bs.length
      match pieces.findSome? fun (dev, off', n) => if dev = s.index then
          (match s.admit6 r off' true with
            | .fail c => some c
            | _ => if s.isVolatile r && (s.stopLine (s.place r off').2 n true).isSome then some Code.poisoned else none)
          else if s.deadEnd dev r then some Code.unavailable else none with
      | some c => if c = Code.poisoned then s.fault t h 0x06 else s.endThread t h ⟨c, 0, 0⟩
      | none =>
        let (s, _) := pieces.foldl (fun (acc : State × List Byte) e =>
          let (u, left) := acc
          let (dev, off', n) := e
          ((u.addPart (newPart (.thread t) .write dev r off' n (left.take n) [])).admission u.nextPart, left.drop n)) (s, bs)
        let s := s.forgetStores t
        if (s.thread? t).any fun x => x.ended.isSome then s else k h s
  | _ => s.fault t h 0x04

/-- A request of the thread that the lead answers (R161, R165): make the part once, then wait until it is done, and take it. -/
def request (s : State) (t : Nat) (h : Thread) (p : Part) (k : Part → Thread → State → State) : State :=
  let mine := (s.partsOf t).find? fun e => partAtomic e.2.kind || e.2.kind == .group || e.2.kind == .seal
  let (pid, s) := match mine with
    | some (pid, _) => (pid, s)
    | none =>
      let pid := s.nextPart
      let u := s.addPart p
      (pid, u.admission pid)
  match s.parts.at? pid with
  | some q =>
    if q.st = .done then
      let s := { s with parts := s.parts.del pid }
      if q.code = 0 then k q h s
      else if q.code = Code.poisoned then s.fault t h 0x06
      else s.endThread t h ⟨q.code, 0, 0⟩
    else s
  | none => s

end State

end Sys2Proof.Machine
end

