-- ==== Sys2Proof/Machine/Queues.lean ====
section
/-! DEFINITION. Queues: the checks of an access (R22), the packets a queue sends (R82, R89, R100), completion entries (R120 to
R122), fiddleheads (R137 to R141), the error log (R133), and the freeze, error and closing of a queue (R131, R142, R143). -/

namespace Sys2Proof.Machine

/-- A part of a read has reached the host's queue: packet types of braid mode (R82). -/
def Pkt.write : Nat := 1
def Pkt.readReq : Nat := 2
def Pkt.readResp : Nat := 3
def Pkt.capsule : Nat := 4
def Pkt.hostWrite : Nat := 5
def Pkt.sack : Nat := 6
def Pkt.echo : Nat := 7
def Pkt.rnr : Nat := 8
def Pkt.atomic : Nat := 9
def Pkt.done : Nat := 10

/-- What the device sends in compatible mode (R92): ACK, atomic ACK, NAK (0 sequence, 1 access, 2 invalid, 3 operational, 4
RNR), read response, RDMA WRITE, CNP. -/
def Roce.ack : Nat := 1
def Roce.atomicAck : Nat := 2
def Roce.nak : Nat := 3
def Roce.readResp : Nat := 4
def Roce.rdmaWrite : Nat := 5
def Roce.cnp : Nat := 6

/-- The queue states (R142). -/
def QS.free : Nat := 0
def QS.ready : Nat := 1
def QS.frozen : Nat := 2
def QS.error : Nat := 3
def QS.closing : Nat := 4

/-- The capsule opcodes (R116). -/
def Op.read : Nat := 0x01
def Op.write : Nat := 0x02
def Op.writeAtomic : Nat := 0x03
def Op.compareWrite : Nat := 0x04
def Op.fetchAdd : Nat := 0x05
def Op.invoke : Nat := 0x08
def Op.abort : Nat := 0x09
def Op.append : Nat := 0x0A
def Op.tileRead : Nat := 0x10
def Op.segmentRelease : Nat := 0x11
def Op.elogRead : Nat := 0x1E
def Op.queueRestart : Nat := 0x1F

/-- What an operation asks of a mapping and a class (R12, R22 checks 3 and 4). -/
inductive Need where
  | read | write | atomic | append | invoke | tile
  deriving DecidableEq, Repr

/-- Check 4 of R22: the class permits the operation (R12, R152, R288). -/
def classAllows (n : Need) (cls : Nat) : Bool := match n with
  | .read => true
  | .write => cls == Cls.durable || cls == Cls.volatile
  | .atomic => cls == Cls.durable || cls == Cls.volatile
  | .append => cls == Cls.log
  | .invoke => cls != Cls.stream
  | .tile => cls == Cls.stream

/-- An empty queue context. -/
def Queue.empty : Queue :=
  ⟨[], [], [], [], [], 0, [], 0, [], 0, 0, [], [], 0, 0, none, [], 0, [], [], 0, false, [], false, 0⟩

/-- The field of a capsule. -/
def Cmd.q (c : Cmd) (i : Nat) : Nat := (c.qw.getD i 0).toNat
def Cmd.op (c : Cmd) : Nat := bits (c.q 0) 7 0
def Cmd.fence (c : Cmd) : Bool := bit (c.q 0) 8
def Cmd.length (c : Cmd) : Nat := bits (c.q 0) 63 32
/-- The classes of commands that R123 orders. -/
def Cmd.writeClass (c : Cmd) : Bool :=
  [Op.write, Op.writeAtomic, Op.compareWrite, Op.fetchAdd, Op.append].contains c.op
def Cmd.readClass (c : Cmd) : Bool := c.op == Op.read || c.op == Op.tileRead

/-- A rate context serves a destination, its own or one that shares it (R100). -/
def RateCtx.serves (c : RateCtx) (d : Nat) : Bool := c.dest == d || c.shared.contains d

/-- The byte chunks that a message is cut into: offset and bytes. -/
def cut (size : Nat) : Nat → Nat → List Byte → List (Nat × List Byte)
  | 0, _, _ => []
  | fuel + 1, off, bs => if bs.isEmpty then [] else (off, bs.take size) :: cut size fuel (off + size) (bs.drop size)

namespace State

/-! Queue contexts. -/

def setQueue (s : State) (q : Nat) (x : Queue) : State := { s with queues := s.queues.put q x }
def onQueue (s : State) (q : Nat) (f : Queue → Queue) : State := { s with queues := s.queues.modify q f }
def qState (s : State) (q : Nat) : Nat := s.f F.Q_STATUS_STATE q
/-- The local queue of a device queue number homed here. -/
def homed (s : State) (dq : Nat) : Option Nat :=
  if dq / 2 ^ 19 = s.index ∧ dq % 2 ^ 19 < 270336 then some (dq % 2 ^ 19) else none
def isBraid (s : State) (q : Nat) : Bool := s.f F.Q_CTL_MODE q == 0
def qDomain (s : State) (q : Nat) : Nat := s.f F.Q_CTL_DOMAIN q
def qDepth (s : State) (q : Nat) : Nat := s.f F.Q_CTL_QDEPTH_M1 q + 1
/-- The host's address and the source queue a packet goes to. -/
def peerIp (s : State) (q : Nat) : Nat := s.f F.Q_PEER_HI_PEER_IP q * 2 ^ 64 + s.f F.Q_PEER_HI_PEER_IP q 1
def armed (s : State) (q : Nat) : Nat := (s.fiddles.filter fun e => e.2.q == q).length
/-- Tagged fiddleheads of a queue (actions 2 and 3). -/
def fiddleTag (f : Fiddle) : Nat := bits (f.desc.getD 0 0).toNat 31 16
def fiddleAction (f : Fiddle) : Nat := bits (f.desc.getD 0 0).toNat 15 8
def fiddleTagged (f : Fiddle) : Bool := fiddleAction f == 2 || fiddleAction f == 3
/-- Tags that programs started by fiddleheads of this queue still hold (R137). -/
def firedTags (s : State) (q : Nat) : List Nat :=
  (s.eng.threads.vals.filterMap fun h => match h.start with
    | .fiddle q' _ tag => if q' = q then some tag else none
    | _ => none) ++ ((s.eng.waiting ++ s.eng.ingress).filterMap fun i => match i.start with
    | .fiddle q' _ tag => if q' = q then some tag else none
    | _ => none)
/-- The tags in use on a queue (R114, R137). -/
def tagsInUse (s : State) (q : Nat) : List Nat :=
  (match s.queue? q with
    | some x => x.cmds.map (·.tag)
    | none => []) ++ ((s.fiddles.vals.filter fun f => f.q == q && fiddleTagged f).map fiddleTag) ++ s.firedTags q
/-- Bring the counts of Q_STATUS and Q_FH up to date. -/
def qCounts (s : State) (q : Nat) : State :=
  (s.setF F.Q_STATUS_IN_USE (s.tagsInUse q).length q).setF F.Q_FH_ARMED_FH (s.armed q) q

/-! Domains and mappings (R19 to R22). -/

def mapWord (dom m j : Nat) : Nat := wkey 5 dom (8 + 3 * m + j)
/-- The valid mapping of a domain that holds an address (R19): its number. One whose region has become invalid holds none (R47). -/
def findMap (s : State) (dom addr : Nat) : Option Nat :=
  (List.range 1024).find? fun m =>
    s.flag F.MAP_VA_MVALID dom (3 * m) && s.regionValid (s.f F.MAP_TGT_REGION dom (3 * m)) && decide (s.f F.MAP_VA_DBASE dom (3 * m) ≤ addr / granBytes ∧
      addr / granBytes < s.f F.MAP_VA_DBASE dom (3 * m) + s.f F.MAP_LEN_NGRAN dom (3 * m))
/-- Region, region byte and bytes to the mapping's end of an address in mapping `m` (R23). -/
def mapPlace (s : State) (dom m addr : Nat) : Nat × Nat × Nat :=
  let rel := addr - s.f F.MAP_VA_DBASE dom (3 * m) * granBytes
  (s.f F.MAP_TGT_REGION dom (3 * m), s.f F.MAP_TGT_RGRAN dom (3 * m) * granBytes + rel,
    s.f F.MAP_LEN_NGRAN dom (3 * m) * granBytes - rel)
/-- Check 3 of R22. -/
def mapRight (s : State) (dom m : Nat) (n : Need) : Bool := match n with
  | .read => s.flag F.MAP_VA_READ dom (3 * m)
  | .tile => s.flag F.MAP_VA_READ dom (3 * m)
  | .write => s.flag F.MAP_VA_WRITE dom (3 * m)
  | .append => s.flag F.MAP_VA_WRITE dom (3 * m)
  | .atomic => s.flag F.MAP_VA_ATOMIC dom (3 * m)
  | .invoke => s.flag F.MAP_VA_INVOKE dom (3 * m)

/-- Check 1 of R22: the key of the queue's domain in the form the queue uses (R20, R21). -/
def keyGood (s : State) (q : Nat) (key : Nat) : Bool :=
  let dom := s.qDomain q
  s.flag F.DOM_CTL_VALID dom &&
    if s.isBraid q then decide (key = (s.word (F.DOM_KEY64_DOMAIN.key dom 0)).toNat)
    else s.flag F.DOM_CTL_COMPAT_EN dom && decide (key = (s.word (F.DOM_KEY32_DOMAIN.key dom 0)).toNat % 2 ^ 32)

/-- Checks 1 to 4 of R22 for `len` bytes at a domain address, then the port's DURABLE_EN bit (`durable`): the code, and where
the bytes lie (`Tgt`). Counters and per-reach events follow. -/
def checkAccess (s : State) (q key addr len : Nat) (n : Need) (durable : Bool) : State × Nat × Option Tgt :=
  let dom := s.qDomain q
  if !s.keyGood q key then
    ((s.bump F.DOM_STATS_KEY_FAILS dom).reachEvent 0x0205 dom [dom, s.dqn q], Code.access, none)
  else match s.findMap dom addr with
    | none => (s.bump F.DOM_STATS_BOUNDS_FAILS dom, Code.bounds, none)
    | some m =>
      let (r, off, left) := s.mapPlace dom m addr
      if left < len then (s.bump F.DOM_STATS_BOUNDS_FAILS dom, Code.bounds, none)
      else if !s.mapRight dom m n then (s, Code.access, none)
      else if !classAllows n (s.regionClass r) then (s, Code.access, none)
      else if s.isDurable r && !durable then (s, Code.unavailable, some ⟨r, off, left, m⟩)
      else (s, 0, some ⟨r, off, left, m⟩)
/-- Check 1 alone (R117). -/
def checkKey (s : State) (q key : Nat) : State × Nat × Option Tgt :=
  if s.keyGood q key then (s, 0, none)
  else ((s.bump F.DOM_STATS_KEY_FAILS (s.qDomain q)).reachEvent 0x0205 (s.qDomain q) [s.qDomain q, s.dqn q], Code.access, none)

/-! Host ports (R78, R109). -/

/-- Bit `i` of a per-port field of an octet; a port is 8n + i. -/
def portBit (s : State) (x : Fld) (port : Nat) : Bool := bit (s.f x (port / 8)) (port % 8)
def setPortBit (s : State) (x : Fld) (port : Nat) (v : Bool) : State :=
  let w := s.f x (port / 8)
  s.setF x (setBits w (port % 8) (port % 8) (b2n v)) (port / 8)
/-- The ports of an octet's mode (R78). -/
def portCount (s : State) (octet : Nat) : Nat := 2 ^ s.f F.LNK_CTL_PORT_MODE octet
/-- A host port: its octet is HOST, it is enabled and its number is one of the mode's. -/
def portOn (s : State) (port : Nat) : Bool :=
  decide (port < 96) && s.f F.LNK_CTL_ROLE (port / 8) == 1 && decide (port % 8 < s.portCount (port / 8)) &&
    s.portBit F.LNK_CTL_PORT_EN port

/-! Pauses for the eddy buffer (R104). -/

/-- Free space of the eddy in units of 256 B. -/
def eddyFree (s : State) : Nat := s.f F.POOL_CTL_COUNT 2 - s.f F.POOL_STATUS_ALLOCATED 2
/-- Send a PFC frame for PFC_PRIO (R104): port, on. -/
def sendPfc (s : State) (port : Nat) (on : Bool) : State :=
  (((s.emit ⟨.ether, port, [8, s.f F.LNK_CTL_PFC_PRIO (port / 8), b2n on], []⟩).setPortBit F.LNK_STATUS_EDDY_XOFF port on).bump
    F.LNK_PAUSE_PAUSE_TX (port / 8))
/-- The ports paused for the eddy are released once its free space reaches EDDY_XON. -/
def eddyXon (s : State) : State :=
  if s.f F.TP_EDDY_EDDY_XON * 4 ≤ s.eddyFree then
    (List.range 96).foldl (fun t p => if t.portBit F.LNK_STATUS_EDDY_XOFF p then t.sendPfc p false else t) s
  else s
/-! Sending (R80, R82, R89, R92, R95, R99, R100, R145). -/

/-- The enabled ports that may carry a queue's packets (R145). -/
def txPorts (s : State) (q : Nat) : List Nat :=
  (List.range 48).filter fun i => bit (s.f F.Q_PORTS_TX_PORTS q) i && s.portOn i
/-- No port can carry a packet: it goes out of none, and reaches the host with its retransmission (DESIGN CHOICE). -/
def noPort : Nat := 255
/-- The port of a path: braid mode sprays over all ports of the queue (R145), path by path (DESIGN CHOICE). -/
def pathTx (s : State) (q p : Nat) : Nat := (s.txPorts q).getD (p % (s.txPorts q).length) noPort
/-- The port of a compatible-mode queue: the lowest enabled one (R145). -/
def compatTx (s : State) (q : Nat) : Nat := (s.txPorts q).headD noPort
/-- How a packet travels to the host of a queue: port, MAC address of the next hop, 802.1Q tag (0 for none), traffic class of the IP
header with its ECN bits, and destination address (R80, R109, R145). -/
def wayTo (s : State) (q port pcp dscp ecn : Nat) : List Nat :=
  [port, s.f F.Q_PEER_L2_NEXT_MAC q,
    if s.flag F.Q_PEER_L2_VLAN_EN q then 0x8100 <<< 16 ||| pcp <<< 13 ||| s.f F.Q_PEER_L2_VID q else 0, dscp <<< 2 ||| ecn, s.peerIp q]
/-- ECT(0) of a data packet (R92, R99). -/
def ect0 : Nat := 2
def braidWay (s : State) (q port ecn : Nat) : List Nat :=
  s.wayTo q port (s.f F.LNK_CTL_BRAID_PCP (port / 8)) (s.f F.LNK_CTL_BRAID_DSCP (port / 8)) ecn
/-- The queue of the host (R82, R88). -/
def peerQn (s : State) (q : Nat) : Nat := s.f F.Q_PEER_Q_PEER_QN q
/-- A control frame of braid mode (R86, R88): its items before RQ and OQ, and RQ. -/
def sendCtl (s : State) (q rq : Nat) (items : List Nat) : State :=
  let port := s.pathTx q ((s.queue? q).elim 0 Queue.lastPath)
  s.emit ⟨.braid, q, items ++ [rq, s.dqn q] ++ s.braidWay q port 0, []⟩

/-- A packet of compatible mode (R92): kind, PSN and items, then the host's queue pair, and its way with ECT(0). -/
def compatMsg (s : State) (q : Nat) (items : List Nat) (data : List Byte) : Msg :=
  let port := s.compatTx q
  ⟨.compat, q, items ++ [s.peerQn q % 2 ^ 24] ++
    s.wayTo q port (s.f F.LNK_CTL_PFC_PRIO (port / 8)) (s.f F.LNK_CTL_COMPAT_DSCP (port / 8)) ect0, data⟩
/-- Send a packet of compatible mode; while the host holds its priority paused on the port, it waits (R95). -/
def sendRaw (s : State) (q : Nat) (m : Msg) : State :=
  let port := s.compatTx q
  if s.portBit F.LNK_STATUS_PORT_PAUSED port then { s with tp := { s.tp with paused := s.tp.paused ++ [(port, m)] } } else s.emit m
def sendCompat (s : State) (q : Nat) (items : List Nat) (data : List Byte) : State := s.sendRaw q (s.compatMsg q items data)
/-- A port is down: what waited for it is lost, and sent again as its acknowledgement fails to come. -/
def dropPaused (s : State) (port : Nat) : State :=
  { s with tp := { s.tp with paused := s.tp.paused.filter fun e => e.1 != port } }
/-- What waited for ports that are no longer paused goes (R95). -/
def sendPaused (s : State) : State :=
  let go (e : Nat × Msg) : Bool := !s.portBit F.LNK_STATUS_PORT_PAUSED e.1
  (s.tp.paused.filter go).foldl (fun t e => t.emit e.2) { s with tp := { s.tp with paused := s.tp.paused.filter fun e => !go e } }

/-- The rate in Gb/s of the lowest port that may carry a queue's packets, 1600 with none (DESIGN CHOICE). -/
def lineRate (s : State) (q : Nat) : Nat :=
  match (List.range 48).find? fun i => bit (s.f F.Q_PORTS_TX_PORTS q) i with
  | some i => 1600 / 2 ^ s.f F.LNK_CTL_PORT_MODE (i / 8)
  | none => 1600
/-- A destination's rate context is made at its first packet (R100); with none free, it shares that of the fastest one. -/
def rateTouch (s : State) (q : Nat) : State :=
  let d := s.peerIp q
  if !s.flag F.TP_CC2_CC_EN || s.rates.any (fun c => c.serves d) then s
  else if s.rates.length < 16384 then
    let line := s.lineRate q
    { s with rates := s.rates ++ [⟨d, line, line, (s.f F.TP_CC_BETA_MIN : Rat) / 256, 0, none, line, []⟩] }
  else
    let top := s.rates.foldl (fun (b : Rat × Nat) c => if b.1 < c.rate then (c.rate, c.dest) else b) (-1, 0)
    let share (c : RateCtx) : RateCtx := if c.dest = top.2 then { c with shared := c.shared ++ [d] } else c
    { s with rates := s.rates.map share }.event 0x0206 (w64 top.2)
/-- The next path in service after the last one used (R89). -/
def nextPath (s : State) (x : Queue) : Nat :=
  let n := s.f F.TP_BRAID_NPATHS_M1 + 1
  match (List.range n).find? fun i => !(x.paths.get ⟨none, none, false⟩ ((x.lastPath + 1 + i) % n)).held with
  | some i => (x.lastPath + 1 + i) % n
  | none => x.lastPath % n
/-- The UDP source port of a path (R89). -/
def pathPort (q p : Nat) : Nat := 0xC000 + (q * 64 + p) % 16384

/-- Send one braid data packet (R82) of queue `q`: type, tag, key, address, message length, packet offset, payload; ACK_REQ stands on the
last packet of a message (DESIGN CHOICE: the device pauses there). -/
def sendPacket (s : State) (q type tag key addr msgLen off send : Nat) (buf : Option Nat) (entry : Bool) (payload : List Byte) : State :=
  match s.queue? q with
  | none => s
  | some x =>
    let p := s.nextPath x
    let ack := decide (msgLen ≤ off + payload.length)
    let msg : Msg := ⟨.braid, q, [type, x.txNext, pathPort q p, 0, x.txMsn, tag, key, addr, msgLen, off, s.peerQn q, s.dqn q, s.time % 2 ^ 32,
      b2n ack] ++ s.braidWay q (s.pathTx q p) ect0, payload⟩
    let pkt : TxPkt := ⟨x.txNext, p, 1, s.time / 1000, send, buf, entry, msg⟩
    let x' : Queue := { x with tx := x.tx ++ [pkt], txNext := (x.txNext + 1) % 2 ^ 32, lastPath := p, lastUse := s.time }
    (s.setQueue q x').emit msg

/-- Send a message to the host: braid data packets, or RDMA WRITE packets in compatible mode, cut at the payload size. Every
packet holds the buffer `buf` until the host has acknowledged it (R199). A host key of compatible mode is its low 32 bits (R145). -/
def sendData (s : State) (q type tag key addr : Nat) (data : List Byte) (buf : Option Nat := none) (entry : Bool := false) : State :=
  match s.queue? q with
  | none => s
  | some x =>
    let s := s.rateTouch q
    let send := x.txNext
    if s.isBraid q then
      let size := 1024 <<< s.f F.TP_BRAID_BRAID_PAYLOAD
      let s := (cut size (data.length / size + 1) 0 data).foldl
        (fun t c => t.sendPacket q type tag key addr data.length c.1 send buf entry c.2) s
      s.onQueue q fun x => { x with txMsn := (x.txMsn + 1) % 65536 }
    else
      let size := 1024 <<< s.f F.TP_COMPAT_COMPAT_PMTU
      (cut size (data.length / size + 1) 0 data).foldl (fun t c =>
        match t.queue? q with
        | none => t
        | some x =>
          let msg := t.compatMsg q [Roce.rdmaWrite, x.txNext, key % 2 ^ 32, addr, data.length, c.1] c.2
          let pkt : TxPkt := ⟨x.txNext, 0, 1, t.time / 1000, send, buf, entry, msg⟩
          let x' : Queue := { x with tx := x.tx ++ [pkt], txNext := (x.txNext + 1) % 2 ^ 24, lastUse := t.time }
          (t.setQueue q x').sendRaw q msg) s

/-- The PSNs that a send has just used: those from `a` to the queue's next. -/
def psnsSince (s : State) (q a : Nat) : List Nat :=
  match s.queue? q with
  | some x => (x.tx.filter fun p => p.send == a).map (·.psn)
  | none => []

/-! Completion entries (R120, R121) and fiddleheads (R139, R140). -/

/-- The bytes of a completion entry. -/
def entryBytes (tag : Nat) (d : Done) (log2 n : Nat) : List Byte :=
  toBytes 8 ((d.len % 2 ^ 32) <<< 32 ||| (d.detail % 256) <<< 24 ||| (d.code % 256) <<< 16 ||| tag % 65536) ++
    toBytes 8 d.result.toNat ++ toBytes 8 d.map.toNat ++
    toBytes 8 (b2n (n / 2 ^ log2 % 2 == 0) <<< 63 ||| n % 2 ^ 32)

/-- Write the next completion entry of a queue for a tag, which is then no longer in use. -/
def entryWrite (s : State) (q tag : Nat) (d : Done) : State :=
  let n := s.f F.Q_SEQ_QSEQ_NEXT q
  let l := s.f F.Q_RING_CQ_LOG2 q
  let s := s.sendData q Pkt.hostWrite tag (s.f F.Q_CQ_KEY_CQ_KEY q) ((s.f F.Q_CQ_BASE_CQ_BASE q + 32 * (n % 2 ^ l)) % 2 ^ 64)
    (entryBytes tag d l n) none true
  let s := s.setF F.Q_SEQ_QSEQ_NEXT ((n + 1) % 2 ^ 32) q
  let s := if d.code = Code.twinLost then s.bump F.TWIN_STATS_TWIN_LOST_CNT else s
  s.onQueue q fun x => { x with doneTags := (tag :: x.doneTags).take 4096 }

/-- The invocations that wait for a thread. -/
def queuedInvs (s : State) : List Inv := s.eng.waiting ++ s.eng.ingress
/-- A cluster's queue of 512 entries is full (R148). -/
def invFull (s : State) (c : Nat) : Bool := decide (512 ≤ (s.eng.waiting.filter fun i => i.cluster == c).length)
/-- Queue an invocation in its cluster, or in the ingress buffer while the cluster's queue is full (R148). -/
def enqueueInv (s : State) (i : Inv) : State :=
  let s := if s.invFull i.cluster then { s with eng := { s.eng with ingress := s.eng.ingress ++ [i] } }
    else { s with eng := { s.eng with waiting := s.eng.waiting ++ [i] } }
  s.setF F.ENG_STAT_INV_WAITING s.queuedInvs.length

/-- Whether a slot may run for a domain (R174). -/
def slotOpen (s : State) (slot dom : Nat) : Bool :=
  s.flag F.PRG_CTL_PVALID slot && !s.flag F.PRG_CTL_CTLMODE slot &&
    (s.flag F.PRG_CTL_ANY_DOMAIN slot || s.f F.PRG_CTL_DOM slot == dom)

/-- The trigger of a fiddlehead (R139): a command's opcode and tag (none for an entry without a command), after its count of
SUCCESS completions has been raised. -/
def fires (f : Fiddle) (op : Option Nat) (tag : Nat) : Bool :=
  let q0 := (f.desc.getD 0 0).toNat
  let q1 := (f.desc.getD 1 0).toNat
  if bits q0 7 0 = 1 then
    op == some (bits q1 7 0) && (tag &&& bits q1 31 16) == (bits q1 47 32 &&& bits q1 31 16)
  else decide (bits q1 31 0 ≤ f.count)

/-- Post event 0x0306 and write the code into the entry of a tagged fiddlehead whose action failed (R140). -/
def fiddleFail (s : State) (k : Nat) (f : Fiddle) (code : Nat) : State :=
  let s := s.event 0x0306 [k, code]
  if fiddleTagged f then (s.entryWrite f.q (fiddleTag f) ⟨code, 0, 0, 0, 0⟩).qCounts f.q else s

/-- A SUCCESS completion on a queue raises the counts and unfurls what fires, in the order of the fiddleheads' numbers; a
NOTIFY is itself a completion. Nothing unfurls while the queue is FROZEN (R132). -/
def trigger : Nat → State → Nat → Option Nat → Nat → State
  | 0, s, _, _, _ => s
  | fuel + 1, s, q, op, tag =>
    let s := { s with fiddles := s.fiddles.map fun e => if e.2.q = q then (e.1, { e.2 with count := e.2.count + 1 }) else e }
    if s.qState q = QS.frozen then s
    else (s.fiddles.filter fun e => decide (e.2.q = q) && fires e.2 op tag).foldl (fun t e =>
      if (t.fiddles.at? e.1).isNone then t
      else
        let (k, f) := e
        let t := { t with fiddles := t.fiddles.del k, spent := k :: t.spent.filter (· != k) }.qCounts q
        let d (i : Nat) : Nat := (f.desc.getD i 0).toNat
        if fiddleAction f = 1 then
          t.sendData q Pkt.hostWrite 0 (d 3) (d 2)
            ((toBytes 8 (d 5) ++ toBytes 8 (d 6) ++ toBytes 8 (d 7)).take (bits (d 4) 4 0))
        else if fiddleAction f = 2 then
          trigger fuel ((t.entryWrite q (fiddleTag f) ⟨0, 0, f.desc.getD 4 0, 0, 0⟩).qCounts q) q none (fiddleTag f)
        else if t.slotOpen (bits (d 2) 9 0) (t.qDomain q) then
          (t.enqueueInv ⟨.fiddle q k (fiddleTag f), clusterOf q, bits (d 2) 9 0, t.qDomain q, f.desc.getD 3 0, f.desc.getD 4 0,
            .invalid, 0, t.time⟩).qCounts q
        else t.fiddleFail k f Code.invalid) s

/-- Issue the completion of a tag; `op` is the opcode of the command that had it. -/
def complete (s : State) (q tag : Nat) (op : Option Nat) (d : Done) : State :=
  let s := (s.entryWrite q tag d).qCounts q
  if d.code = 0 then trigger 4097 s q op tag else s

/-! The error log (R133). -/

/-- Append an error log entry, keeping the last 16; one not yet read that is lost posts 0x0304. -/
def elogAdd (s : State) (q kind failDev code op tag addr len pmap dmap fmap cmap : Nat) : State :=
  let n := s.f F.Q_SEQ_ELOG_NEXT q
  let e : List U64 := ([kind <<< 40 ||| failDev <<< 32 ||| code <<< 24 ||| op <<< 16 ||| tag, addr,
    s.f F.Q_STATUS_FREEZE_SEQ q <<< 32 ||| len, pmap, dmap, fmap, cmap,
    n <<< 32 ||| s.time / 1000 % 2 ^ 32]).map (BitVec.ofNat 64)
  let s := s.setF F.Q_SEQ_ELOG_NEXT ((n + 1) % 2 ^ 32) q
  match s.queue? q with
  | none => s
  | some x =>
    let s := if 16 ≤ x.elog.length ∧ x.elogSeen.contains (n - 16) = false then s.event 0x0304 [s.dqn q, n - 16] else s
    let all := x.elog ++ [e]
    s.onQueue q fun y => { y with elog := all.drop (all.length - 16), elogSeen := y.elogSeen.filter fun k => decide (n < k + 16) }
/-- The quadword of the retained entry in ring slot `j` (R145). -/
def elogSlot (s : State) (q j w : Nat) : U64 :=
  match s.queue? q with
  | some x => match x.elog.find? fun e => bits (e.getD 7 0).toNat 63 32 % 16 == j with
    | some e => e.getD w 0
    | none => 0
  | none => 0

/-! Commands: their parts and outcomes (R128 to R131, R143). -/

def onCmd (s : State) (q tag : Nat) (f : Cmd → Cmd) : State :=
  s.onQueue q fun x => { x with cmds := x.cmds.map fun c => if c.tag = tag then f c else c }
/-- A durable write of a host has completed: its time from the last packet (R440). -/
def durableSample (s : State) (ps : List Nat) : State :=
  match ps.filterMap s.parts.at? with
  | p :: _ => if partWrites p.kind && s.isDurable p.region then s.histAdd 1 (s.time - p.born) else s
  | [] => s
/-- Give a command its outcome, once. -/
def setDone (s : State) (q tag : Nat) (d : Done) : State :=
  let s := match s.cmd? q tag with
    | some c => if c.outcome.isNone then s.durableSample c.parts else s
    | none => s
  s.onCmd q tag fun c => if c.outcome.isSome then c else { c with outcome := some d }

def partList (s : State) (ps : List Nat) : List (Nat × Part) := ps.filterMap fun i => (s.parts.at? i).map fun p => (i, p)
/-- The device map of parts. -/
def devMap (ps : List (Nat × Part)) (f : Part → Bool) : Nat := maskOf ((ps.filter fun e => f e.2).map fun e => e.2.dev % 64)
/-- A part has ended, as the home device knows it. -/
def ended (p : Part) : Bool := (p.st == .done && p.reported) || p.st == .cancelled
def failed (p : Part) : Bool := p.st == .done && p.code != 0

/-- The shape ordinal of a device (R120). -/
def shapeOrd (s : State) (d : Nat) : Nat := d / 8 * s.f F.STK_CTL_SHAPE_W + d % 8
/-- PART_MAP (R120). -/
def partMap (s : State) (ps : List (Nat × Part)) : U64 :=
  BitVec.ofNat 64 ((List.range 8).foldl (fun acc k =>
    let c := match ps.find? fun e => s.shapeOrd e.2.dev == k && e.2.code != 0 with
      | some e => e.2.code
      | none => match ps.find? fun e => s.shapeOrd e.2.dev == k with
        | some e => e.2.code
        | none => 0xFF
    acc ||| (c <<< (8 * k))) 0)
/-- The devices of parts, and the outcome of a device's part: the first failure among its pieces (R128). -/
def devsOf (ps : List (Nat × Part)) : List Nat := (ps.map fun e => e.2.dev).eraseDups
def devCode (ps : List (Nat × Part)) (d : Nat) : Nat :=
  match ps.find? fun e => e.2.dev == d && e.2.code != 0 with
  | some e => e.2.code
  | none => 0
/-- The pieces of a device's part. -/
def devPieces (ps : List (Nat × Part)) (d : Nat) : List Part := (ps.filter fun e => e.2.dev == d).map Prod.snd
/-- The map of the devices whose part, as a whole, is of a kind. -/
def devMapAll (ps : List (Nat × Part)) (f : Part → Bool) : Nat :=
  maskOf (((devsOf ps).filter fun d => (devPieces ps d).all f).map (· % 64))
/-- An error log entry for a command (kinds 1 and 2). With no failed part FAIL_DEV is 0xFF and CODE 0 (DESIGN CHOICE: R133 names no
value). -/
def elogCmd (s : State) (q kind : Nat) (c : Cmd) (ps : List (Nat × Part)) : State :=
  let (fd, fc) := c.fail.getD (0xFF, 0)
  s.elogAdd q kind fd fc c.op c.tag (c.q 1) c.length (devMap ps fun _ => true)
    (devMapAll ps fun p => p.st == .done && p.code == 0) (devMap ps failed) (devMapAll ps fun p => p.st == .cancelled)

/-- Freeze mode (R129). -/
def freezeMode (s : State) (q : Nat) : Bool := s.flag F.Q_STATUS_FREEZE_MODE q

/-- A command of these parts spans devices (R128). -/
def spans (ps : List (Nat × Part)) : Bool := decide (1 < (devsOf ps).length)

/-- Every part of a command has ended: its outcome (R130, R131, R143). Parts cancelled while others ran on give FROZEN. -/
def settleCmd (s : State) (q : Nat) (c : Cmd) : State :=
  let ps := s.partList c.parts
  if ps.isEmpty ∨ c.outcome.isSome ∨ !(ps.all fun e => ended e.2) then s
  else
    let okLen := (ps.filter fun e => e.2.st == .done && devCode ps e.2.dev == 0).foldl (fun n e => n + e.2.doneLen) 0
    let first := ps.head?.map Prod.snd
    let codes := (devsOf ps).map (devCode ps)
    let code := codes.headD 0
    let bad := ps.any fun e => failed e.2
    if ps.any fun e => e.2.st == .cancelled then
      if ps.all fun e => e.2.st == .cancelled then s.setDone q c.tag ⟨Code.frozen, 0, 0, 0, 0⟩
      else (s.elogCmd q 2 c ps).setDone q c.tag ⟨Code.frozen, if bad then 1 else 2, 0, okLen, 0⟩
    else if spans ps && s.freezeMode q && bad then (s.elogCmd q 2 c ps).setDone q c.tag ⟨Code.frozen, 1, 0, okLen, 0⟩
    else if codes.any fun x => x != code then
      (s.elogCmd q 1 c ps).setDone q c.tag ⟨Code.partial_, 0, 0, okLen, s.partMap ps⟩
    else
      let result : U64 := if c.op = Op.read ∨ c.op = Op.write ∨ c.op = Op.writeAtomic then 0 else (first.map (·.result)).getD 0
      let stored := (first.map (·.stored)).getD false
      if c.op = Op.invoke then s.setDone q c.tag ⟨code, (first.map (·.doneLen)).getD 0, result, 0, 0⟩
      else s.setDone q c.tag ⟨code, if c.op = Op.compareWrite then b2n (stored && code == 0) else 0,
        if code = 0 then result else 0, if code = 0 then okLen else 0, 0⟩

/-- A part of a command that has not been admitted, as this device knows: a local one, or one that waits to be sent. -/
def unadmitted (p : Part) : Bool := p.st == .waiting || p.st == .heldRead
/-- Whether a part of this device can still be caught (R125, R126); an INVOKE until its program begins. -/
def catchable (p : Part) : Bool :=
  match p.kind with
  | .read | .tile => p.st != .cancelled && !p.reported
  | .invoke => p.st == .waiting || p.st == .admitted
  | _ => unadmitted p

/-- Ask the devices that hold forwarded parts of a command whether they are admitted (R126, R131). `who` is the tag of the ABORT, or
65536. A part is named by its first piece. -/
def holdParts (s : State) (q : Nat) (c : Cmd) (who : Nat) : State :=
  let away := (s.partList c.parts).filter fun e => e.2.st == .forwarded
  let ds := devsOf away
  let s := s.onCmd q c.tag fun c => { c with hold := if ds.isEmpty then none else some who, asked := ds, answers := [] }
  ds.foldl (fun t d => match away.find? fun e => e.2.dev == d with
    | some e => t.emit ⟨.partCtl, d, [e.2.grp, 0], []⟩
    | none => t) s
/-- Cancel the parts of a command that this device has not admitted; those that an ABORT held and that run are let go. -/
def cancelLocal (s : State) (c : Cmd) : State :=
  (s.partList c.parts).foldl (fun t e => t.onPart e.1 fun p =>
    if unadmitted p then { p with st := .cancelled } else { p with onHold := false }) s

/-- Every other command of a queue that stops (R131 items 1 and 4, R143): unstarted commands complete with FROZEN; parts not
admitted are held and cancelled. ELOG_READ, QUEUE_RESTART and ABORT go on. -/
def stopCmds (s : State) (q : Nat) (all : Bool) : State :=
  match s.queue? q with
  | none => s
  | some x => x.cmds.foldl (fun t c =>
      if c.outcome.isSome ∨ (!all ∧ (c.op = Op.elogRead ∨ c.op = Op.queueRestart ∨ c.op = Op.abort)) then t
      else if !c.started then t.setDone q c.tag ⟨Code.frozen, 0, 0, 0, 0⟩
      else
        let t := (t.cancelLocal c).holdParts q c 65536
        match t.cmd? q c.tag with
        | some c => t.settleCmd q c
        | none => t) s

/-- The first failure of a part of a spanning command in freeze mode (R131). -/
def freezeQueue (s : State) (q tag : Nat) : State :=
  if s.qState q = QS.ready then
    let s := (s.setF F.Q_STATUS_STATE QS.frozen q).setF F.Q_STATUS_FREEZE_SEQ (s.f F.Q_STATUS_FREEZE_SEQ q + 1) q
    (s.event 0x0301 [s.dqn q, s.f F.Q_STATUS_FREEZE_SEQ q, tag]).stopCmds q false
  else s

/-- An error cause of R143 on a READY or FROZEN queue. -/
def errorQueue (s : State) (q cause : Nat) : State :=
  if s.qState q = QS.ready ∨ s.qState q = QS.frozen then
    let s := (s.setF F.Q_STATUS_STATE QS.error q).event 0x0302 [s.dqn q, cause]
    (s.elogAdd q 3 0xFF 0 0 0 cause 0 0 0 0 0).stopCmds q true
  else s

/-- QVALID commits 1 (R142): the context is built, with QSEQ, FREEZE_SEQ and ENTRY_SEQ at 0. -/
def createQueue (s : State) (q : Nat) : State :=
  let rx := if s.isBraid q then 0 else s.f F.Q_PSN_RX_PSN0 q
  let tx := if s.isBraid q then 0 else s.f F.Q_PSN_TX_PSN0 q
  let s := s.setQueue q { Queue.empty with rxNext := rx, txNext := tx }
  let s := ((s.setF F.Q_STATUS_STATE QS.ready q).setF F.Q_STATUS_FREEZE_SEQ 0 q).setF F.Q_SEQ_QSEQ_NEXT 0 q
  let s := (s.setF F.Q_SEQ_ELOG_NEXT 0 q).setF F.Q_STATUS_FREEZE_MODE (b2n (decide (8 < s.f F.STK_STATUS_DEVICES))) q
  if s.f F.TP_QUEUE_STAT_RESIDENT < 8192 then
    (s.setF F.Q_STATUS_RESIDENT 1 q).setF F.TP_QUEUE_STAT_RESIDENT (s.f F.TP_QUEUE_STAT_RESIDENT + 1)
  else s

/-- QVALID commits 0 (R142): the queue is CLOSING; unstarted commands complete with FROZEN, tagged fiddleheads with ABORTED. -/
def closeQueue (s : State) (q : Nat) : State :=
  if s.qState q = QS.free ∨ s.qState q = QS.closing then s
  else
    let s := s.setF F.Q_STATUS_STATE QS.closing q
    let s := match s.queue? q with
      | none => s
      | some x => x.cmds.foldl (fun (t : State) (c : Cmd) =>
          if !c.started then t.setDone q c.tag ⟨Code.frozen, 0, 0, 0, 0⟩ else t) s
    let mine : SMap Fiddle := s.fiddles.filter fun e => e.2.q == q
    let s := { s with fiddles := s.fiddles.filter fun e => e.2.q != q }
    mine.foldl (fun (t : State) (e : Nat × Fiddle) => if fiddleTagged e.2 then t.entryWrite q (fiddleTag e.2) ⟨Code.aborted, 0, 0, 0, 0⟩ else t) s
      |>.qCounts q

/-- The pieces of a span of region bytes, cut at granules; those of one device make up its part (R128). -/
def piecesByDev (s : State) (r off n : Nat) (rd : Bool) : List (Nat × Nat × Nat) :=
  s.splitRange r rd (n / granBytes + 2) off n

/-- Make a part, sent away at once if it is another device's (R54, R128). -/
def startPart (s : State) (p : Part) : State :=
  let pid := s.nextPart
  let s := s.addPart p
  if p.dev = s.index then s
  else if p.kind = .invoke ∨ p.kind = .tile then s.forwardPart pid p
  else s.admission pid

/-- Make the parts of an access: the pieces' numbers follow each other, and those of a device are one part. -/
def startParts (s : State) (org : Origin) (kind : PartKind) (r off n : Nat) (data data2 : List Byte) : State × List Nat :=
  let ps := s.piecesByDev r off n (!partWrites kind)
  let base := s.nextPart
  (ps.foldl (fun (acc : State) e =>
    let (dev, o, k) := e
    let p := { State.newPart org kind dev r o k ((data.drop (o - off)).take k) data2 with
      moff := o - off, grp := base + ps.findIdx fun x => x.1 == dev, cnt := (ps.filter fun x => x.1 == dev).length }
    acc.startPart p) s, (List.range ps.length).map (base + ·))

end State

end Sys2Proof.Machine
end

