-- ==== Sys2Proof/Machine/Commands.lean ====
section
/-! DEFINITION. Capsules and their commands (R113 to R136): the checks of a capsule, the start of each command under the ordering
rules of R123, parts and their completions, holds and aborts, and completion. -/

namespace Sys2Proof.Machine

namespace Cmd

/-- The bytes of data that must follow the capsule (R116). -/
def dataLen (c : Cmd) : Nat :=
  if c.op = Op.write ∨ c.op = Op.writeAtomic ∨ c.op = Op.append then c.length
  else if c.op = Op.compareWrite then 2 * c.length else 0

/-- The command needs a check of a mapping, with this many bytes at ADDR (R117, R279, R284). -/
def need (c : Cmd) : Option (Need × Nat) :=
  if c.op = Op.read then some (.read, c.length)
  else if c.op = Op.write ∨ c.op = Op.writeAtomic then some (.write, c.length)
  else if c.op = Op.compareWrite ∨ c.op = Op.fetchAdd then some (.atomic, c.length)
  else if c.op = Op.append then some (.append, 1)
  else if c.op = Op.tileRead ∨ c.op = Op.segmentRelease then some (.tile, 1)
  else if c.op = Op.invoke ∧ c.length ≠ 0 then some (.invoke, c.length)
  else none

/-- The opcodes of R116. -/
def known (c : Cmd) : Bool :=
  [Op.read, Op.write, Op.writeAtomic, Op.compareWrite, Op.fetchAdd, Op.invoke, Op.abort, Op.append, Op.tileRead,
    Op.segmentRelease, Op.elogRead, Op.queueRestart].contains c.op

/-- LENGTH within the limits of its opcode (R116). -/
def lengthOk (c : Cmd) : Bool :=
  let n := c.length
  if c.op = Op.read ∨ c.op = Op.write then decide (1 ≤ n ∧ n ≤ 2 ^ 24)
  else if c.op = Op.compareWrite then n == 8 || n == 16 || n == 32 || n == 64
  else if c.op = Op.fetchAdd then n == 8
  else if c.op = Op.append then decide (1 ≤ n ∧ n ≤ 65536)
  else if c.op = Op.elogRead then decide (64 ≤ n ∧ n ≤ 1024 ∧ n % 64 = 0)
  else if c.op = Op.abort ∨ c.op = Op.segmentRelease ∨ c.op = Op.queueRestart then n == 0
  else true

/-- Reserved bits and fields are 0 (R4, R115, R116). -/
def reservedOk (c : Cmd) (braid : Bool) : Bool :=
  let z (i : Nat) : Bool := c.q i == 0
  let noHost := z 5 && z 6
  let small (i b : Nat) : Bool := decide (c.q i < 2 ^ b)
  bits (c.q 0) 15 10 == 0 && (c.op == Op.append || !bit (c.q 0) 9) && small 1 52 &&
    (braid || (small 2 32 && small 6 32)) &&
    if c.op = Op.read then z 3 && z 4 && z 7
    else if c.op = Op.write ∨ c.op = Op.writeAtomic then z 3 && z 4 && z 7 && noHost
    else if c.op = Op.compareWrite then z 3 && z 4 && z 7 && (noHost || (decide (8 < c.length) && !z 5))
    else if c.op = Op.fetchAdd then z 4 && z 7 && noHost
    else if c.op = Op.invoke then small 3 10 && noHost && (c.length != 0 || z 1)
    else if c.op = Op.abort then z 1 && small 3 16 && z 4 && z 7 && noHost
    else if c.op = Op.append then (bit (c.q 0) 9 || z 3) && z 4 && z 7 && noHost
    else if c.op = Op.tileRead then z 7
    else if c.op = Op.segmentRelease then small 3 32 && z 4 && z 7 && noHost
    else if c.op = Op.elogRead then z 1 && small 3 32 && z 4 && z 7
    else z 1 && small 3 32 && z 4 && z 7 && noHost

/-- The checks of the capsule's own form (R34, R116), with the length of the data that follows it. -/
def formCheck (c : Cmd) (braid : Bool) (data : Nat) : Nat :=
  if !c.known then Code.invalid
  else if !c.reservedOk braid then Code.invalid
  else if c.op = Op.writeAtomic ∧ (c.length = 0 ∨ 65536 < c.q 1 % granBytes + c.length) then Code.invalid
  else if !c.lengthOk then Code.length
  else if data ≠ c.dataLen then Code.length
  else if c.op = Op.compareWrite ∧ c.q 1 % c.length ≠ 0 then Code.invalid
  else if c.op = Op.fetchAdd ∧ c.q 1 % 8 ≠ 0 then Code.invalid
  else 0

end Cmd

namespace State

/-! Arrival of a capsule (R114, R116, R117, R132). -/

/-- The checks of R22 for a command. -/
def checkCmd (s : State) (q : Nat) (c : Cmd) (durable : Bool) : State × Nat × Option Tgt :=
  match c.need with
  | none => s.checkKey q (c.q 2)
  | some (n, len) =>
    let (s, code, t) := s.checkAccess q (c.q 2) (c.q 1) len n durable
    match t with
    | some g =>
      if code = 0 ∧ n = .tile ∧ (!s.regionValid g.region ∨ s.f F.REG_STATE_REVOKE_STATE g.region ≠ 0) then (s, Code.revoked, t)
      else (s, code, t)
    | none => (s, code, t)

/-- The state of the queue refuses the command (R132, R142, R143). -/
def stateRefuses (s : State) (q op : Nat) : Bool :=
  let st := s.qState q
  st == QS.error || st == QS.closing ||
    (st == QS.frozen && !(op == Op.elogRead || op == Op.queueRestart || op == Op.abort))

/-- Put a command in its place in message order. -/
def insertCmd (x : Queue) (c : Cmd) : Queue :=
  let before := x.cmds.filter fun d => !msnBefore c.msn d.msn
  let after := x.cmds.filter fun d => msnBefore c.msn d.msn
  { x with cmds := before ++ [c] ++ after }

/-- A message has been checked: MSN accounting (R124). -/
def markMsn (x : Queue) (m : Nat) : Queue :=
  let seen := if msnBefore m x.nextMsn ∨ x.msnSeen.contains m then x.msnSeen else m :: x.msnSeen
  let rec go : Nat → Nat → List Nat → Nat × List Nat
    | 0, n, l => (n, l)
    | fuel + 1, n, l => if l.contains n then go fuel ((n + 1) % 65536) (l.filter (· != n)) else (n, l)
  let (n, l) := go (seen.length + 1) x.nextMsn seen
  { x with nextMsn := n, msnSeen := l }

/-- A capsule arrives (R114, R116, R117): tag in use or depth full puts the queue into ERROR; otherwise the command is recorded
with the outcome of its checks. `tag` is the tag of the message header, `dataLen` the bytes that follow the capsule. -/
def capsule (s : State) (q msn tag : Nat) (qw : List U64) (data : List Byte) (dataLen : Nat) (durable : Bool) : State :=
  let used := s.tagsInUse q
  if used.contains tag then s.errorQueue q 2
  else if s.qDepth q ≤ used.length then s.errorQueue q 3
  else
    let c : Cmd := ⟨tag, msn, qw, data, decide (data.length = dataLen), 0, none, false, [], none, false, [], none, none, [], [], none⟩
    let form := if bits (c.q 0) 31 16 ≠ tag then Code.invalid else c.formCheck (s.isBraid q) dataLen
    let (s, code, tgt) := if form ≠ 0 then (s, form, none) else s.checkCmd q c durable
    let out : Option Done := if s.stateRefuses q c.op then some ⟨Code.frozen, 0, 0, 0, 0⟩
      else if code ≠ 0 then some ⟨code, 0, 0, 0, 0⟩ else none
    (s.onQueue q fun x => insertCmd x { c with check := code, tgt := tgt, outcome := out }).qCounts q

/-! Ordering (R123). -/

/-- The commands of the queue before one. -/
def earlier (x : Queue) (tag : Nat) : List Cmd := x.cmds.takeWhile fun c => c.tag != tag

/-- An earlier write-class command whose lines a read overlaps; an append may lie anywhere in its region. -/
def readBlocked (es : List Cmd) (c : Cmd) : Bool :=
  es.any fun e => e.writeClass && match e.tgt, c.tgt with
    | some a, some b => a.region == b.region && (e.op == Op.append || overlaps a.off e.length b.off c.length)
    | _, _ => false

/-- Every message before a command has been checked (R124), so that the commands before it are known. -/
def allBefore (x : Queue) (c : Cmd) : Bool := !msnBefore x.nextMsn c.msn

/-- The command may start now (R123, R124). One that must not pass an earlier command waits until all before it are known; a
write-class one starts after the write-class ones before it, so that the leads meet them in message order. -/
def mayStart (x : Queue) (c : Cmd) : Bool :=
  let es := earlier x c.tag
  c.whole && !c.started && c.outcome.isNone && c.check == 0 &&
    (!c.fence || c.op == Op.abort || (allBefore x c && es.isEmpty)) &&
    if c.op = Op.read then allBefore x c && !readBlocked es c
    else if c.writeClass then allBefore x c && !es.any fun e => e.writeClass && !e.started && e.outcome.isNone
    else if c.op = Op.invoke then allBefore x c && !es.any Cmd.writeClass
    else if c.op = Op.segmentRelease then
      allBefore x c && !es.any fun e => e.op == Op.tileRead && (e.tgt.map (·.region)) == (c.tgt.map (·.region))
    else if c.op = Op.queueRestart then decide (x.cmds.length = 1)
    else if c.op = Op.abort then allBefore x c
    else true

/-- Run `k` if the command with this tag is of this opcode and may start. -/
def startCmd (s : State) (q tag op : Nat) (k : State → Queue → Cmd → State) : State :=
  match s.queue? q with
  | none => s
  | some x => match x.cmds.find? fun c => c.tag == tag with
    | none => s
    | some c => if c.op = op ∧ mayStart x c then k (s.onCmd q tag fun c => { c with started := true }) x c else s

/-- Make the parts of a command at its target. -/
def startAccess (s : State) (q : Nat) (c : Cmd) (kind : PartKind) (n : Nat) (data data2 : List Byte) : State :=
  match c.tgt with
  | none => s
  | some t =>
    let (s, ps) := s.startParts (.cmd q c.tag) kind t.region t.off n data data2
    s.onCmd q c.tag fun c => { c with parts := ps }

/-! Parts (R126, R128, R130). -/

/-- An invocation part: what its data hold (slot, domain, rights, g1, g2, queue, tag, mapping). -/
def invField (p : Part) (i : Nat) : Nat := ofBytes ((p.data.drop (8 * i)).take 8)

/-- Admit an INVOKE part (R22 checks 5 and 6, R174, R175): it goes to its cluster. One that has passed its checks passes them no more
(R26). -/
def admitInvoke (s : State) (pid : Nat) (p : Part) : State :=
  let dom := invField p 1
  let slot := invField p 0
  let start : Start := match p.org with
    | .cmd q tag => .invoke q tag
    | .remote src id => .remote src id
    | _ => .remote s.index pid
  let go (s : State) (cluster : Nat) (h0 : Handle) : State :=
    (s.onPart pid fun q => { q with st := .admitted, passed := true }).enqueueInv
      ⟨start, cluster, slot, dom, BitVec.ofNat 64 (invField p 3), BitVec.ofNat 64 (invField p 4), h0, p.len, s.time⟩
  if s.admissionHeld then s
  else if !s.slotOpen slot dom then s.partDone pid Code.invalid
  else if p.len = 0 then go s (clusterOf (invField p 5)) .invalid
  else
    let (_, d) := s.place p.region p.off
    let r := invField p 2
    let lg := s.regionClass p.region == Cls.log
    let h0 : Handle := .region (some (dom, invField p 7)) p.region p.off p.len (bit r 0) (bit r 1 && !lg) (bit r 2 && !lg)
    if p.passed then go s (clusterOf (d / 64)) h0
    else if !s.regionValid p.region ∨ s.f F.REG_STATE_REVOKE_STATE p.region ≠ 0 then s.partDone pid Code.revoked
    else match s.admit6 p.region p.off false with
      | .hold => s.onPart pid fun q => { q with passed := true }
      | .fail c => s.partDone pid c
      | .pass => go s (clusterOf (d / 64)) h0

/-- PART_ADMISSION: take a part through admission, if its turn has come. -/
def admitAny (s : State) (pid : Nat) : State :=
  match s.parts.at? pid with
  | none => s
  | some p =>
    if p.kind ≠ .invoke then s.admission pid
    else if p.dev ≠ s.index ∨ p.st ≠ .waiting ∨ p.onHold = true then s
    else s.admitInvoke pid p

/-- The answer to a forwarded part (R51, R54, R285): its completion fields, after the data of a read or an atomic, with which they go
over the cascade. -/
def answerRemote (s : State) (src id : Nat) (p : Part) : State :=
  let m : Msg := ⟨.fwdResp, src, [id, p.code, p.result.toNat, if p.kind = .invoke then 0 else p.doneLen,
    if p.kind = .invoke then p.doneLen else b2n p.stored, b2n p.solo], []⟩
  if p.rdata.isEmpty then s.sendDev 2 m else (s.emit ⟨.dataResp, src, [id], p.rdata⟩).emit m

/-! Messages and their answers (R84, R93, R94). -/

/-- A message's parts, all of which have ended. -/
def msgEnded (s : State) (m : OneSided) : Bool := (s.partList m.parts).all fun e => ended e.2
/-- The code of a message: its own, or that of the failing part at the lowest offset. -/
def msgCode (s : State) (m : OneSided) : Nat :=
  if m.code ≠ 0 then m.code
  else match ((s.partList m.parts).filter fun e => failed e.2).foldl (fun (b : Option Part) e => match b with
      | some p => if e.2.moff < p.moff then some e.2 else b
      | none => some e.2) none with
    | some p => p.code
    | none => 0
/-- The NAK that answers a completion code in compatible mode (R93); 0 for an ACK. -/
def nakOf (code : Nat) : Nat :=
  if code = 0 then 0
  else if code = Code.access ∨ code = Code.bounds ∨ code = Code.revoked then 1
  else if code = Code.invalid ∨ code = Code.length then 2
  else 3

/-- Whether a message is ready for its answer. -/
def msgReady (s : State) (x : Queue) (m : OneSided) : Bool :=
  !m.closed && s.msgEnded m &&
    if m.kind = Pkt.capsule then
      (m.code != 0 || decide (m.len ≤ m.got)) && !x.cmds.any (fun c => c.msn == m.msn)
    else m.code != 0 || decide (m.len ≤ m.got)

/-- Send the answer of a message in compatible mode (R92, R93): an ACK, an atomic ACK, read responses cut at the path MTU, or a NAK. -/
def compatAnswer (s : State) (q : Nat) (m : OneSided) (code : Nat) (result : U64) (data : List Byte) : State :=
  if m.kind = Pkt.capsule ∨ nakOf code = 0 then
    if m.kind = Pkt.atomic then s.sendCompat q [Roce.atomicAck, m.psn, result.toNat] []
    else if m.kind = Pkt.readReq then
      let size := 1024 <<< s.f F.TP_COMPAT_COMPAT_PMTU
      let s := s.rateTouch q
      if data.isEmpty then s.sendCompat q [Roce.readResp, m.psn] []
      else (cut size (data.length / size + 1) 0 data).foldl
        (fun t c => t.sendCompat q [Roce.readResp, (m.psn + c.1 / size) % 2 ^ 24] c.2) s
    else s.sendCompat q [Roce.ack, m.psn] []
  else s.sendCompat q [Roce.nak, m.psn, nakOf code] []

/-- Send the answer of a message and close it: READ_RESP data and DONE in braid mode, the answer of compatible mode else. -/
def answerMsg (s : State) (q : Nat) (m : OneSided) : State :=
  let code := s.msgCode m
  let ps := s.partList m.parts
  let data := ps.flatMap fun e => e.2.rdata
  let result := match ps.head? with
    | some e => if m.kind = Pkt.atomic then e.2.result else 0
    | none => 0
  let data := if m.kind = Pkt.readReq ∧ code = 0 then data else []
  let s := if m.kind = Pkt.capsule then s else s.durableSample m.parts
  let s := { s with parts := s.parts.filter fun e => !m.parts.contains e.1 }
  let s := if m.kind ≠ Pkt.capsule ∧ code = Code.twinLost then s.bump F.TWIN_STATS_TWIN_LOST_CNT else s
  let s := s.onQueue q fun x => { x with ingress := x.ingress - 256 * m.units, lastUse := s.time, msgs := x.msgs.map fun n =>
    if n.msn = m.msn ∧ !n.closed then { n with closed := true, code := code, result := result, data := data, units := 0 } else n }
  let s := s.poolGive 0 m.units
  if s.isBraid q then
    if m.kind = Pkt.capsule then s
    else
      let s := if data.isEmpty then s else s.sendData q Pkt.readResp m.tag m.rkey.toNat m.raddr.toNat data
      s.sendData q Pkt.done m.tag 0 0 ([BitVec.ofNat 8 code] ++ List.replicate 7 0 ++ toBytes 8 result.toNat)
  else
    let ack := decide (m.kind = Pkt.capsule ∨ nakOf code = 0) && m.kind != Pkt.readReq
    let s := if ack ∧ m.lastAt + s.f F.TP_COMPAT_ACK_DEADLINE < s.time then
      s.event 0x0208 [s.dqn q, m.psn, (s.time - m.lastAt) / 1000] else s
    s.compatAnswer q m code result data

/-- Answer what can be answered: in braid mode any message, in compatible mode in PSN order. -/
def closeMsgs (s : State) (q : Nat) : State :=
  match s.queue? q with
  | none => s
  | some x =>
    let (s, _) := x.msgs.foldl (fun (acc : State × Bool) m =>
      let (t, stop) := acc
      if m.closed ∨ stop then (t, stop)
      else if t.msgReady x m then (t.answerMsg q m, false)
      else (t, !t.isBraid q)) (s, false)
    s.onQueue q fun x =>
      let done := (x.msgs.filter (·.closed)).length
      if 4096 < done then { x with msgs := (x.msgs.find? (·.closed)).elim x.msgs fun m => x.msgs.filter fun n => n.msn != m.msn }
      else x

/-- A part of a command has come home (R130, R131): its data go to the host (R116, R122), the first failure of a spanning
command freezes the queue in freeze mode, and the outcome is settled when every part has ended. -/
def cmdPart (s : State) (q tag pid : Nat) (p : Part) : State :=
  match s.cmd? q tag with
  | none => { s with parts := s.parts.del pid }
  | some c =>
    let s := s.onPart pid fun p => { p with reported := true }
    let s := if failed p then s.onCmd q tag fun c => { c with fail := some (c.fail.getD (p.dev, p.code)) } else s
    let sendIt := p.code == 0 && !p.rdata.isEmpty &&
      (c.op == Op.read || c.op == Op.tileRead || (c.op == Op.compareWrite && decide (8 < c.length) && c.q 5 != 0))
    let s := if sendIt then
        let a := match s.queue? q with
          | some x => x.txNext
          | none => 0
        let s := s.sendData q Pkt.readResp tag (c.q 6) ((c.q 5 + p.moff) % 2 ^ 64) p.rdata
        let w := if s.isBraid q then s.psnsSince q a else []
        s.onCmd q tag fun c => { c with sent := true, awaiting := c.awaiting ++ w }
      else s
    let ps := s.partList c.parts
    let s := if spans ps && s.freezeMode q && failed p then s.freezeQueue q tag else s
    match s.cmd? q tag with
    | some c => s.settleCmd q c
    | none => s

/-- A seal record's part has ended (R427): the seal is held, it counts, and the SEALs that waited for it go on. -/
def sealDone (s : State) (pid j n : Nat) (p : Part) : State :=
  let s := { s with parts := s.parts.del pid }
  let l := s.logSt j
  match p.code, l.due with
  | 0, d :: rest =>
    if d.seq ≠ n then s
    else
      let mine := l.waiters.filter fun w => match w.2 with
        | some m => decide (m ≤ n)
        | none => false
      let s := s.setLog j { l with due := rest, waiters := l.waiters.filter fun w => !mine.contains w }
      let s := (s.sealHeld j n d.upto ((p.data.drop 64).take 64)).reachEvent 0x0E08 0 []
      mine.foldl (fun (t : State) w => t.partDone w.1 0 (BitVec.ofNat 64 (w.2.getD 0))) s
  | _, _ => s

/-- Take a part that has ended to where it belongs. -/
def comeHome (s : State) (pid : Nat) : State :=
  match s.parts.at? pid with
  | none => s
  | some p =>
    if p.st ≠ .done ∨ p.reported ∨ p.onHold then s
    else match p.org with
      | .cmd q tag => s.cmdPart q tag pid p
      | .msg q _ => (s.onPart pid fun p => { p with reported := true }).closeMsgs q
      | .remote src id => ({ s with parts := s.parts.del pid }).answerRemote src id p
      | .thread _ => s.onPart pid fun p => { p with reported := true }
      | .fiddle _ => s.onPart pid fun p => { p with reported := true }
      | .seal j n => s.sealDone pid j n p

/-! Aborts (R124 to R127). -/

/-- The ABORT of tag `tag` has been decided. -/
def abortDecide (s : State) (q tag code : Nat) : State :=
  (s.setDone q tag ⟨code, 0, BitVec.ofNat 64 (match s.cmd? q tag with
    | some c => bits (c.q 3) 15 0
    | none => 0), 0, 0⟩)

/-- Take an invocation that has not begun from its cluster's queue; one that waits in the ingress buffer takes its place (R148). -/
def dropInv (s : State) (w : Start) : State :=
  let e : Eng := { s.eng with
    waiting := s.eng.waiting.filter fun i => decide (i.start ≠ w), ingress := s.eng.ingress.filter fun i => decide (i.start ≠ w) }
  let t : State := { s with eng := e }
  let t := match e.ingress.find? fun i => !t.invFull i.cluster with
    | some i => { t with eng := { e with waiting := e.waiting ++ [i], ingress := e.ingress.filter fun j => decide (j.start ≠ i.start) } }
    | none => t
  t.setF F.ENG_STAT_INV_WAITING t.queuedInvs.length

/-- Catch a target: its parts are cancelled, it completes with ABORTED. -/
def catchTarget (s : State) (q : Nat) (c : Cmd) (by_ : Nat) : State :=
  let ps := s.partList c.parts
  let s := (devsOf ps).foldl (fun (t : State) d => match ps.find? fun e => e.2.dev == d with
    | some e => if d = t.index then t else t.emit ⟨.partCtl, d, [e.2.grp, 1], []⟩
    | none => t) s
  let s := if c.op = Op.invoke then s.dropInv (.invoke q c.tag) else s
  let s := ps.foldl (fun t e => t.onPart e.1 fun p => { p with st := .cancelled }) s
  let s := s.onCmd q c.tag fun c => { c with outcome := some ⟨Code.aborted, 0, 0, 0, 0⟩, hold := none, awaiting := [] }
  s.abortDecide q by_ Code.aborted

/-- The target can be caught as far as this device can tell (R125): no answer of another device is needed to refuse. -/
def targetOpen (s : State) (q : Nat) (c : Cmd) : Bool :=
  let ps := s.partList c.parts
  c.outcome.isNone &&
    if !c.started then !(c.op == Op.elogRead || c.op == Op.abort)
    else if c.readClass then !c.sent
    else if c.writeClass then ps.all fun e => unadmitted e.2 || e.2.st == .forwarded
    else if c.op = Op.invoke then
      !(s.eng.threads.vals.any fun h => h.start == Start.invoke q c.tag) && ps.all fun e => e.2.st != .done
    else false

/-- ABORT `tag` meets its target (R124 to R127): what is not sent away is held here while the other devices are asked. -/
def runAbort (s : State) (q tag : Nat) (a : Cmd) : State :=
  let target := bits (a.q 3) 15 0
  if target = tag then s.abortDecide q tag Code.abortNoTarget
  else match s.cmd? q target with
    | some c =>
      let s := s.onCmd q tag fun a => { a with abort := some target }
      if !s.targetOpen q c then s
      else
        let ps := s.partList c.parts
        if !(ps.any fun e => e.2.st == .forwarded) then s.catchTarget q c tag
        else
          let s := ps.foldl (fun t e => if e.2.st = .forwarded then t else t.onPart e.1 fun p => { p with onHold := true }) s
          s.holdParts q c tag
    | none =>
      match (s.fiddles.find? fun e => e.2.q == q && fiddleTagged e.2 && fiddleTag e.2 == target) with
      | some (k, _) =>
        let s := { s with fiddles := s.fiddles.del k }
        let s := (s.entryWrite q target ⟨Code.aborted, 0, 0, 0, 0⟩).qCounts q
        s.abortDecide q tag Code.aborted
      | none =>
        if (s.firedTags q).contains target then s.onCmd q tag fun a => { a with abort := some target }
        else
          let late := match s.queue? q with
            | some x => x.doneTags.contains target
            | none => false
          s.abortDecide q tag (if late then Code.abortLate else Code.abortNoTarget)

/-- An ABORT that has met a target goes on once the target has completed: late, if it has not caught it (R127). -/
def abortsWake (s : State) (q target : Nat) : State :=
  match s.queue? q with
  | none => s
  | some x => x.cmds.foldl (fun t c =>
      if c.op = Op.abort ∧ c.abort = some target then
        (t.abortDecide q c.tag Code.abortLate).onCmd q c.tag fun a => { a with abort := none }
      else t) s

/-- Answers to a HOLD round (R126, R131): an ABORT cancels all or releases all; a freeze or an error cancels what was held. -/
def holdAnswered (s : State) (q tag dev : Nat) (heldIt : Bool) : State :=
  match s.cmd? q tag with
  | none => s
  | some c => match c.hold with
    | none => s
    | some who =>
      if !c.asked.contains dev || c.answers.any (fun a => a.1 == dev) then s
      else
        let answers := c.answers ++ [(dev, heldIt)]
        let s := s.onCmd q tag fun c => { c with answers := answers }
        let ps := s.partList c.parts
        let tell (s : State) (d n : Nat) : State := match ps.find? fun e => e.2.dev == d with
          | some e => s.emit ⟨.partCtl, d, [e.2.grp, n], []⟩
          | none => s
        if who = 65536 then
          let s := if heldIt then (ps.foldl (fun t e => if e.2.dev = dev ∧ e.2.st = .forwarded then
              t.onPart e.1 fun p => { p with st := .cancelled } else t) s) else s
          let s := if heldIt then tell s dev 1 else s
          match s.cmd? q tag with
          | some c => s.settleCmd q c
          | none => s
        else if c.asked.all fun d => answers.any fun a => a.1 == d then
          if answers.all (·.2) && s.targetOpen q c then s.catchTarget q c who
          else
            let s := ps.foldl (fun t e => t.onPart e.1 fun p => { p with onHold := false }) s
            let s := (answers.filter (·.2)).foldl (fun t a => tell t a.1 2) s
            s.onCmd q tag fun c => { c with hold := none }
        else s

/-! Completion (R121 to R123). -/

/-- The completion of a command may be issued now. -/
def mayComplete (x : Queue) (c : Cmd) : Bool :=
  c.outcome.isSome && c.awaiting.isEmpty && (!c.writeClass || (allBefore x c && !(earlier x c.tag).any Cmd.writeClass)) &&
    match c.abort with
    | some target => !x.cmds.any fun d => d.tag == target
    | none => true

/-- Issue a command's completion: its entry, its tag free, its parts and ingress units given back; then the answer of its
message and the ABORTs that waited for it. -/
def completeCmd (s : State) (q tag : Nat) : State :=
  match s.queue? q with
  | none => s
  | some x => match x.cmds.find? fun c => c.tag == tag with
    | none => s
    | some c => match c.outcome with
      | none => s
      | some d =>
        if !mayComplete x c then s
        else
          let s := { s with parts := s.parts.filter fun e => !c.parts.contains e.1 }
          let s := s.onQueue q fun x => { x with cmds := x.cmds.filter fun e => e.tag != tag }
          ((s.complete q tag (some c.op) d).abortsWake q tag).closeMsgs q

/-! The rows. -/

/-- READ (R116, R123). -/
def doRead (s : State) (q tag : Nat) : State :=
  s.startCmd q tag Op.read fun s _ c => s.startAccess q c .read c.length [] []
def doWrite (s : State) (q tag : Nat) : State :=
  s.startCmd q tag Op.write fun s _ c => s.startAccess q c .write c.length c.data []
def doWriteAtomic (s : State) (q tag : Nat) : State :=
  s.startCmd q tag Op.writeAtomic fun s _ c => s.startAccess q c .unit c.length c.data []
def doCompareWrite (s : State) (q tag : Nat) : State :=
  s.startCmd q tag Op.compareWrite fun s _ c =>
    s.startAccess q c .compare c.length (c.data.take c.length) (c.data.drop c.length)
def doFetchAdd (s : State) (q tag : Nat) : State :=
  s.startCmd q tag Op.fetchAdd fun s _ c => s.startAccess q c .fetchAdd 8 (toBytes 8 (c.q 3)) []

/-- APPEND (R118, R425): one part, for the lead that holds the frontier, with the domain whose mappings have to hold the bytes. -/
def doAppend (s : State) (q tag : Nat) : State :=
  s.startCmd q tag Op.append fun s _ c => match c.tgt with
    | none => s
    | some t =>
      let p := { State.newPart (.cmd q tag) .append (s.leadDev t.region (s.frontier t.region)) t.region t.off c.length c.data [] with
        expect := if bit (c.q 0) 9 then some (c.q 3) else none, lim := s.qDomain q }
      let s := s.onCmd q tag fun c => { c with parts := [s.nextPart] }
      s.startPart p

/-- INVOKE (R175): one part, for the lead of the granule that holds ADDR, or for this device. -/
def doInvoke (s : State) (q tag : Nat) : State :=
  s.startCmd q tag Op.invoke fun s _ c =>
    let dom := s.qDomain q
    let m := (c.tgt.map (·.map)).getD 0
    let rights := b2n (s.mapRight dom m .read) + 2 * b2n (s.mapRight dom m .write) + 4 * b2n (s.mapRight dom m .atomic)
    let data := [c.q 3, dom, rights, c.q 4, c.q 7, q, tag, m].flatMap (toBytes 8)
    let (dev, r, off) := match c.tgt with
      | some t => (s.leadDev t.region t.off, t.region, t.off)
      | none => (s.index, 0, 0)
    let s := s.onCmd q tag fun c => { c with parts := [s.nextPart] }
    s.startPart (State.newPart (.cmd q tag) .invoke dev r off c.length data [])

/-- ELOG_READ (R134). -/
def doElogRead (s : State) (q tag : Nat) : State :=
  s.startCmd q tag Op.elogRead fun s x c =>
    let next := s.f F.Q_SEQ_ELOG_NEXT q
    let seqOf (e : List U64) : Nat := bits (e.getD 7 0).toNat 63 32
    let es := (x.elog.filter fun e => c.q 3 ≤ seqOf e).take (c.length / 64)
    let oldest := (x.elog.head?.map seqOf).getD next
    let skipped := Nat.min 255 (oldest - c.q 3)
    let after := match es.getLast? with
      | some e => seqOf e + 1
      | none => next
    let a := x.txNext
    let s := s.onQueue q fun x => { x with elogSeen := x.elogSeen ++ (es.map seqOf).filter fun k => !x.elogSeen.contains k }
    let s := if es.isEmpty then s
      else s.sendData q Pkt.readResp tag (c.q 6) (c.q 5) (es.flatMap fun e => e.flatMap fun v => toBytes 8 v.toNat)
    let w := if es.isEmpty ∨ !s.isBraid q then [] else s.psnsSince q a
    (s.onCmd q tag fun c => { c with awaiting := w, sent := true }).setDone q tag
      ⟨0, skipped, BitVec.ofNat 64 (es.length <<< 32 ||| after % 2 ^ 32), 64 * es.length, 0⟩

/-- QUEUE_RESTART (R135). -/
def doQueueRestart (s : State) (q tag : Nat) : State :=
  s.startCmd q tag Op.queueRestart fun s _ c =>
    if s.qState q = QS.frozen ∧ c.q 3 = s.f F.Q_STATUS_FREEZE_SEQ q then
      ((s.setF F.Q_STATUS_STATE QS.ready q).event 0x0303 [s.dqn q, s.f F.Q_STATUS_FREEZE_SEQ q]).setDone q tag ⟨0, 0, 0, 0, 0⟩
    else s.setDone q tag ⟨Code.invalid, 0, 0, 0, 0⟩

/-- KILL (R143, R145). -/
def doKill (s : State) (q : Nat) : State := s.errorQueue q 5

/-- Every command of a CLOSING queue is complete (R142): the queue is FREE. -/
def doQueueCloseDone (s : State) (q : Nat) : State :=
  match s.queue? q with
  | none => s
  | some x =>
    if s.qState q = QS.closing ∧ x.cmds.isEmpty ∧ (s.firedTags q).isEmpty then
      -- what the queue's open messages and parked packets held is free again
      let s := (s.poolGive 0 ((x.msgs.filter fun m => !m.closed).foldl (fun n m => n + m.units) 0)).poolGive 2
        (x.parked.foldl (fun n e => n + e.1) 0)
      let s := { s with parts := s.parts.filter fun e => match e.2.org with
        | .msg q' _ => q' != q
        | _ => true }
      let s := { s with queues := s.queues.del q, fiddles := s.fiddles.filter fun e => e.2.q != q }
      let s := (s.setF F.Q_STATUS_STATE QS.free q).qCounts q
      let s := if s.flag F.Q_STATUS_RESIDENT q then
          (s.setF F.Q_STATUS_RESIDENT 0 q).setF F.TP_QUEUE_STAT_RESIDENT (s.f F.TP_QUEUE_STAT_RESIDENT - 1) else s
      s.eddyXon.event 0x0307 [s.dqn q]
    else s

end State

/-! The meanings. -/

def execRead (q tag : Nat) (s : State) : Host.Outcome State Fault Refusal := .next (s.doRead q tag)
def execWrite (q tag : Nat) (s : State) : Host.Outcome State Fault Refusal := .next (s.doWrite q tag)
def execWriteAtomic (q tag : Nat) (s : State) : Host.Outcome State Fault Refusal := .next (s.doWriteAtomic q tag)
def execCompareWrite (q tag : Nat) (s : State) : Host.Outcome State Fault Refusal := .next (s.doCompareWrite q tag)
def execFetchAdd (q tag : Nat) (s : State) : Host.Outcome State Fault Refusal := .next (s.doFetchAdd q tag)
def execInvoke (q tag : Nat) (s : State) : Host.Outcome State Fault Refusal := .next (s.doInvoke q tag)
/-- ABORT (R124): its target is named by ARG0. -/
def execAbort (q tag : Nat) (s : State) : Host.Outcome State Fault Refusal :=
  .next (s.startCmd q tag Op.abort fun s _ c => s.runAbort q tag c)
def execAppend (q tag : Nat) (s : State) : Host.Outcome State Fault Refusal := .next (s.doAppend q tag)
def execElogRead (q tag : Nat) (s : State) : Host.Outcome State Fault Refusal := .next (s.doElogRead q tag)
def execQueueRestart (q tag : Nat) (s : State) : Host.Outcome State Fault Refusal := .next (s.doQueueRestart q tag)
/-- PART_COMPLETION (R130). -/
def execPartCompletion (pid : Nat) (s : State) : Host.Outcome State Fault Refusal := .next (s.comeHome pid)
/-- COMMAND_COMPLETION (R121). -/
def execCommandCompletion (q tag : Nat) (s : State) : Host.Outcome State Fault Refusal := .next (s.completeCmd q tag)

/-- PART_HOLD (R126): answer HELD for a forwarded part all of whose pieces can still be caught, which then stays held; an INVOKE
leaves its cluster's queue. -/
def execPartHold (src pid : Nat) (s : State) : Host.Outcome State Fault Refusal :=
  let g := s.parts.filter fun e => e.2.grp == pid && State.sameHome e.2.org (.remote src pid)
  let begun := s.eng.threads.vals.any fun h => h.start == Start.remote src pid
  .next (if g.isEmpty || begun || !g.all (fun e => State.catchable e.2) then s.emit ⟨.holdAnswer, src, [pid, 0], []⟩
    else
      let s := g.foldl (fun (t : State) e => t.onPart e.1 fun p =>
        { p with onHold := true, st := if p.kind = .invoke then .waiting else p.st }) s
      (s.dropInv (.remote src pid)).emit ⟨.holdAnswer, src, [pid, 1], []⟩)

/-- PART_HOLD_ANSWER (R126). -/
def execPartHoldAnswer (q tag dev : Nat) (held : Bool) (s : State) : Host.Outcome State Fault Refusal :=
  .next (s.holdAnswered q tag dev held)

/-- PART_CANCEL_OR_RELEASE (R126): a held part is cancelled, or goes on. -/
def execPartCancelOrRelease (src pid : Nat) (cancel : Bool) (s : State) : Host.Outcome State Fault Refusal :=
  .next (if cancel then { s with parts := s.parts.filter fun e => !(e.2.grp == pid && State.sameHome e.2.org (.remote src pid)) }
    else (s.parts.filter fun e => e.2.grp == pid && State.sameHome e.2.org (.remote src pid)).foldl (fun (t : State) e =>
      t.onPart e.1 fun p => { p with onHold := false }) s)

/-- QUEUE_CLOSE_DONE (R142). -/
def execQueueCloseDone (q : Nat) (s : State) : Host.Outcome State Fault Refusal := .next (s.doQueueCloseDone q)
/-- KILL (R143). -/
def execKill (q : Nat) (s : State) : Host.Outcome State Fault Refusal := .next (s.doKill q)
/-- ELOG_WORD_SELECT (R145): the two selectors of Q_CMD take the value's bits. -/
def execElogWordSelect (q : Nat) (v : U64) (s : State) : Host.Outcome State Fault Refusal :=
  .next ((s.setF F.Q_CMD_ELOG_SEL (bits v.toNat 15 12) q).setF F.Q_CMD_ELOG_WORD (bits v.toNat 11 9) q)

end Sys2Proof.Machine
end

