-- ==== Sys2Proof/Machine/SmigaFlow.lean ====
section
/-! DEFINITION. The control-flow instructions (R191 to R193). -/

namespace Sys2Proof.Machine

/-- The index of the ENDL that pairs with the LOOP at `pc` (R192): the first one after it at the same depth. -/
def endlFrom (img : List U64) : Nat → Nat → Nat → Nat
  | 0, i, _ => i
  | fuel + 1, i, depth =>
    match img[i]? with
    | none => i
    | some w =>
      let op := w.toNat >>> 56
      if op = 0x27 then endlFrom img fuel (i + 1) (depth + 1)
      else if op = 0x28 then (if depth = 0 then i else endlFrom img fuel (i + 1) (depth - 1))
      else endlFrom img fuel (i + 1) depth

def endlOf (img : List U64) (pc : Nat) : Nat := endlFrom img img.length (pc + 1) 0

/-- Leave the loops whose ENDL a forward target passes (R193). -/
def popLoops (loops : List (Nat × Nat × Nat)) (target : Nat) : List (Nat × Nat × Nat) :=
  loops.dropWhile fun l => decide (l.2.2 < target)

namespace Thread

/-- Take a branch (R191, R193). -/
def jump (h : Thread) (imm : Imm) : Thread :=
  let target := h.pc + imm.toNat
  { h.goto 1 target with loops := popLoops h.loops target }

/-- A conditional branch (R191). -/
def branch (h : Thread) (c : Bool) (imm : Imm) : Thread := if c then h.jump imm else h.adv 1

/-- LOOP (R192): `skip` is the index after the paired ENDL. -/
def openLoop (h : Thread) (a : GReg) (n endl : Nat) : Thread :=
  let count := if a = 0 then n else Nat.min (h.rg a).toNat n
  if count = 0 then h.goto 1 (endl + 1)
  else { h.goto 1 (h.pc + 1) with loops := (count, h.pc + 1, endl) :: h.loops }

/-- ENDL (R192). -/
def closeLoop (h : Thread) : Thread :=
  match h.loops with
  | (c, start, e) :: rest =>
    if c - 1 ≠ 0 then { h.goto 1 start with loops := (c - 1, start, e) :: rest }
    else { h.adv 1 with loops := rest }
  | [] => h.adv 1

end Thread

namespace State

/-- A branch instruction of a thread. -/
def branch (s : State) (t op : Nat) (a b : GReg) (imm : Imm) (c : U64 → U64 → Bool) : State :=
  s.issue t (iword op 0 a.toNat b.toNat 0 0 imm) fun h => s.setThread t (h.branch (c (h.rg a) (h.rg b)) imm)

/-- The charge of an instruction that ends its program. -/
def stopWith (s : State) (t : Nat) (h : Thread) (e : End) : State :=
  s.endThread t { h with charged := h.charged + 1 } e

end State

/-- BEQ (R191). -/
def execBeq (t : Nat) (a b : GReg) (imm : Imm) (s : State) : Host.Outcome State Fault Refusal :=
  .next (s.branch t 0x20 a b imm fun x y => decide (x = y))

/-- BNE (R191). -/
def execBne (t : Nat) (a b : GReg) (imm : Imm) (s : State) : Host.Outcome State Fault Refusal :=
  .next (s.branch t 0x21 a b imm fun x y => decide (x ≠ y))

/-- BLT (R191). -/
def execBlt (t : Nat) (a b : GReg) (imm : Imm) (s : State) : Host.Outcome State Fault Refusal :=
  .next (s.branch t 0x22 a b imm fun x y => x.slt y)

/-- BGE (R191). -/
def execBge (t : Nat) (a b : GReg) (imm : Imm) (s : State) : Host.Outcome State Fault Refusal :=
  .next (s.branch t 0x23 a b imm fun x y => !x.slt y)

/-- BLTU (R191). -/
def execBltu (t : Nat) (a b : GReg) (imm : Imm) (s : State) : Host.Outcome State Fault Refusal :=
  .next (s.branch t 0x24 a b imm fun x y => x.ult y)

/-- BGEU (R191). -/
def execBgeu (t : Nat) (a b : GReg) (imm : Imm) (s : State) : Host.Outcome State Fault Refusal :=
  .next (s.branch t 0x25 a b imm fun x y => !x.ult y)

/-- JMPF (R191, R193). -/
def execJmpf (t : Nat) (imm : Imm) (s : State) : Host.Outcome State Fault Refusal :=
  .next (s.issue t (iword 0x26 0 0 0 0 0 imm) fun h => s.setThread t (h.jump imm))

/-- LOOP (R192). -/
def execLoop (t : Nat) (a : GReg) (imm : Imm) (s : State) : Host.Outcome State Fault Refusal :=
  .next (s.issue t (iword 0x27 0 a.toNat 0 0 0 imm) fun h =>
    s.setThread t (h.openLoop a imm.toNat (endlOf h.img h.pc)))

/-- ENDL (R192). -/
def execEndl (t : Nat) (s : State) : Host.Outcome State Fault Refusal :=
  .next (s.issue t (iword 0x28 0 0 0 0 0 0) fun h => s.setThread t h.closeLoop)

/-- YIELD: the thread issues nothing more in the current cycle (R191); with one instruction a step it goes on to the next. -/
def execYield (t : Nat) (s : State) : Host.Outcome State Fault Refusal :=
  .next (s.regs t (iword 0x2B 0 0 0 0 0 0) 1 fun h => h)

end Sys2Proof.Machine
end

