-- ==== Sys2Proof/Machine/Verifier.lean ====
section
/-! DEFINITION. The verifier of Smiga programs (R169 to R171) with the forms of the instructions (R184 to R197, R199 to R210): which
fields an instruction uses, the kinds of handle it needs, its charge, and the worst-case charge of a program. -/

namespace Sys2Proof.Machine

/-- How a register field of an instruction is used (R185, R187). -/
inductive Use where
  | no | g | v | pair
  deriving DecidableEq, Repr

/-- How imm32 is used (R186): unused, signed, unsigned in a range, a forward count, a loop count. -/
inductive ImmUse where
  | no | signed | range (lo hi : Nat) | off | count
  deriving DecidableEq, Repr

/-- The form of an instruction: fields d, a, b, the kinds of handle that h may be declared as (empty: h unused), the kinds of a
second handle in m[2:0], the bits of m it uses, imm32, and its charge (R149). -/
structure Form where
  d : Use
  a : Use
  b : Use
  h : List Nat
  hb : List Nat
  m : Nat
  imm : ImmUse
  cost : Nat
  deriving DecidableEq, Repr

/-- The fields of an instruction word (R184). -/
structure Fields where
  op : Nat
  d : Nat
  a : Nat
  b : Nat
  h : Nat
  m : Nat
  imm : Nat
  deriving DecidableEq, Repr

def fieldsOf (w : U64) : Fields :=
  let n := w.toNat
  ⟨bits n 63 56, bits n 55 51, bits n 50 46, bits n 45 41, bits n 40 38, bits n 37 32, bits n 31 0⟩

/-- Charge of a BULK instruction (R149). -/
def bulk (imm : Nat) : Nat := 1 + ceilDiv imm 64

/-- Integer and control-flow forms (R190, R191). -/
def formFlow (f : Fields) : Option Form :=
  let g3 (m cost : Nat) : Option Form := some ⟨.g, .g, .g, [], [], m, .no, cost⟩
  let gi (i : ImmUse) (m : Nat) : Option Form := some ⟨.g, .g, .no, [], [], m, i, 1⟩
  let op := f.op
  if op = 0x03 then g3 0 2
  else if op = 0x04 then g3 1 2
  else if 0x01 ≤ op ∧ op ≤ 0x0F then g3 0 1
  else if 0x10 ≤ op ∧ op ≤ 0x13 then gi .signed 0
  else if op = 0x14 then gi (.range 0 63) 0
  else if op = 0x15 then gi (.range 0 63) 1
  else if op = 0x16 then gi (.range 0 (2 ^ 32 - 1)) 0
  else if op = 0x17 then some ⟨.g, .no, .no, [], [], 0, .signed, 1⟩
  else if 0x18 ≤ op ∧ op ≤ 0x1B then gi .no 0
  else if op = 0x1C then g3 0x1F 1
  else if 0x1D ≤ op ∧ op ≤ 0x1F then (if bit f.m 0 then gi .signed 1 else g3 1 1)
  else if 0x20 ≤ op ∧ op ≤ 0x25 then some ⟨.no, .g, .g, [], [], 0, .off, 1⟩
  else if op = 0x26 then some ⟨.no, .no, .no, [], [], 0, .off, 1⟩
  else if op = 0x27 then some ⟨.no, .g, .no, [], [], 0, .count, 1⟩
  else if op = 0x28 ∨ op = 0x2B then some ⟨.no, .no, .no, [], [], 0, .no, 1⟩
  else if op = 0x29 then some ⟨.no, .g, .no, [], [], 0, .no, 1⟩
  else if op = 0x2A then some ⟨.no, .g, .no, [], [], 0, .range 0 127, 1⟩
  else none

/-- Memory, atomic and persistence forms (R194 to R198). -/
def formMem (f : Fields) : Option Form :=
  let op := f.op
  let rb := [1, 2]
  if 0x30 ≤ op ∧ op ≤ 0x33 then some ⟨.g, .g, .no, rb, [], 1, .signed, 1⟩
  else if 0x34 ≤ op ∧ op ≤ 0x37 then some ⟨.no, .g, .g, rb, [], 0, .signed, 1⟩
  else if op = 0x38 then
    (if bit f.m 0 then some ⟨.v, .no, .no, [], [], 1, .range 0 255, 1⟩ else some ⟨.v, .g, .no, rb, [], 1, .signed, 1⟩)
  else if op = 0x39 then
    (if bit f.m 0 then some ⟨.no, .no, .v, [], [], 1, .range 0 255, 1⟩ else some ⟨.no, .g, .v, rb, [], 1, .signed, 1⟩)
  else if op = 0x3A then some ⟨.v, .v, .no, [], [], 0, .no, 1⟩
  else if op = 0x3B then some ⟨.g, .v, .no, [], [], 3, .range 0 63, 1⟩
  else if op = 0x3C then some ⟨.v, .no, .g, [], [], 3, .range 0 63, 1⟩
  else if op = 0x3D then some ⟨.v, .g, .no, rb, [], 7, .signed, 1⟩
  else if op = 0x3E then some ⟨.no, .g, .v, rb, [], 7, .signed, 1⟩
  else if op = 0x3F ∨ op = 0x41 then some ⟨.g, .g, .g, rb, rb, 7, .range 1 65536, bulk f.imm⟩
  else if op = 0x40 then some ⟨.g, .g, .g, rb, [], 0, .range 1 65536, bulk f.imm⟩
  else if op = 0x51 then some ⟨.pair, .g, .pair, [1], [], 0, .signed, 2⟩
  else if op = 0x56 then some ⟨.g, .g, .g, [1], [], 1, .signed, 2⟩
  else if 0x50 ≤ op ∧ op ≤ 0x55 then some ⟨.g, .g, .g, [1], [], 0, .signed, 2⟩
  else if op = 0x57 then some ⟨.v, .g, .v, [1], [], 0x1F, .signed, 2⟩
  else if op = 0x60 ∨ op = 0x61 ∨ op = 0x63 then some ⟨.no, .no, .no, [], [], 0, .no, 2⟩
  else if op = 0x62 then some ⟨.g, .no, .no, [], [], 0, .no, 2⟩
  else if op = 0x64 then some ⟨.g, .no, .no, [], [], 0, .no, 1⟩
  else none

/-- Queue, buffer, cache, stream, cipher, control, event and time forms (R199 to R210). -/
def formService (f : Fields) : Option Form :=
  let op := f.op
  let dh (k : List Nat) : Option Form := some ⟨.g, .no, .no, k, [], 0, .no, 4⟩
  let dha (k : List Nat) : Option Form := some ⟨.g, .g, .no, k, [], 0, .no, 4⟩
  let du (lo hi : Nat) : Option Form := some ⟨.g, .no, .no, [], [], 0, .range lo hi, 4⟩
  if op = 0x68 then some ⟨.g, .pair, .g, [3], [2], 7, .range 1 65536, 4⟩
  else if op = 0x69 then some ⟨.g, .g, .g, [3], [], 0, .range 0 255, 4⟩
  else if op = 0x6A then some ⟨.g, .pair, .v, [3], [], 0, .range 1 64, 4⟩
  else if op = 0x6B then dha [2]
  else if op = 0x6C then some ⟨.g, .g, .no, [], [], 0, .no, 4⟩
  else if op = 0x70 then some ⟨.g, .no, .no, [2], [], 0, .range 0 15, 4⟩
  else if 0x71 ≤ op ∧ op ≤ 0x74 then dh [2]
  else if op = 0x78 then
    (if bit f.m 0 then some ⟨.g, .no, .no, [], [], 1, .range 0 255, 4⟩ else some ⟨.g, .g, .g, [1], [], 1, .signed, 4⟩)
  else if op = 0x79 ∨ op = 0x7A then some ⟨.g, .g, .g, [1], [], 0, .signed, 4⟩
  else if op = 0x7B ∨ op = 0x7C then
    (if bit f.m 0 then some ⟨.g, .no, .no, [], [], 1, .range 0 255, 4⟩ else some ⟨.g, .g, .no, [1], [], 1, .signed, 4⟩)
  else if op = 0x7D ∨ op = 0x7E then du 0 255
  else if op = 0x7F then some ⟨.g, .g, .no, [], [], 0, .no, 4⟩
  else if op = 0x80 then some ⟨.g, .g, .g, [4], [2], 7, .no, 4⟩
  else if op = 0x81 ∨ op = 0x82 then dha [4]
  else if op = 0x83 then dh [4]
  else if op = 0x88 ∨ op = 0x89 then some ⟨.g, .g, .g, [2], [], 7, .range 16 65536, bulk f.imm⟩
  else if op = 0x8A then some ⟨.g, .g, .v, [1, 2], [], 0, .range 1 65536, bulk f.imm⟩
  else if op = 0x8B then dh [1]
  else if op = 0x90 ∨ op = 0x93 then some ⟨.g, .g, .g, [], [], 0, .no, 4⟩
  else if op = 0x91 then some ⟨.g, .g, .no, [], [], 1, .no, 4⟩
  else if op = 0x92 ∨ op = 0x99 ∨ op = 0x9A then some ⟨.g, .no, .no, [], [], 0, .no, 4⟩
  else if op = 0x94 then du 1 1024
  else if op = 0x95 then some ⟨.no, .no, .no, [], [], 0, .range 1 2, 4⟩
  else if op = 0x98 then some ⟨.no, .g, .no, [], [], 0, .range 0 127, 4⟩
  else if op = 0x9B then some ⟨.no, .g, .no, [], [], 0, .range 0 7, 4⟩
  else none

/-- The form of an instruction word; none for an undefined opcode (R188). -/
def formOf (f : Fields) : Option Form :=
  match formFlow f with
  | some x => some x
  | none => match formMem f with
    | some x => some x
    | none => formService f

/-- A register field obeys its use (R185, R187). -/
def useOk (u : Use) (x : Nat) : Bool := match u with
  | .no => x == 0
  | .g => true
  | .v => decide (x < 8)
  | .pair => x % 2 == 0

/-- Reserved bits, immediate ranges, register pairs and runs (VERR 0x02). -/
def encodingOk (f : Fields) (x : Form) : Bool :=
  useOk x.d f.d && useOk x.a f.a && useOk x.b f.b && (!x.h.isEmpty || f.h == 0) && (f.m &&& x.m) == f.m &&
    (match x.imm with
      | .no => f.imm == 0
      | .range lo hi => decide (lo ≤ f.imm ∧ f.imm ≤ hi)
      | _ => true) &&
    (!(f.op == 0x3B || f.op == 0x3C) || f.imm % 2 ^ (f.m % 4) == 0) &&
    (!(f.op == 0x3D) || decide (f.d + f.m % 8 ≤ 7)) && (!(f.op == 0x3E) || decide (f.b + f.m % 8 ≤ 7))

/-- A loop of the program: its LOOP and its ENDL. -/
abbrev LoopPair := Nat × Nat

/-- Pair LOOP and ENDL: the pairs, and the index of each instruction that cannot be paired or nests too deep (VERR 0x04). -/
def pairLoops (ops : List Nat) : List LoopPair × List Nat :=
  let (open_, pairs, bad, _) := ops.foldl (fun (acc : List Nat × List LoopPair × List Nat × Nat) op =>
    let (st, ps, bad, i) := acc
    if op = 0x27 then (i :: st, ps, if 4 ≤ st.length then bad ++ [i] else bad, i + 1)
    else if op = 0x28 then match st with
      | l :: rest => (rest, (l, i) :: ps, bad, i + 1)
      | [] => (st, ps, bad ++ [i], i + 1)
    else (st, ps, bad, i + 1)) ([], [], [], 0)
  (pairs, bad ++ open_)

def endlOfPair (ps : List LoopPair) (l : Nat) : Nat := match ps.find? fun p => p.1 == l with
  | some p => p.2
  | none => l
def loopOfPair (ps : List LoopPair) (e : Nat) : Nat := match ps.find? fun p => p.2 == e with
  | some p => p.1
  | none => e

def isBranch (op : Nat) : Bool := decide (0x20 ≤ op ∧ op ≤ 0x25)
def isEnd (op : Nat) : Bool := op == 0x29 || op == 0x2A

/-- A branch or JMPF goes into a loop body that does not hold it (R193). -/
def entersLoop (ps : List LoopPair) (i target : Nat) : Bool :=
  ps.any fun p => decide (p.1 < target ∧ target ≤ p.2) && !decide (p.1 < i ∧ i ≤ p.2)

/-- The successors of instruction `i`: the length of the program stands for running past its end. -/
def succs (ps : List LoopPair) (i : Nat) (f : Fields) : List Nat :=
  if isEnd f.op then []
  else if f.op = 0x26 then [i + f.imm]
  else if isBranch f.op then [i + 1, i + f.imm]
  else if f.op = 0x27 then (if f.a = 0 then [i + 1] else [i + 1, endlOfPair ps i + 1])
  else if f.op = 0x28 then [i + 1, loopOfPair ps i + 1]
  else [i + 1]

/-- What a path knows on reaching an instruction: it may be reached with no group open, with one open. -/
abbrev TxState := Bool × Bool

/-- The state after an instruction. -/
def txAfter (op : Nat) (x : TxState) : TxState :=
  if op = 0x61 then (false, x.1 || x.2) else if op = 0x62 ∨ op = 0x63 then (x.1 || x.2, false) else x

/-- One pass over the program in order: the states in which each instruction may be reached. -/
def txPass (ps : List LoopPair) (fs : List Fields) (m : SMap TxState) : SMap TxState :=
  (fs.zip (List.range fs.length)).foldl (fun m (f, i) =>
    let x := txAfter f.op (SMap.get m (false, false) i)
    if x = (false, false) then m
    else (succs ps i f).foldl (fun m t =>
      let y := SMap.get m (false, false) t
      SMap.put m t (y.1 || x.1, y.2 || x.2)) m) m

/-- The states, when no pass adds anything: two flags and four nested loops need at most ten passes. -/
def txStates (ps : List LoopPair) (fs : List Fields) : SMap TxState :=
  (List.range 10).foldl (fun m _ => txPass ps fs m) [(0, (true, false))]

/-- The greater of two optional charges; a sum of one. -/
def optMax (a b : Option Nat) : Option Nat := match a, b with
  | some x, some y => some (Nat.max x y)
  | some x, none => some x
  | none, y => y
def optAdd (k : Nat) (a : Option Nat) : Option Nat := a.map (k + ·)

/-- Add, at the front of `rest` (the vectors of instructions i + 1, i + 2, …), the vector of instruction `i`: entry 0 is the greatest
charge of a path from `i` to the program's end, entry k that of a path to the ENDL of the k-th enclosing loop, counted from the
outermost; `depth` loops enclose `i` (R169). -/
def worstStep (ps : List LoopPair) (i : Nat) (f : Fields) (cost : Nat) (rest : List (List (Option Nat))) : List (Option Nat) :=
  let at_ (t k : Nat) : Option Nat := (rest.getD (t - i - 1) []).getD k none
  let depth := (ps.filter fun p => decide (p.1 < i ∧ i ≤ p.2)).length
  if isEnd f.op then some cost :: List.replicate depth none
  else if f.op = 0x28 then List.replicate depth none ++ [some cost]
  else if f.op = 0x27 then
    let e := endlOfPair ps i
    let body := at_ (i + 1) (depth + 1)
    (List.range (depth + 1)).map fun k =>
      let leave := at_ (i + 1) k
      let after := at_ (e + 1) k
      optAdd cost (match body with
        | some b => optMax (optAdd ((f.imm - 1) * b) leave) (optAdd (f.imm * b) after)
        | none => optMax leave (if f.a = 0 then none else after))
  else
    (List.range (depth + 1)).map fun k => optAdd cost ((succs ps i f).foldl (fun m t => optMax m (at_ t k)) none)

/-- worst(0) of R169. -/
def worstCase (ps : List LoopPair) (fs : List (Fields × Nat)) : Nat :=
  let n := fs.length
  let table := (fs.zip (List.range n)).foldr (fun ((f, c), i) rest => worstStep ps i f c rest :: rest) []
  ((table.getD 0 []).getD 0 none).getD 0

/-- The outcome of a verification (R171): VERR, VSCOPE, VPC, and the worst-case charge. -/
structure Verdict where
  verr : Nat
  scope : Nat
  pc : Nat
  worst : Nat
  deriving DecidableEq, Repr

/-- A handle declaration is good (R154, R183): its kind, h0 a region or nothing, the length of a region. -/
def declOk (j : Nat) (w : U64) : Bool :=
  let n := w.toNat
  let kind := bits n 63 61
  decide (kind ≤ 4) && (j != 0 || decide (kind ≤ 1)) && bits n 51 32 == 0 &&
    (if kind = 1 then j == 0 || bits n 31 0 != 0 else bits n 31 0 == 0) && (kind == 3 || bits n 57 57 == 0)

/-- Rules 1 to 7 of R169 for instruction `i`, in their order; 0 if all hold. -/
def checkInstr (ctl : Bool) (kinds : List Nat) (n : Nat) (ps : List LoopPair) (bad : List Nat) (tx : SMap TxState)
    (i : Nat) (f : Fields) : Nat :=
  match formOf f with
  | none => 0x01
  | some x =>
    let st := SMap.get tx (false, false) i
    let reached := st.1 || st.2
    let jump := isBranch f.op || f.op == 0x26
    let kindOk (h : Nat) (ks : List Nat) : Bool := ks.isEmpty || ks.contains (kinds.getD h 0)
    if !encodingOk f x then 0x02
    else if jump && !decide (1 ≤ f.imm ∧ i + f.imm < n) then 0x03
    else if bad.contains i || (jump && entersLoop ps i (i + f.imm)) then 0x04
    else if f.op = 0x27 ∧ (f.imm = 0 ∨ 65535 < f.imm) then 0x05
    else if reached && (succs ps i f).contains n then 0x06
    else if !kindOk f.h x.h || !kindOk (f.m % 8) x.hb then 0x07
    else if (f.op = 0x61 ∧ st.2) ∨ ((f.op = 0x62 ∨ f.op = 0x63) ∧ st.1) ∨ (f.op = 0x29 ∧ st.2) then 0x08
    else if !ctl && decide (0x90 ≤ f.op ∧ f.op ≤ 0x95) then 0x09
    else 0

/-- The verifier (R171): header, handle declarations, each instruction, worst-case charge. -/
def verify (ctl : Bool) (ninstr budget : Nat) (decls img : List U64) : Verdict :=
  if ¬(1 ≤ ninstr ∧ ninstr ≤ 4096) ∨ ¬(1 ≤ budget ∧ budget ≤ 1048576) then ⟨0x0B, 1, 0, 0⟩
  else match (List.range 8).find? fun j => !declOk j (decls.getD j 0) with
    | some j => ⟨0x07, 2, j, 0⟩
    | none =>
      let fs := (List.range ninstr).map fun i => fieldsOf (img.getD i 0)
      let kinds := (List.range 8).map fun j => bits (decls.getD j 0).toNat 63 61
      let (ps, bad) := pairLoops (fs.map (·.op))
      let tx := txStates ps fs
      let verrs := (fs.zip (List.range ninstr)).map fun (f, i) => (i, checkInstr ctl kinds ninstr ps bad tx i f)
      match verrs.find? fun e => e.2 != 0 with
      | some (i, v) => ⟨v, 0, i, 0⟩
      | none =>
        let worst := worstCase ps (fs.map fun f => (f, match formOf f with
          | some x => x.cost
          | none => 0))
        if budget < worst then ⟨0x0A, 3, 0, worst⟩ else ⟨0, 0, 0, worst⟩

end Sys2Proof.Machine
end

