-- ==== Sys2Proof/Machine/Invoke.lean ====
section
/-! DEFINITION. Invocations and control programs from start to end (R148, R151 to R155, R168, R173 to R181, R200, R214 to R216). -/

namespace Sys2Proof.Machine

namespace State

/-- The control thread: thread 15 of engine E0 (R146). -/
def ctlThread : Nat := 15

/-- A free thread of a cluster (R146, R148). -/
def freeThread (s : State) (c : Nat) : Option Nat :=
  ((List.range 128).map (· + 128 * c)).find? fun t => t != ctlThread && (s.thread? t).isNone

/-- The handle declarations and the image of a slot (R183). -/
def slotDecls (s : State) (slot : Nat) : List U64 := (List.range 8).map fun j => s.word (wkey 8 slot (8 + j))
def slotImage (s : State) (slot : Nat) : List U64 :=
  (List.range (s.f F.PRG_CTL_NINSTR slot)).map fun i => s.word (wkey 8 slot (64 + i))

/-- The registers at the start of a program (R151, R215). -/
def startRegs (s : State) (g1 g2 g3 : U64) : Vector U64 32 :=
  (((((Vector.replicate 32 0).set 1 g1).set 2 g2).set 3 g3).set 4 (BitVec.ofNat 64 s.index))

/-- THREADS_BUSY counts the threads that run invocations. -/
def threadCount (s : State) : State :=
  s.setF F.ENG_STAT_THREADS_BUSY (s.eng.threads.filter fun e => e.1 != ctlThread).length

/-- Check 6 of R22 for a granule on another device, from what that device has told (R23): whether it is in service, and for a durable
granule its twin state. -/
def bindAway (s : State) (r dev : Nat) : Option Nat :=
  if s.deadEnd dev r || !s.inService dev then some Code.unavailable
  else if !s.isDurable r then none
  else if dev = s.index ^^^ 1 then
    (if s.tstate = TS.unpaired ∨ (s.tstate = TS.pairing ∧ s.twin.fromSolo = false) then some Code.unavailable
     else if s.tstate = TS.fenced ∧ s.twinServes = false then some Code.twinLost else none)
  else if s.peerState dev = TS.unpaired ∨ s.peerState dev = TS.pairing then some Code.unavailable
  else if s.peerState dev = TS.fenced then some Code.twinLost else none

/-- Check 6 of R22 for a handle's range: the first refusal. -/
def bind6 (s : State) (dom : Option (Nat × Nat)) (r o n : Nat) : Nat :=
  ((s.handlePieces dom r true (n / granBytes + 2) o n).findSome? fun (dev, b, _) =>
    if dev = s.index then
      match s.admit6 r b false with
      | .fail c => some c
      | _ => none
    else s.bindAway r dev).getD 0

/-- Bind a handle of an invocation by its declaration (R152, R154): the handle, or the code of the first failing check. -/
def bindHandle (s : State) (i : Inv) (g : Vector U64 32) (decl : Nat) : Nat ⊕ Handle :=
  let src := (g[bits decl 56 52]?.getD 0).toNat
  let n := bits decl 31 0
  let kind := bits decl 63 61
  if kind = 1 then
    match s.findMap i.dom src with
    | none => .inl Code.bounds
    | some m =>
      let (r, off, left) := s.mapPlace i.dom m src
      let lg := s.regionClass r == Cls.log
      if 2 ^ 52 ≤ src ∨ left < n then .inl Code.bounds
      else if !s.mapRight i.dom m .invoke ∨ s.regionClass r = Cls.stream then .inl Code.access
      else if !s.regionValid r ∨ s.f F.REG_STATE_REVOKE_STATE r ≠ 0 then .inl Code.revoked
      else
        let c := s.bind6 (some (i.dom, m)) r off n
        if c ≠ 0 then .inl c
        else .inr (.region (some (i.dom, m)) r off n (bit decl 60 && s.mapRight i.dom m .read)
          (bit decl 59 && s.mapRight i.dom m .write && !lg) (bit decl 58 && s.mapRight i.dom m .atomic && !lg))
  else if kind = 3 then
    let here : Option Nat := if bits decl 56 52 = 0 then
        (match i.start with
          | .invoke q _ => some q
          | .fiddle q _ _ => some q
          | _ => none)
      else s.homed src
    match here with
    | some q => if s.qState q ≠ QS.free ∧ s.qDomain q = i.dom then .inr (.queue q (bit decl 57)) else .inl Code.access
    | none => .inl Code.access
  else if kind = 4 then
    match s.findMap i.dom src with
    | none => .inl Code.bounds
    | some m =>
      let (r, _, _) := s.mapPlace i.dom m src
      if 2 ^ 52 ≤ src then .inl Code.bounds
      else if !s.mapRight i.dom m .read ∨ s.regionClass r ≠ Cls.stream then .inl Code.access
      else if !s.regionValid r ∨ s.f F.REG_STATE_REVOKE_STATE r ≠ 0 then .inl Code.revoked
      else .inr (.stream (some (i.dom, m)) r (bit decl 60))
  else .inr .invalid

/-- Bind a handle of a control program to stack addresses and device queue numbers (R180). -/
def bindControl (s : State) (g : Vector U64 32) (decl : Nat) : Nat ⊕ Handle :=
  let src := (g[bits decl 56 52]?.getD 0).toNat
  let n := bits decl 31 0
  let kind := bits decl 63 61
  let dev := src / 2 ^ 44
  let x := src % 2 ^ 44
  let region : Option Nat := if 64 ≤ dev then none
    else (s.ctl.filter fun e => keySpace e.1 == 6 && keyWord e.1 == 0).map (fun e => keyRec e.1) |>.find? fun r =>
      s.regionValid r && (s.regionPairs r).contains (dev / 2) && decide (s.regionBase r ≤ x / granBytes ∧
        x / granBytes < s.regionBase r + s.regionLen r / s.regionK r)
  if kind = 1 ∨ kind = 4 then
    match region with
    | none => .inl Code.bounds
    | some r =>
      let rel := x - s.regionBase r * granBytes
      let j := (s.regionPairs r).idxOf (dev / 2)
      let o := j * 2 ^ 44 + rel
      if s.regionLen r / s.regionK r * granBytes < rel + n then .inl Code.bounds
      else if (kind = 1) = (s.regionClass r = Cls.stream) then .inl Code.access
      else if s.f F.REG_STATE_REVOKE_STATE r ≠ 0 then .inl Code.revoked
      else if kind = 4 then .inr (.stream none r (bit decl 60))
      else
        let c := s.bind6 none r o n
        let lg := s.regionClass r == Cls.log
        if c ≠ 0 then .inl c
        else .inr (.region none r o n (bit decl 60) (bit decl 59 && !lg) (bit decl 58 && !lg))
  else if kind = 3 then
    match (if bits decl 56 52 = 0 then none else s.homed src) with
    | some q => if s.qState q ≠ QS.free then .inr (.queue q (bit decl 57)) else .inl Code.access
    | none => .inl Code.access
  else .inr .invalid

/-- Bind h1 to h7 in turn: the handles, or the code of the first that fails. -/
def bindAll (bind : Nat → Nat ⊕ Handle) (h0 : Handle) (decls : List U64) : Nat ⊕ Vector Handle 8 :=
  ((List.finRange 8).drop 1).foldl (fun acc j => match acc with
    | .inl c => .inl c
    | .inr v => match bind (decls.getD j.val 0).toNat with
      | .inl c => .inl c
      | .inr x => .inr (v.set j.val x j.isLt)) (.inr ((Vector.replicate 8 Handle.invalid).set 0 h0))

/-! The outcome of an invocation (R121, R137, R175, R177, R200). -/

/-- The packets that an invocation has posted on its queue and the host has not acknowledged (R200). -/
def postedWait (s : State) (q : Nat) (posted : List Nat) : List Nat := match s.queue? q with
  | some x => if s.isBraid q then posted.filter fun p => (x.tx.any fun k => k.psn == p) || x.refused.any fun k => k.2.psn == p else []
  | none => []

/-- Give an outcome to what started the invocation: to the part of its INVOKE, or to the entry of its fiddlehead. -/
def invOutcome (s : State) (start : Start) (e : End) (posted : List Nat) : State :=
  match start with
  | .invoke q tag =>
    let s := s.onCmd q tag fun c => { c with awaiting := c.awaiting ++ s.postedWait q posted }
    match s.cmd? q tag with
    | some c => match c.parts with
      | pid :: _ => s.partDone pid e.code e.result e.detail
      | [] => s
    | none => s
  | .remote src id =>
    match s.parts.find? fun x => x.2.org == Origin.remote src id with
    | some (pid, _) => s.partDone pid e.code e.result e.detail
    | none => s
  | .fiddle q _ tag => (s.complete q tag none ⟨e.code, e.detail, e.result, 0, 0⟩).abortsWake q tag
  | .control _ => s

/-- An invocation does not start for a failed check (R25, R154, R153): a bounds failure counts for its domain (R22), and a fiddlehead's posts
event 0x0306 (R140). -/
def bindFails (s : State) (i : Inv) (code : Nat) : State :=
  let s := if code = Code.bounds then s.bump F.DOM_STATS_BOUNDS_FAILS i.dom else s
  let s := match i.start with
    | .fiddle _ k _ => s.event 0x0306 [k, code]
    | _ => s
  s.invOutcome i.start ⟨code, 0, 0⟩ []

/-- Work is routed to an engine: its clock runs (R379). -/
def wakeEngine (s : State) (t : Nat) : State :=
  { s with supply := { s.supply with gatedEngines := s.supply.gatedEngines.filter (· != t / 16) } }.setBitF F.CLK_STATUS_CLOCKED 0
    (t / 128) true

/-- INVOCATION_START (R148, R151, R154, R173): the invocation that has waited longest takes a free thread of the cluster. -/
def startInvocation (s : State) (c : Nat) : State :=
  match s.eng.waiting.find? fun (i : Inv) => i.cluster == c with
  | none => s
  | some i => match (if s.supply.gated.contains c then none else s.freeThread c) with
    | none => s
    | some t =>
      let s := (s.dropInv i.start).wakeEngine t
      let s := if i.since + 10000 < s.time then s.reachEvent 0x0405 c [c] else s
      if !s.slotOpen i.slot i.dom then s.bindFails i Code.invalid
      else
        let g := s.startRegs i.g1 i.g2 (BitVec.ofNat 64 i.len)
        -- h0 was bound at admission; checks 5 and 6 are made again (R25)
        let h0 : Nat := match i.h0 with
          | .region _ r off n _ _ _ =>
            if !s.regionValid r ∨ s.f F.REG_STATE_REVOKE_STATE r ≠ 0 then Code.revoked else s.bind6 (some (0, 0)) r off n
          | _ => 0
        let decls := s.slotDecls i.slot
        match (if h0 ≠ 0 then .inl h0 else bindAll (s.bindHandle i g) i.h0 decls) with
        | .inl code => s.bindFails i code
        | .inr hs =>
          let th : Thread := ⟨g, Vector.replicate 8 0, hs, 0, false, false, i.dom, 0, [], none, s.slotImage i.slot, decls, i.slot,
            false, s.f F.PRG_LIMITS_BUDGET i.slot, i.start, i.since, s.f F.PRG_LIMITS_TIMEOUT_US i.slot, false, none, none, none,
            none, [], none⟩
          let s := (s.bump F.PRG_STATS_INVOCATIONS i.slot).setF F.PRG_RUN_RUNNING (s.f F.PRG_RUN_RUNNING i.slot + 1) i.slot
          (s.setThread t th).threadCount

/-- A thread waits in PFENCE, TXE or an atomic (R176). -/
def syncWait (s : State) (t : Nat) (h : Thread) : Bool :=
  ((h.img[h.pc]?.map fun w => w.toNat >>> 56) == some 0x60 && s.storesPending t) ||
    (s.partsOf t).any fun e => (partAtomic e.2.kind || e.2.kind == .group) && e.2.st != .done

/-- The timeout passes (R176): the thread stops at its next boundary, after a wait in PFENCE, TXE or an atomic. -/
def timeoutThread (s : State) (t : Nat) : State :=
  match s.thread? t with
  | none => s
  | some h =>
    if h.ended.isSome then s
    else if s.syncWait t h then s.setThread t { h with timedOut := true }
    else s.endThread t h ⟨Code.programBudget, 0, 0⟩

/-- The end of a thread as its stores leave it (R168): a store that failed stands for a program that would have succeeded. -/
def finalEnd (s : State) (t : Nat) (e : End) : End :=
  if e.code ≠ 0 then e
  else match (s.partsOf t).find? fun x => x.2.kind == .write && x.2.st == .done && x.2.code != 0 with
    | some x => if x.2.code = Code.poisoned then ⟨Code.programFault, 0x06, 0⟩ else ⟨x.2.code, 0, 0⟩
    | none => e

/-- What an ended thread releases (R178): its open group, every reference it holds, its parts, its place in the lists it waits
in, and itself. -/
def freeThreadRes (s : State) (t : Nat) (h : Thread) : State :=
  let s := if h.tx.isSome then s.poolGive 1 1 else s
  let mine := s.bufs.filter fun e => decide (0 < e.2.held.get 0 t)
  let s := mine.foldl (fun (u : State) (e : Nat × Buf) => u.poolUnref e.1 t (e.2.held.get 0 t)) s
  let s := { s with parts := s.parts.filter fun e => decide (e.2.org ≠ Origin.thread t) }
  { s with eng := { s.eng with threads := s.eng.threads.del t } }.threadCount

/-- Record a program fault (R177, R182, R183). -/
def recordFault (s : State) (h : Thread) (e : End) : State :=
  let code := if e.code = Code.programBudget then 0x05 else e.detail
  if e.code ≠ Code.programBudget ∧ e.code ≠ Code.programFault then s
  else
    let s := (s.bump F.PRG_STATS_FAULTS h.slot).setF F.PRG_LAST_LAST_FAULT code h.slot
    let s := (s.setF F.PRG_LAST_LAST_PC h.pc h.slot).reachEvent 0x0403 h.slot [h.slot, code, h.pc]
    if e.code = Code.programBudget then s.reachEvent 0x0404 h.slot [h.slot] else s

/-- Write a control descriptor back (R215): QW6 and QW7, then QW0 with DONE; then MSI-X vector 1. -/
def writeBack (s : State) (i : Nat) (d : List U64) (outcome detail pc scope : Nat) (result : U64) : State :=
  let q6 := outcome <<< 56 ||| detail <<< 48 ||| pc <<< 36 ||| scope <<< 34
  let s := (s.emit ⟨.descriptor, 0, [i, 6, q6], []⟩).emit ⟨.descriptor, 0, [i, 7, result.toNat], []⟩
  let s := s.emit ⟨.descriptor, 0, [i, 0, (d.getD 0 0).toNat ||| 2 ^ 63], []⟩
  let s := s.emit ⟨.msix, 0, [1], []⟩
  let s := s.bump F.DEV_CTLSTAT_CTL_RUN
  if outcome = 0 then s else s.bump F.DEV_CTLSTAT_CTL_FAILED

/-- The outcome and the detail of a control program (R215). -/
def ctlOutcome (e : End) : Nat × Nat :=
  if e.code = 0 then (0x00, 0)
  else if e.code = Code.programFault then (0x02, e.detail)
  else if e.code = Code.programBudget then (0x03, 0x05)
  else (0x05, e.code)

/-- INVOCATION_COMPLETION (R168, R178, R200, R215): once every store of an ended program has settled (and, for a fiddlehead's
program, once the host has acknowledged what it posted), its outcome is issued and its thread freed. -/
def completeInvocation (s : State) (t : Nat) : State :=
  match s.thread? t with
  | none => s
  | some h => match h.ended with
    | none => s
    | some e0 =>
      let busy := (s.partsOf t).any fun x => x.2.kind == .write && x.2.st != .done
      let unacked := match h.start with
        | .fiddle q _ _ => !(s.postedWait q h.posted).isEmpty
        | _ => false
      if busy || unacked then s
      else
        let e := s.finalEnd t e0
        let s := s.histAdd 10 (s.time - h.began)
        let s := s.freeThreadRes t h
        match h.start with
        | .control _ =>
          let (o, d) := ctlOutcome e
          let pc := if o = 0x02 ∨ o = 0x03 then h.pc else 0
          let s := { s with stage := { s.stage with opened := none, closing := none } }
          let (i, desc) := s.eng.desc
          let s := { s with eng := { s.eng with desc := (0, []) } }.setF F.MGW_STATUS_CTL_BUSY 0
          s.writeBack i desc o d pc 0 e.result
        | st =>
          let s := s.recordFault h e
          let s := s.setF F.PRG_RUN_RUNNING (s.f F.PRG_RUN_RUNNING h.slot - 1) h.slot
          let s := if h.old then s.setF F.PRG_RUN_OLD_RUNNING (s.f F.PRG_RUN_OLD_RUNNING h.slot - 1) h.slot else s
          s.invOutcome st e h.posted

/-! Control programs (R180, R181, R214, R215). -/

/-- The checks of a control descriptor (R214): whether it is refused. -/
def descRefused (s : State) (d : List U64) : Bool :=
  let q (i : Nat) : Nat := (d.getD i 0).toNat
  let kind := bits (q 0) 7 0
  bits (q 0) 62 32 != 0 || bits (q 0) 15 8 != 0 || bits (q 2) 63 53 != 0 || bits (q 2) 31 13 != 0 || bits (q 5) 63 32 != 0 ||
    (if kind = 1 then !decide (1 ≤ q 5 ∧ q 5 ≤ 100000000)
     else if kind = 2 then q 2 != 0 || q 5 != 0 || bits (q 1) 63 10 != 0 ||
      !s.flag F.PRG_CTL_PVALID (q 1) || !s.flag F.PRG_CTL_CTLMODE (q 1)
     else true)

/-- Start a control program on the reserved thread, or end it without running if a handle does not bind (R180, R215). -/
def startControl (s : State) (i : Nat) (d decls img : List U64) (slot budget us : Nat) : State :=
  let g := s.startRegs (d.getD 3 0) (d.getD 4 0) 0
  match bindAll (s.bindControl g) .invalid decls with
  | .inl c => s.writeBack i d 0x05 c 0 0 0
  | .inr hs =>
    let th : Thread := ⟨g, Vector.replicate 8 0, hs, 0, true, false, 0, 0, [], none, img, decls, slot, false, budget, .control i,
      s.time, us, false, none, none, none, none, [], none⟩
    { (s.setThread ctlThread th) with eng := { (s.setThread ctlThread th).eng with desc := (i, d) } }.setF F.MGW_STATUS_CTL_BUSY 1

/-- The device fetches the next control descriptor (R213, R214): `image` is what it reads at SOURCE. -/
def fetchDescriptor (s : State) (d image : List U64) : State :=
  let head := s.f F.MGW_STATUS_CQ_HEAD
  let ring := 2 ^ s.f F.MGW_CQ_BASE_LOG2
  if !s.flag F.MGW_STATUS_CQ_RUN ∨ s.f F.MGW_STATUS_PHASE ≠ 1 ∨ (s.thread? ctlThread).isSome ∨
      head = s.f F.MGW_CQ_DOORBELL_TAIL % ring ∨ s.supply.gated.contains 0 then s
  else
    let s := s.wakeEngine ctlThread
    let s := s.setF F.MGW_STATUS_CQ_HEAD ((head + 1) % ring)
    let q (i : Nat) : Nat := (d.getD i 0).toNat
    if s.descRefused d then s.writeBack head d 0x04 0 0 0 0
    else if bits (q 0) 7 0 = 1 then
      let decls := image.take 8
      let img := image.drop 8
      let v := verify true (bits (q 2) 12 0) (bits (q 2) 52 32) decls img
      let s := (((s.setF F.PRG_VSTAT_VSLOT 0xFFFF).setF F.PRG_VSTAT_VERR v.verr).setF F.PRG_VSTAT_VPC v.pc).setF
        F.PRG_VSTAT_VSCOPE v.scope
      if v.verr ≠ 0 then
        (s.event 0x0401 [0xFFFF, v.verr, v.scope, v.pc]).writeBack head d 0x01 v.verr v.pc v.scope 0
      else s.startControl head d decls (img.take (bits (q 2) 12 0)) 0xFFFF (bits (q 2) 52 32) (q 5)
    else
      let slot := q 1
      s.startControl head d (s.slotDecls slot) (s.slotImage slot) slot (s.f F.PRG_LIMITS_BUDGET slot)
        (s.f F.PRG_LIMITS_TIMEOUT_US slot)

end State

/-- INVOCATION_START (R148, R151). -/
def execInvocationStart (cluster : Nat) (s : State) : Host.Outcome State Fault Refusal := .next (s.startInvocation cluster)
/-- INVOCATION_TIMEOUT (R176). -/
def execInvocationTimeout (t : Nat) (s : State) : Host.Outcome State Fault Refusal :=
  .next (if t = State.ctlThread then s else s.timeoutThread t)
/-- INVOCATION_COMPLETION (R168). -/
def execInvocationCompletion (t : Nat) (s : State) : Host.Outcome State Fault Refusal := .next (s.completeInvocation t)
/-- CONTROL_DESCRIPTOR_FETCH (R214). -/
def execControlDescriptorFetch (desc image : List U64) (s : State) : Host.Outcome State Fault Refusal :=
  .next (s.fetchDescriptor desc image)
/-- CONTROL_PROGRAM_TIMEOUT (R215, R221): a close that waits for the master is given up; a WWAIT does not count (R209). -/
def execControlProgramTimeout (s : State) : Host.Outcome State Fault Refusal :=
  .next (match s.thread? State.ctlThread with
    | some h => if h.wait.any (0 < ·) then s else s.timeoutThread State.ctlThread
    | none => s)
/-- EXIT: the program ends, DETAIL 0, RESULT g[a] (R177, R191). -/
def execExit (t : Nat) (a : GReg) (s : State) : Host.Outcome State Fault Refusal :=
  .next (s.issue t (iword 0x29 0 a.toNat 0 0 0 0) fun h => s.stopWith t h ⟨0, 0, h.rg a⟩)
/-- FAULT: the program ends with the fault code it names (R177, R191). -/
def execFault (t : Nat) (a : GReg) (imm : Imm) (s : State) : Host.Outcome State Fault Refusal :=
  .next (s.issue t (iword 0x2A 0 a.toNat 0 0 0 imm) fun h =>
    s.stopWith t h ⟨Code.programFault, 0x80 + imm.toNat % 128, h.rg a⟩)

end Sys2Proof.Machine
end

