-- ==== Sys2Proof/Machine/SmigaInt.lean ====
section
/-! DEFINITION. The integer instructions (R190) and the moves between line registers and g registers (R194): each changes one
register and goes on to the next instruction. -/

namespace Sys2Proof.Machine

/-- A shift count (R190). -/
def sh (b : U64) : Nat := b.toNat % 64

/-- The number of 1 bits; leading and trailing zero bits, 64 for 0; the bytes in reverse order (R190). -/
def popCount (a : U64) : U64 := BitVec.ofNat 64 (bitsOf 64 a.toNat).length
def leadZeros (a : U64) : U64 :=
  match (bitsOf 64 a.toNat).getLast? with
  | some i => BitVec.ofNat 64 (63 - i)
  | none => 64
def trailZeros (a : U64) : U64 :=
  match (bitsOf 64 a.toNat).head? with
  | some i => BitVec.ofNat 64 i
  | none => 64
def byteSwap (a : U64) : U64 := BitVec.ofNat 64 (ofBytes (toBytes 8 a.toNat).reverse)

/-- The high 64 bits of the 128-bit product, signed or unsigned (R190). -/
def mulHigh (u : Bool) (a b : U64) : U64 :=
  if u then ((a.setWidth 128 * b.setWidth 128) >>> 64).setWidth 64
  else ((a.signExtend 128 * b.signExtend 128) >>> 64).setWidth 64

namespace State

/-- g[d] takes a value of the thread's registers (R190). -/
def alu (s : State) (t : Nat) (w : U64) (cost : Nat) (d : GReg) (v : Thread → U64) : State :=
  s.regs t w cost fun h => h.wg d (v h)

end State

/-- ADD (R190). -/
def execAdd (t : Nat) (d a b : GReg) (s : State) : Host.Outcome State Fault Refusal :=
  .next (s.alu t (iword 0x01 d.toNat a.toNat b.toNat 0 0 0) 1 d fun h =>
    let a := h.rg a
    let b := h.rg b
    a + b)

/-- SUB (R190). -/
def execSub (t : Nat) (d a b : GReg) (s : State) : Host.Outcome State Fault Refusal :=
  .next (s.alu t (iword 0x02 d.toNat a.toNat b.toNat 0 0 0) 1 d fun h =>
    let a := h.rg a
    let b := h.rg b
    a - b)

/-- MUL (R190). -/
def execMul (t : Nat) (d a b : GReg) (s : State) : Host.Outcome State Fault Refusal :=
  .next (s.alu t (iword 0x03 d.toNat a.toNat b.toNat 0 0 0) 2 d fun h =>
    let a := h.rg a
    let b := h.rg b
    a * b)

/-- AND (R190). -/
def execAnd (t : Nat) (d a b : GReg) (s : State) : Host.Outcome State Fault Refusal :=
  .next (s.alu t (iword 0x05 d.toNat a.toNat b.toNat 0 0 0) 1 d fun h =>
    let a := h.rg a
    let b := h.rg b
    a &&& b)

/-- OR (R190). -/
def execOr (t : Nat) (d a b : GReg) (s : State) : Host.Outcome State Fault Refusal :=
  .next (s.alu t (iword 0x06 d.toNat a.toNat b.toNat 0 0 0) 1 d fun h =>
    let a := h.rg a
    let b := h.rg b
    a ||| b)

/-- XOR (R190). -/
def execXor (t : Nat) (d a b : GReg) (s : State) : Host.Outcome State Fault Refusal :=
  .next (s.alu t (iword 0x07 d.toNat a.toNat b.toNat 0 0 0) 1 d fun h =>
    let a := h.rg a
    let b := h.rg b
    a ^^^ b)

/-- SHL (R190). -/
def execShl (t : Nat) (d a b : GReg) (s : State) : Host.Outcome State Fault Refusal :=
  .next (s.alu t (iword 0x08 d.toNat a.toNat b.toNat 0 0 0) 1 d fun h =>
    let a := h.rg a
    let b := h.rg b
    a <<< sh b)

/-- SHR (R190). -/
def execShr (t : Nat) (d a b : GReg) (s : State) : Host.Outcome State Fault Refusal :=
  .next (s.alu t (iword 0x09 d.toNat a.toNat b.toNat 0 0 0) 1 d fun h =>
    let a := h.rg a
    let b := h.rg b
    a >>> sh b)

/-- SAR (R190). -/
def execSar (t : Nat) (d a b : GReg) (s : State) : Host.Outcome State Fault Refusal :=
  .next (s.alu t (iword 0x0A d.toNat a.toNat b.toNat 0 0 0) 1 d fun h =>
    let a := h.rg a
    let b := h.rg b
    a.sshiftRight (sh b))

/-- ROL (R190). -/
def execRol (t : Nat) (d a b : GReg) (s : State) : Host.Outcome State Fault Refusal :=
  .next (s.alu t (iword 0x0B d.toNat a.toNat b.toNat 0 0 0) 1 d fun h =>
    let a := h.rg a
    let b := h.rg b
    a.rotateLeft (sh b))

/-- MIN (R190). -/
def execMin (t : Nat) (d a b : GReg) (s : State) : Host.Outcome State Fault Refusal :=
  .next (s.alu t (iword 0x0C d.toNat a.toNat b.toNat 0 0 0) 1 d fun h =>
    let a := h.rg a
    let b := h.rg b
    if a.slt b then a else b)

/-- MAX (R190). -/
def execMax (t : Nat) (d a b : GReg) (s : State) : Host.Outcome State Fault Refusal :=
  .next (s.alu t (iword 0x0D d.toNat a.toNat b.toNat 0 0 0) 1 d fun h =>
    let a := h.rg a
    let b := h.rg b
    if a.slt b then b else a)

/-- MINU (R190). -/
def execMinu (t : Nat) (d a b : GReg) (s : State) : Host.Outcome State Fault Refusal :=
  .next (s.alu t (iword 0x0E d.toNat a.toNat b.toNat 0 0 0) 1 d fun h =>
    let a := h.rg a
    let b := h.rg b
    if a.ult b then a else b)

/-- MAXU (R190). -/
def execMaxu (t : Nat) (d a b : GReg) (s : State) : Host.Outcome State Fault Refusal :=
  .next (s.alu t (iword 0x0F d.toNat a.toNat b.toNat 0 0 0) 1 d fun h =>
    let a := h.rg a
    let b := h.rg b
    if a.ult b then b else a)

/-- MULH (R190). -/
def execMulh (t : Nat) (d a b : GReg) (u : Bool) (s : State) : Host.Outcome State Fault Refusal :=
  .next (s.alu t (iword 0x04 d.toNat a.toNat b.toNat 0 (b2n u) 0) 2 d fun h => mulHigh u (h.rg a) (h.rg b))

/-- ADDI (R190). -/
def execAddi (t : Nat) (d a : GReg) (i : Imm) (s : State) : Host.Outcome State Fault Refusal :=
  .next (s.alu t (iword 0x10 d.toNat a.toNat 0 0 0 i) 1 d fun h =>
    let a := h.rg a
    a + sext i)

/-- ANDI (R190). -/
def execAndi (t : Nat) (d a : GReg) (i : Imm) (s : State) : Host.Outcome State Fault Refusal :=
  .next (s.alu t (iword 0x11 d.toNat a.toNat 0 0 0 i) 1 d fun h =>
    let a := h.rg a
    a &&& sext i)

/-- ORI (R190). -/
def execOri (t : Nat) (d a : GReg) (i : Imm) (s : State) : Host.Outcome State Fault Refusal :=
  .next (s.alu t (iword 0x12 d.toNat a.toNat 0 0 0 i) 1 d fun h =>
    let a := h.rg a
    a ||| sext i)

/-- XORI (R190). -/
def execXori (t : Nat) (d a : GReg) (i : Imm) (s : State) : Host.Outcome State Fault Refusal :=
  .next (s.alu t (iword 0x13 d.toNat a.toNat 0 0 0 i) 1 d fun h =>
    let a := h.rg a
    a ^^^ sext i)

/-- SHLI (R190). -/
def execShli (t : Nat) (d a : GReg) (i : Imm) (s : State) : Host.Outcome State Fault Refusal :=
  .next (s.alu t (iword 0x14 d.toNat a.toNat 0 0 0 i) 1 d fun h =>
    let a := h.rg a
    a <<< (i.toNat % 64))

/-- LUI (R190). -/
def execLui (t : Nat) (d a : GReg) (i : Imm) (s : State) : Host.Outcome State Fault Refusal :=
  .next (s.alu t (iword 0x16 d.toNat a.toNat 0 0 0 i) 1 d fun h =>
    let a := h.rg a
    (zext i <<< 32) ||| (a &&& 0xFFFFFFFF))

/-- SHRI, with A a sign fill (R190). -/
def execShri (t : Nat) (d a : GReg) (i : Imm) (arith : Bool) (s : State) : Host.Outcome State Fault Refusal :=
  .next (s.alu t (iword 0x15 d.toNat a.toNat 0 0 (b2n arith) i) 1 d fun h =>
    if arith then (h.rg a).sshiftRight (i.toNat % 64) else h.rg a >>> (i.toNat % 64))

/-- MOVI (R190). -/
def execMovi (t : Nat) (d : GReg) (i : Imm) (s : State) : Host.Outcome State Fault Refusal :=
  .next (s.alu t (iword 0x17 d.toNat 0 0 0 0 i) 1 d fun _ => sext i)

/-- POPC (R190). -/
def execPopc (t : Nat) (d a : GReg) (s : State) : Host.Outcome State Fault Refusal :=
  .next (s.alu t (iword 0x18 d.toNat a.toNat 0 0 0 0) 1 d fun h =>
    let a := h.rg a
    popCount a)

/-- CLZ (R190). -/
def execClz (t : Nat) (d a : GReg) (s : State) : Host.Outcome State Fault Refusal :=
  .next (s.alu t (iword 0x19 d.toNat a.toNat 0 0 0 0) 1 d fun h =>
    let a := h.rg a
    leadZeros a)

/-- CTZ (R190). -/
def execCtz (t : Nat) (d a : GReg) (s : State) : Host.Outcome State Fault Refusal :=
  .next (s.alu t (iword 0x1A d.toNat a.toNat 0 0 0 0) 1 d fun h =>
    let a := h.rg a
    trailZeros a)

/-- BSWAP (R190). -/
def execBswap (t : Nat) (d a : GReg) (s : State) : Host.Outcome State Fault Refusal :=
  .next (s.alu t (iword 0x1B d.toNat a.toNat 0 0 0 0) 1 d fun h =>
    let a := h.rg a
    byteSwap a)

/-- SEL (R190). -/
def execSel (t : Nat) (d a b c : GReg) (s : State) : Host.Outcome State Fault Refusal :=
  .next (s.alu t (iword 0x1C d.toNat a.toNat b.toNat 0 c.toNat 0) 1 d fun h =>
    if h.rg c ≠ 0 then h.rg a else h.rg b)

/-- CMPEQ, with I against the immediate (R190). -/
def execCmpeq (t : Nat) (d a b : GReg) (i : Bool) (imm : Imm) (s : State) : Host.Outcome State Fault Refusal :=
  .next (s.alu t (iword 0x1D d.toNat a.toNat b.toNat 0 (b2n i) imm) 1 d fun h =>
    let a := h.rg a
    let y := if i then sext imm else h.rg b
    if decide (a = y) then 1 else 0)

/-- CMPLT, with I against the immediate (R190). -/
def execCmplt (t : Nat) (d a b : GReg) (i : Bool) (imm : Imm) (s : State) : Host.Outcome State Fault Refusal :=
  .next (s.alu t (iword 0x1E d.toNat a.toNat b.toNat 0 (b2n i) imm) 1 d fun h =>
    let a := h.rg a
    let y := if i then sext imm else h.rg b
    if a.slt y then 1 else 0)

/-- CMPLTU, with I against the immediate (R190). -/
def execCmpltu (t : Nat) (d a b : GReg) (i : Bool) (imm : Imm) (s : State) : Host.Outcome State Fault Refusal :=
  .next (s.alu t (iword 0x1F d.toNat a.toNat b.toNat 0 (b2n i) imm) 1 d fun h =>
    let a := h.rg a
    let y := if i then sext imm else h.rg b
    if a.ult y then 1 else 0)

/-- VMOV (R194). -/
def execVmov (t : Nat) (d a : VReg) (s : State) : Host.Outcome State Fault Refusal :=
  .next (s.regs t (iword 0x3A d.toNat a.toNat 0 0 0 0) 1 fun h => h.wv d (h.rv a))

/-- VEXT: the 2^w bytes of v[a] at byte off, zero-extended (R194). -/
def execVext (t : Nat) (d : GReg) (a : VReg) (imm : Imm) (w : BitVec 2) (s : State) : Host.Outcome State Fault Refusal :=
  .next (s.alu t (iword 0x3B d.toNat a.toNat 0 0 w.toNat imm) 1 d fun h =>
    BitVec.ofNat 64 (((h.rv a).toNat >>> (8 * imm.toNat)) % 2 ^ (8 * 2 ^ w.toNat)))

/-- VINS: the 2^w bytes of v[d] at byte off become the low bytes of g[b] (R194). -/
def execVins (t : Nat) (d : VReg) (b : GReg) (imm : Imm) (w : BitVec 2) (s : State) : Host.Outcome State Fault Refusal :=
  .next (s.regs t (iword 0x3C d.toNat 0 b.toNat 0 w.toNat imm) 1 fun h =>
    let n := 2 ^ w.toNat
    let bs := bytesOfLine (h.rv d)
    h.wv d (lineOfBytes (bs.take imm.toNat ++ toBytes n (h.rg b).toNat ++ bs.drop (imm.toNat + n))))

end Sys2Proof.Machine
end

