-- ==== Sys2Proof/Machine/SmigaMem.lean ====
section
/-! DEFINITION. The memory, atomic and persistence instructions (R156 to R166, R194 to R198). -/

namespace Sys2Proof.Machine

/-- A value of `n` bytes widened to 64 bits, by zeros or by its sign (R194). -/
def widen (n : Nat) (sx : Bool) (bs : List Byte) : U64 :=
  let v := ofBytes bs
  if sx && v.testBit (8 * n - 1) then BitVec.ofNat 64 (v + 2 ^ 64 - 2 ^ (8 * n)) else BitVec.ofNat 64 v

/-- The more urgent of two fault codes (R189). -/
def firstFault (a b : Nat) : Nat :=
  if ([0x09, 0x04, 0x03, 0x02, 0x07, 0x08, 0x0A, 0x06].find? fun c => c == a || c == b) = some a then a else b

/-- Runs of staged bytes: offset and bytes of each run (R165). -/
def byteRuns : SMap Byte → List (Nat × List Byte)
  | [] => []
  | (o, b) :: t => match byteRuns t with
    | (o', bs) :: r => if o' = o + 1 then (o, b :: bs) :: r else (o, [b]) :: (o', bs) :: r
    | [] => [(o, [b])]

namespace State

/-- The effective offset of an access: g[a] + imm (R156). -/
def off (h : Thread) (a : GReg) (imm : Imm) : U64 := h.rg a + sext imm

/-- LD.n (R194). -/
def ldn (s : State) (t op n : Nat) (d : GReg) (hr : HReg) (a : GReg) (imm : Imm) (sx : Bool) : State :=
  s.issue t (iword op d.toNat a.toNat 0 hr.toNat (b2n sx) imm) fun h =>
    match s.ea (h.rh hr) (off h a imm) n .read n with
    | .inr c => s.fault t h c
    | .inl o => s.load t h (h.rh hr) o n fun bs h s => s.setThread t ((h.wg d (widen n sx bs)).adv 1)

/-- ST.n (R194). -/
def stn (s : State) (t op n : Nat) (hr : HReg) (a : GReg) (imm : Imm) (b : GReg) : State :=
  s.issue t (iword op 0 a.toNat b.toNat hr.toNat 0 imm) fun h =>
    match s.ea (h.rh hr) (off h a imm) n .write n with
    | .inr c => s.fault t h c
    | .inl o => s.store t h (h.rh hr) o (toBytes n (h.rg b).toNat) fun h s => s.setThread t (h.adv 1)

/-- Write `k` line registers from a register on (R194). -/
def wvs (h : Thread) (d : VReg) : List (BitVec 512) → Thread
  | [] => h
  | x :: r => wvs (h.wv d x) (d + 1) r

/-- The bytes of `k` line registers from a register on. -/
def rvs (h : Thread) (b : VReg) : Nat → List Byte
  | 0 => []
  | k + 1 => bytesOfLine (h.rv b) ++ rvs h (b + 1) k

/-- The 64-byte pieces of a byte list. -/
def lines64 : Nat → List Byte → List (BitVec 512)
  | 0, _ => []
  | k + 1, bs => lineOfBytes (bs.take 64) :: lines64 k (bs.drop 64)

/-- LDL and LDB: `k` lines into registers from v[d] on (R194). -/
def ldv (s : State) (t : Nat) (w : U64) (k : Nat) (d : VReg) (hr : HReg) (a : GReg) (imm : Imm) : State :=
  s.issue t w fun h =>
    match s.ea (h.rh hr) (off h a imm) (64 * k) .read 64 with
    | .inr c => s.fault t h c
    | .inl o => s.load t h (h.rh hr) o (64 * k) fun bs h s => s.setThread t ((wvs h d (lines64 k bs)).adv 1)

/-- STL and STB: `k` lines from registers from v[b] on (R194). -/
def stv (s : State) (t : Nat) (w : U64) (k : Nat) (hr : HReg) (a : GReg) (imm : Imm) (b : VReg) : State :=
  s.issue t w fun h =>
    match s.ea (h.rh hr) (off h a imm) (64 * k) .write 64 with
    | .inr c => s.fault t h c
    | .inl o => s.store t h (h.rh hr) o (rvs h b k) fun h s => s.setThread t (h.adv 1)

/-! Bulk instructions (R195). -/

/-- The length of a bulk instruction and its charge (R149, R195). -/
def bulkLen (h : Thread) (d : GReg) (imm : Imm) : Nat := Nat.min (h.rg d).toNat imm.toNat
def bulkCost (imm : Imm) : Nat := 1 + ceilDiv imm.toNat 64

/-- Where a byte of a handle lies within the lines of what it names. -/
def lineAt (x : Handle) (o : Nat) : Nat := match x with
  | .region _ _ base _ _ _ _ => base + o
  | _ => o
/-- A destination begins inside the source, above its first byte (R195). -/
def destAbove (xd : Handle) (od : Nat) (xs : Handle) (os n : Nat) : Bool := match xd, xs with
  | .region d r b _ _ _ _, .region e q c _ _ _ _ =>
    decide (d.isNone = e.isNone ∧ r = q ∧ c + os < b + od ∧ b + od < c + os + n)
  | .buffer b _ _, .buffer c _ _ => decide (b = c ∧ os < od ∧ od < os + n)
  | _, _ => false
/-- The group's rule (R163, R164) for a range of a bulk instruction: the thread as it is once the range has been touched, none where
that faults with 0x08. Nothing moves in it. -/
def txTouch (s : State) (h : Thread) (x : Handle) (o n : Nat) (load : Bool) : Option Thread :=
  match x, h.tx with
  | .region dom r base _ _ _ _, some tx =>
    let b := s.regByte dom r (base + o)
    if n = 0 then some h
    else if s.txFault h r b n load then none
    else
      let tx : Tx := { tx with gran := some (r, b / granBytes) }
      some { h with tx := some (if load then addReads tx ((linesOf (b % granBytes) n).map fun l => (l, 0)) else tx) }
  | _, _ => some h
/-- The lines of a range that a store would cover in part: their first bytes, ascending. -/
def partLinesOf (lin n : Nat) : List Nat :=
  (lineUnion [lin / 64, (lin + n - 1) / 64]).filterMap fun l =>
    if n = 0 ∨ (lin ≤ 64 * l ∧ 64 * l + 64 ≤ lin + n) then none else some (64 * l)
/-- Whether the lines of a destination that are covered in part may be written (R195): `k` gets how many bytes lie before the first one
that stays poisoned. -/
def destGood (s : State) (t : Nat) (h : Thread) (x : Handle) (o n : Nat) (k : Nat → Thread → State → State) : State :=
  match x, h.tx with
  | .region dom r base _ _ _ _, none =>
    let rec go : List Nat → State → Thread → State
      | [], s, h => k n h s
      | a :: rest, s, h =>
        let b := s.regByte dom r a
        let dev := s.leadDev r b
        let got : Got :=
          if dev ≠ s.index then s.loadAway t h dev r b 64
          else match s.stopLine (s.place r b).2 64 false with
            | some l =>
              if s.isDurable r && !(h.healWait == some (l, true)) then
                .wait ((s.askHeal l).setThread t { h with healWait := some (l, false) })
              else .bad [] s
            | none => .ok [] s
        match got with
        | .ok _ s => go rest s h
        | .bad _ s => k (a - (base + o)) { h with healWait := none } s
        | .wait s => s
        | .stop s => s
    go (partLinesOf (base + o) n) s h
  | _, _ => k n h s

/-- A bulk instruction ends: with the value it writes to g[d] and its charge, or with the fault of a poisoned line. -/
def bulkEnd (s : State) (t : Nat) (h : Thread) (d : GReg) (imm : Imm) (v : Option Nat) : State :=
  let s := s.forgetReads t
  match v with
  | some n => s.setThread t ((h.wg d (BitVec.ofNat 64 n)).adv (bulkCost imm))
  | none => s.fault t h 0x06

/-- MCOPY (R195). -/
def mcopy (s : State) (t : Nat) (w : U64) (d : GReg) (hd : HReg) (a : GReg) (hs : HReg) (b : GReg) (imm : Imm) : State :=
  s.issue t w fun h =>
    let n := bulkLen h d imm
    match s.ea (h.rh hd) (h.rg a) n .write 1, s.ea (h.rh hs) (h.rg b) n .read 1 with
    | .inr c, .inr c' => s.fault t h (firstFault c c')
    | .inr c, .inl _ => s.fault t h c
    | .inl _, .inr c => s.fault t h c
    | .inl od, .inl os =>
      if ((s.txTouch h (h.rh hs) os n true).bind fun h' => s.txTouch h' (h.rh hd) od n false).isNone then s.fault t h 0x08
      else s.loadTo t h (h.rh hs) os n true fun bs bad h s => s.destGood t h (h.rh hd) od n fun gd h s =>
        -- a destination line is complete once every source byte that it takes has been read
        let lin := lineAt (h.rh hd) od
        let gs := if !bad then n else if destAbove (h.rh hd) od (h.rh hs) os n then 0 else (lin + bs.length) / 64 * 64 - lin
        s.store t h (h.rh hd) od (bs.take (Nat.min gs gd)) fun h s =>
          s.bulkEnd t h d imm (if bad ∨ gd < n then none else some n)

/-- MFILL (R195). -/
def mfill (s : State) (t : Nat) (w : U64) (d : GReg) (hd : HReg) (a b : GReg) (imm : Imm) : State :=
  s.issue t w fun h =>
    let n := bulkLen h d imm
    match s.ea (h.rh hd) (h.rg a) n .write 1 with
    | .inr c => s.fault t h c
    | .inl o =>
      if (s.txTouch h (h.rh hd) o n false).isNone then s.fault t h 0x08
      else s.destGood t h (h.rh hd) o n fun gd h s =>
        s.store t h (h.rh hd) o (List.replicate (Nat.min n gd) ((h.rg b).setWidth 8)) fun h s =>
          s.bulkEnd t h d imm (if gd < n then none else some n)

/-- The first index at which two byte lists differ, or their length. -/
def firstDiff : List Byte → List Byte → Nat
  | x :: xs, y :: ys => if x = y then firstDiff xs ys + 1 else 0
  | _, _ => 0

/-- MCMP (R195): a difference before the first poisoned line decides. -/
def mcmp (s : State) (t : Nat) (w : U64) (d : GReg) (hd : HReg) (a : GReg) (hs : HReg) (b : GReg) (imm : Imm) : State :=
  s.issue t w fun h =>
    let n := bulkLen h d imm
    match s.ea (h.rh hd) (h.rg a) n .read 1, s.ea (h.rh hs) (h.rg b) n .read 1 with
    | .inr c, .inr c' => s.fault t h (firstFault c c')
    | .inr c, .inl _ => s.fault t h c
    | .inl _, .inr c => s.fault t h c
    | .inl od, .inl os =>
      if ((s.txTouch h (h.rh hd) od n true).bind fun h' => s.txTouch h' (h.rh hs) os n true).isNone then s.fault t h 0x08
      else s.loadTo t h (h.rh hd) od n true fun xs bad h s => s.loadTo t h (h.rh hs) os n true fun ys bad' h s =>
        let k := firstDiff xs ys
        s.bulkEnd t h d imm (if (bad ∨ bad') ∧ k = Nat.min xs.length ys.length then none else some k)

/-! Scratch entries (R196). -/

/-- The scratch entry that imm32 names, if it is locked as scratch. -/
def scratch? (s : State) (imm : Imm) : Option CEntry :=
  let e := (s.cache (imm.toNat / 32 % 8)).entry (imm.toNat % 32)
  if e.locked && e.isScratch then some e else none

/-- The words of a scratch entry are checked as they are read (R243): a double-bit error poisons the entry. -/
def scratchRead (s : State) (c i : Nat) : State :=
  let e := (s.cache c).entry i
  let n2 := (e.ecc.filter (·.2)).length
  let n1 := e.ecc.length - n2
  let s := if n1 = 0 then s else (s.bump F.CCH_ECC_CORR c n1).reachEvent 0x0501 c [c] n1
  let s := if n2 = 0 then s else (s.bump F.CCH_ECC_UNCORR c n2).event 0x0502 [c, i, 3]
  s.setCache c ((s.cache c).setEntry i { e with ecc := [], poisoned := e.poisoned || n2 != 0 })

/-! Atomics (R197). -/

/-- An atomic of `n` bytes at g[a] + imm: `cmp` and `new` are the bytes compared and put in place. -/
def atomicOp (s : State) (t : Nat) (w : U64) (n : Nat) (hr : HReg) (a : GReg) (imm : Imm) (kind : PartKind)
    (cmp new : Thread → List Byte) (fin : List Byte → Bool → Thread → Thread) : State :=
  s.issue t w fun h =>
    match s.ea (h.rh hr) (off h a imm) n .atomic n with
    | .inr c => s.fault t h c
    | .inl o =>
      if h.tx.isSome then s.fault t h 0x08
      else match h.rh hr with
        | .region dom r base _ _ _ _ =>
          let b := s.regByte dom r (base + o)
          let p := newPart (.thread t) kind (s.leadDev r b) r b n (cmp h) (new h)
          s.request t h p fun q h s =>
            let old := if q.rdata.isEmpty then toBytes n q.result.toNat else q.rdata
            s.setThread t ((fin old q.stored h).adv 2)
        | _ => s.fault t h 0x03

/-- The 8-byte atomics that write the old value to g[d]. -/
def atomic64 (s : State) (t op m : Nat) (d : GReg) (hr : HReg) (a : GReg) (imm : Imm) (b : GReg) (kind : PartKind) : State :=
  s.atomicOp t (iword op d.toNat a.toNat b.toNat hr.toNat m imm) 8 hr a imm kind
    (fun h => toBytes 8 (if kind = .compare then h.rg d else h.rg b).toNat) (fun h => toBytes 8 (h.rg b).toNat)
    fun old _ h => h.wg d (BitVec.ofNat 64 (ofBytes old))

end State

/-- LD.8 (R194). -/
def execLd8 (t : Nat) (d : GReg) (h : HReg) (a : GReg) (imm : Imm) (sx : Bool) (s : State) : Host.Outcome State Fault Refusal :=
  .next (s.ldn t 0x30 1 d h a imm sx)

/-- LD.16 (R194). -/
def execLd16 (t : Nat) (d : GReg) (h : HReg) (a : GReg) (imm : Imm) (sx : Bool) (s : State) : Host.Outcome State Fault Refusal :=
  .next (s.ldn t 0x31 2 d h a imm sx)

/-- LD.32 (R194). -/
def execLd32 (t : Nat) (d : GReg) (h : HReg) (a : GReg) (imm : Imm) (sx : Bool) (s : State) : Host.Outcome State Fault Refusal :=
  .next (s.ldn t 0x32 4 d h a imm sx)

/-- LD.64 (R194). -/
def execLd64 (t : Nat) (d : GReg) (h : HReg) (a : GReg) (imm : Imm) (sx : Bool) (s : State) : Host.Outcome State Fault Refusal :=
  .next (s.ldn t 0x33 8 d h a imm sx)

/-- ST.8 (R194). -/
def execSt8 (t : Nat) (h : HReg) (a : GReg) (imm : Imm) (b : GReg) (s : State) : Host.Outcome State Fault Refusal :=
  .next (s.stn t 0x34 1 h a imm b)

/-- ST.16 (R194). -/
def execSt16 (t : Nat) (h : HReg) (a : GReg) (imm : Imm) (b : GReg) (s : State) : Host.Outcome State Fault Refusal :=
  .next (s.stn t 0x35 2 h a imm b)

/-- ST.32 (R194). -/
def execSt32 (t : Nat) (h : HReg) (a : GReg) (imm : Imm) (b : GReg) (s : State) : Host.Outcome State Fault Refusal :=
  .next (s.stn t 0x36 4 h a imm b)

/-- ST.64 (R194). -/
def execSt64 (t : Nat) (h : HReg) (a : GReg) (imm : Imm) (b : GReg) (s : State) : Host.Outcome State Fault Refusal :=
  .next (s.stn t 0x37 8 h a imm b)

/-- LDL (R194). -/
def execLdl (t : Nat) (d : VReg) (h : HReg) (a : GReg) (imm : Imm) (s : State) : Host.Outcome State Fault Refusal :=
  .next (s.ldv t (iword 0x38 d.toNat a.toNat 0 h.toNat 0 imm) 1 d h a imm)

/-- STL (R194). -/
def execStl (t : Nat) (h : HReg) (a : GReg) (imm : Imm) (b : VReg) (s : State) : Host.Outcome State Fault Refusal :=
  .next (s.stv t (iword 0x39 0 a.toNat b.toNat h.toNat 0 imm) 1 h a imm b)

/-- LDL.X (R196). -/
def execLdlX (t : Nat) (d : VReg) (imm : Imm) (s : State) : Host.Outcome State Fault Refusal :=
  .next (s.issue t (iword 0x38 d.toNat 0 0 0 1 imm) fun h =>
    if !h.ctl then s.fault t h 0x09
    else match s.scratch? imm with
      | none => s.fault t h 0x02
      | some e =>
        let c := imm.toNat / 32 % 8
        let s := s.scratchRead c (imm.toNat % 32)
        if e.poisoned || e.ecc.any (·.2) then s.fault t h 0x06
        else s.setThread t ((h.wv d (lineOfBytes e.scratch)).adv 1))

/-- STL.X (R196). -/
def execStlX (t : Nat) (b : VReg) (imm : Imm) (s : State) : Host.Outcome State Fault Refusal :=
  .next (s.issue t (iword 0x39 0 0 b.toNat 0 1 imm) fun h =>
    if !h.ctl then s.fault t h 0x09
    else match s.scratch? imm with
      | none => s.fault t h 0x02
      | some e =>
        let c := imm.toNat / 32 % 8
        (s.setCache c ((s.cache c).setEntry (imm.toNat % 32) { e with scratch := bytesOfLine (h.rv b), poisoned := false, ecc := [] })).setThread t (h.adv 1))

/-- LDB (R194). -/
def execLdb (t : Nat) (d : VReg) (h : HReg) (a : GReg) (imm : Imm) (km1 : BitVec 3) (s : State) : Host.Outcome State Fault Refusal :=
  .next (s.ldv t (iword 0x3D d.toNat a.toNat 0 h.toNat km1.toNat imm) (km1.toNat + 1) d h a imm)

/-- STB (R194). -/
def execStb (t : Nat) (h : HReg) (a : GReg) (imm : Imm) (b : VReg) (km1 : BitVec 3) (s : State) : Host.Outcome State Fault Refusal :=
  .next (s.stv t (iword 0x3E 0 a.toNat b.toNat h.toNat km1.toNat imm) (km1.toNat + 1) h a imm b)

/-- MCOPY (R195). -/
def execMcopy (t : Nat) (d : GReg) (h : HReg) (a : GReg) (hs : HReg) (b : GReg) (imm : Imm) (s : State) : Host.Outcome State Fault Refusal :=
  .next (s.mcopy t (iword 0x3F d.toNat a.toNat b.toNat h.toNat hs.toNat imm) d h a hs b imm)

/-- MFILL (R195). -/
def execMfill (t : Nat) (d : GReg) (h : HReg) (a b : GReg) (imm : Imm) (s : State) : Host.Outcome State Fault Refusal :=
  .next (s.mfill t (iword 0x40 d.toNat a.toNat b.toNat h.toNat 0 imm) d h a b imm)

/-- MCMP (R195). -/
def execMcmp (t : Nat) (d : GReg) (h : HReg) (a : GReg) (hs : HReg) (b : GReg) (imm : Imm) (s : State) : Host.Outcome State Fault Refusal :=
  .next (s.mcmp t (iword 0x41 d.toNat a.toNat b.toNat h.toNat hs.toNat imm) d h a hs b imm)

/-- CAS.64 (R197). -/
def execCas64 (t : Nat) (d : GReg) (h : HReg) (a : GReg) (imm : Imm) (b : GReg) (s : State) : Host.Outcome State Fault Refusal :=
  .next (s.atomic64 t 0x50 0 d h a imm b .compare)

/-- CAS.128: register pairs, low quadword first (R197). -/
def execCas128 (t : Nat) (d : GReg) (h : HReg) (a : GReg) (imm : Imm) (b : GReg) (s : State) : Host.Outcome State Fault Refusal :=
  .next (s.atomicOp t (iword 0x51 d.toNat a.toNat b.toNat h.toNat 0 imm) 16 h a imm .compare
    (fun h => toBytes 8 (h.rg d).toNat ++ toBytes 8 (h.rg (pairReg d)).toNat)
    (fun h => toBytes 8 (h.rg b).toNat ++ toBytes 8 (h.rg (pairReg b)).toNat)
    fun old _ h => (h.wg d (BitVec.ofNat 64 (ofBytes (old.take 8)))).wg (pairReg d) (BitVec.ofNat 64 (ofBytes (old.drop 8))))

/-- SWAP.64 (R197). -/
def execSwap64 (t : Nat) (d : GReg) (h : HReg) (a : GReg) (imm : Imm) (b : GReg) (s : State) : Host.Outcome State Fault Refusal :=
  .next (s.atomic64 t 0x52 0 d h a imm b .swap)

/-- FADD.64 (R197). -/
def execFadd64 (t : Nat) (d : GReg) (h : HReg) (a : GReg) (imm : Imm) (b : GReg) (s : State) : Host.Outcome State Fault Refusal :=
  .next (s.atomic64 t 0x53 0 d h a imm b .fetchAdd)

/-- FAND (R197). -/
def execFand (t : Nat) (d : GReg) (h : HReg) (a : GReg) (imm : Imm) (b : GReg) (s : State) : Host.Outcome State Fault Refusal :=
  .next (s.atomic64 t 0x54 0 d h a imm b .andOp)

/-- FOR (R197). -/
def execFetchOr (t : Nat) (d : GReg) (h : HReg) (a : GReg) (imm : Imm) (b : GReg) (s : State) : Host.Outcome State Fault Refusal :=
  .next (s.atomic64 t 0x55 0 d h a imm b .orOp)

/-- FMAX, with S signed (R197). -/
def execFmax (t : Nat) (d : GReg) (h : HReg) (a : GReg) (imm : Imm) (b : GReg) (sgn : Bool) (s : State) : Host.Outcome State Fault Refusal :=
  .next (s.atomic64 t 0x56 (b2n sgn) d h a imm b (if sgn then .maxS else .maxU))

/-- LCAS (R197). -/
def execLcas (t : Nat) (d : VReg) (h : HReg) (a : GReg) (imm : Imm) (b : VReg) (f : GReg) (s : State) : Host.Outcome State Fault Refusal :=
  .next (s.atomicOp t (iword 0x57 d.toNat a.toNat b.toNat h.toNat f.toNat imm) 64 h a imm .compare
    (fun h => bytesOfLine (h.rv d)) (fun h => bytesOfLine (h.rv b))
    fun old stored h => (h.wv d (lineOfBytes old)).wg f (if stored then 1 else 0))

/-- PFENCE: it waits while a durable store of the thread is not on the medium (R160, R198). -/
def execPfence (t : Nat) (s : State) : Host.Outcome State Fault Refusal :=
  .next (s.issue t (iword 0x60 0 0 0 0 0 0) fun h => if s.storesPending t then s else s.setThread t (h.adv 2))

/-- TXB: it reserves one buffer of the atomic staging pool and opens a group, or waits (R163, R265: a wait counts once). -/
def execTxb (t : Nat) (s : State) : Host.Outcome State Fault Refusal :=
  .next (s.issue t (iword 0x61 0 0 0 0 0 0) fun h =>
    if s.poolRoom 1 1 then (s.poolTake 1 1).setThread t ({ h with tx := some ⟨none, [], []⟩, wait := none }.adv 2)
    else if h.wait.isSome then s
    else (s.poolFail 1).setThread t { h with wait := some 0 })

/-- TXE: the group goes to the lead as one unit (R165, R198). -/
def execTxe (t : Nat) (d : GReg) (s : State) : Host.Outcome State Fault Refusal :=
  .next (s.issue t (iword 0x62 d.toNat 0 0 0 0 0) fun h =>
    let close (v : U64) (h : Thread) (s : State) : State :=
      let s := if v = 0 then s.reachEvent 0x0406 h.slot [h.slot] else s
      (s.poolGive 1 1).setThread t (({ h with tx := none }.wg d v).adv 2)
    match h.tx with
    | none => s.setThread t ((h.wg d 1).adv 2)
    | some x =>
      match x.gran with
      | none => close 1 h s
      | some (r, g) =>
        if x.staged.isEmpty ∧ x.reads.isEmpty then close 1 h s
        else
          let p : Part := { State.newPart (.thread t) .group (s.leadDev r (g * granBytes)) r (g * granBytes) 0 [] [] with
            chunks := byteRuns x.staged, reads := x.reads }
          s.request t h p fun q h s => close q.result h s)

/-- TXA: the group is discarded (R166). -/
def execTxa (t : Nat) (s : State) : Host.Outcome State Fault Refusal :=
  .next (s.issue t (iword 0x63 0 0 0 0 0 0) fun h =>
    (if h.tx.isSome then s.poolGive 1 1 else s).setThread t ({ h with tx := none }.adv 2))

/-- PSTAT (R150). -/
def execPstat (t : Nat) (d : GReg) (s : State) : Host.Outcome State Fault Refusal :=
  .next (s.issue t (iword 0x64 d.toNat 0 0 0 0 0) fun h => s.setThread t ((h.wg d (s.status t h)).adv 1))

end Sys2Proof.Machine
end

