-- ==== Sys2Proof/Machine/SmigaService.lean ====
section
/-! DEFINITION. The queue, buffer and cache instructions (R199 to R204). Each is charged 4 cycles (R149). -/

namespace Sys2Proof.Machine

/-- The negative of a completion code (R199, R205). -/
def negCode (c : Nat) : U64 := BitVec.ofNat 64 (2 ^ 64 - c)

namespace State

/-! Queue instructions (R199, R200). -/

/-- The queue of a queue handle, or the fault that its use meets (R199). -/
def postQueue (x : Handle) : Nat ⊕ Nat := match x with
  | .queue q post => if post then .inl q else .inr 0x03
  | _ => .inr 0x04

/-- The queue whose command or fiddlehead started a program. -/
def invokingQueue (h : Thread) : Option Nat := match h.start with
  | .invoke q _ => some q
  | .fiddle q _ _ => some q
  | _ => none

/-- Send on a queue for a thread, which remembers the packets of its invoking queue (R200), and go on with `g[d]` = `v`. -/
def post (s : State) (t : Nat) (h : Thread) (d : GReg) (q : Nat) (v : U64) (send : State → State) : State :=
  let a := match s.queue? q with
    | some x => x.txNext
    | none => 0
  let s := send s
  let w := if s.isBraid q ∧ State.invokingQueue h = some q then s.psnsSince q a else []
  s.setThread t ({ h with posted := h.posted ++ w }.wg d v |>.adv 4)

/-- QPOST (R199): the bytes go out of buffer hb, on which the transport sender takes a reference. -/
def qpost (s : State) (t : Nat) (d : GReg) (hr : HReg) (a : GReg) (hb : HReg) (b : GReg) (imm : Imm) : State :=
  s.issue t (iword 0x68 d.toNat a.toNat b.toNat hr.toNat hb.toNat imm) fun h =>
    let n := bulkLen h d imm
    match State.postQueue (h.rh hr), s.ea (h.rh hb) (h.rg b) n .read 1 with
    | .inr c, .inr c' => s.fault t h (firstFault c c')
    | .inr c, .inl _ => s.fault t h c
    | .inl _, .inr c => s.fault t h c
    | .inl q, .inl o =>
      if s.qState q ≠ QS.ready then s.setThread t ((h.wg d (negCode Code.frozen)).adv 4)
      else match h.rh hb with
        | .buffer x _ _ =>
          let bs := s.bufRead x o n
          let full := match s.buf? x with
            | some y => decide (255 ≤ y.refs)
            | none => true
          s.post t h d q (BitVec.ofNat 64 n) fun s =>
            if n = 0 then s
            else (s.poolRef x 0x1105).sendData q Pkt.hostWrite 0 (h.rg (pairReg a)).toNat (h.rg a).toNat bs
              (if full then none else some x)
        | _ => s.fault t h 0x04

/-- QCOMP (R199, R200). -/
def qcomp (s : State) (t : Nat) (d : GReg) (hr : HReg) (a b : GReg) (imm : Imm) : State :=
  s.issue t (iword 0x69 d.toNat a.toNat b.toNat hr.toNat 0 imm) fun h =>
    match State.postQueue (h.rh hr) with
    | .inr c => s.fault t h c
    | .inl q =>
      let tag := (h.rg a).toNat % 65536
      let used := s.tagsInUse q
      if s.qState q ≠ QS.ready then s.setThread t ((h.wg d (negCode Code.frozen)).adv 4)
      else if used.contains tag ∨ s.qDepth q ≤ used.length then s.setThread t ((h.wg d (negCode Code.invalid)).adv 4)
      else s.post t h d q 0 fun s => s.complete q tag none ⟨0, imm.toNat, h.rg b, 0, 0⟩

/-- QSEND (R199). -/
def qsend (s : State) (t : Nat) (d : GReg) (hr : HReg) (a : GReg) (b : VReg) (imm : Imm) : State :=
  s.issue t (iword 0x6A d.toNat a.toNat b.toNat hr.toNat 0 imm) fun h =>
    match State.postQueue (h.rh hr) with
    | .inr c => s.fault t h c
    | .inl q =>
      let n := imm.toNat
      if s.qState q ≠ QS.ready then s.setThread t ((h.wg d (negCode Code.frozen)).adv 4)
      else s.post t h d q (BitVec.ofNat 64 n) fun s =>
        s.sendData q Pkt.hostWrite 0 (h.rg (pairReg a)).toNat (h.rg a).toNat ((bytesOfLine (h.rv b)).take n)

/-- A descriptor with a reserved bit set or a field outside its range (R138, R200). -/
def fiddleBad (q0 q1 q4 : Nat) : Bool :=
  let act := bits q0 15 8
  let trig := bits q0 7 0
  bits q0 63 57 != 0 || !decide (1 ≤ act ∧ act ≤ 3) || !decide (1 ≤ trig ∧ trig ≤ 2) || (act == 1 && bits q0 31 16 != 0) ||
    bits q1 63 48 != 0 ||
    (if trig = 1 then bits q1 15 8 != 0 else bits q1 47 32 != 0 || bits q1 31 0 == 0) ||
    (act == 1 && !decide (1 ≤ bits q4 4 0 ∧ bits q4 4 0 ≤ 24))

/-- The reason for which FARM refuses a descriptor (R137, R200), if there is one. -/
def farmReason (s : State) (h : Thread) (desc : List U64) : Option Nat :=
  let q0 := (desc.getD 0 0).toNat
  let f : Fiddle := ⟨0, desc, 0⟩
  if 4096 ≤ s.fiddles.length then some 0
  else if 65536 ≤ s.fiddles.length then some 1
  else match s.homed (bits q0 56 32) with
    | none => some 2
    | some q =>
      if s.qState q ≠ QS.ready ∨ (h.ctl = false ∧ s.qDomain q ≠ h.dom) then some 2
      else if fiddleTagged f && (s.tagsInUse q).contains (fiddleTag f) then some 3
      else none

/-- A fiddlehead that is not armed; which one FARM takes is not defined, so a free value points at it. -/
def freeFiddle (s : State) (start : Nat) : Nat :=
  (((List.range 65536).map fun i => (start + i) % 65536).find? fun k => (s.fiddles.at? k).isNone).getD 0

/-- FARM (R137, R200). -/
def farm (s : State) (t : Nat) (d : GReg) (hr : HReg) (a : GReg) : State :=
  s.issue t (iword 0x6B d.toNat a.toNat 0 hr.toNat 0 0) fun h =>
    match s.ea (h.rh hr) (h.rg a) 64 .read 64 with
    | .inr c => s.fault t h c
    | .inl o => match h.rh hr with
      | .buffer x _ _ =>
        let bs := s.bufRead x o 64
        let desc : List U64 := (List.range 8).map fun i => BitVec.ofNat 64 (ofBytes ((bs.drop (8 * i)).take 8))
        let q0 := (desc.getD 0 0).toNat
        if State.fiddleBad q0 (desc.getD 1 0).toNat (desc.getD 4 0).toNat then s.setThread t ((h.wg d (negCode 5)).adv 4)
        else match s.farmReason h desc with
          | some r => (s.event 0x0305 [bits q0 56 32, r]).setThread t ((h.wg d (negCode (r + 1))).adv 4)
          | none =>
            let q := (s.homed (bits q0 56 32)).getD 0
            let (v, s) := s.fresh
            let k := s.freeFiddle (v.toNat % 65536)
            let s := { s with fiddles := s.fiddles.put k ⟨q, desc, 0⟩, spent := s.spent.filter (· != k) }.qCounts q
            s.setThread t ((h.wg d (BitVec.ofNat 64 k)).adv 4)
      | _ => s.fault t h 0x04

/-- FDISARM (R141, R200): a disarmed tagged fiddlehead completes its tag with ABORTED. -/
def fdisarm (s : State) (t : Nat) (d a : GReg) : State :=
  s.issue t (iword 0x6C d.toNat a.toNat 0 0 0 0) fun h =>
    let k := (h.rg a).toNat % 65536
    match s.fiddles.at? k with
    | some f =>
      if h.ctl = false ∧ s.qDomain f.q ≠ h.dom then s.setThread t ((h.wg d (negCode 1)).adv 4)
      else
        let s := { s with fiddles := s.fiddles.del k }.onQueue f.q fun x => { x with lastUse := s.time }
        let s := if fiddleTagged f then s.entryWrite f.q (fiddleTag f) ⟨Code.aborted, 0, 0, 0, 0⟩ else s
        (s.qCounts f.q).setThread t ((h.wg d 0).adv 4)
    | none => s.setThread t ((h.wg d (if s.spent.contains k then 1 else negCode 1)).adv 4)

/-! Buffer instructions (R201). -/

/-- BALLOC (R201, R256): `idx` is the free buffer that the allocator grants. -/
def balloc (s : State) (t : Nat) (d : GReg) (hr : HReg) (imm : Imm) (idx : Nat) : State :=
  s.issue t (iword 0x70 d.toNat 0 0 hr.toNat 0 imm) fun h =>
    let p := imm.toNat
    let valid := match h.rh hr with
      | .buffer x _ _ => (s.buf? x).isSome
      | .invalid => false
      | _ => true
    if !s.flag F.POOL_CTL_ENG_OPEN p || valid then s.fault t h 0x0A
    else if !s.poolOn p ∨ s.poolFree p = 0 then
      (s.poolFail p).setThread t (((h.wh hr .invalid).wg d (BitVec.ofNat 64 Code.noBuffer)).adv 4)
    else
      let x := p * 2 ^ 20 + idx
      if s.f F.POOL_CTL_COUNT p ≤ idx ∨ (s.buf? x).isSome then s
      else
        let decl := (h.decls.getD hr.toNat 0).toNat
        (s.poolGrant x t).setThread t (((h.wh hr (.buffer x (bit decl 60) (bit decl 59))).wg d 0).adv 4)

/-- An instruction that names a valid buffer handle. -/
def withBuffer (s : State) (t op : Nat) (d : GReg) (hr : HReg) (k : Thread → Nat → Buf → State) : State :=
  s.issue t (iword op d.toNat 0 0 hr.toNat 0 0) fun h => match h.rh hr with
    | .buffer x _ _ => match s.buf? x with
      | some b => k h x b
      | none => s.fault t h 0x04
    | _ => s.fault t h 0x04

/-- BFREE, BREF, BUNREF, BLEN (R201, R259). -/
def bfree (s : State) (t : Nat) (d : GReg) (hr : HReg) : State :=
  s.withBuffer t 0x71 d hr fun h x b =>
    if b.refs = 1 then (s.poolPlainFree x t).setThread t (((h.wh hr .invalid).wg d 0).adv 4)
    else s.setThread t ((h.wg d (BitVec.ofNat 64 Code.shared)).adv 4)
def bref (s : State) (t : Nat) (d : GReg) (hr : HReg) : State :=
  s.withBuffer t 0x72 d hr fun h x b =>
    if 255 ≤ b.refs then (s.poolRef x t).fault t h 0x0A
    else (s.poolRef x t).setThread t ((h.wg d (BitVec.ofNat 64 (b.refs + 1))).adv 4)
def bunref (s : State) (t : Nat) (d : GReg) (hr : HReg) : State :=
  s.withBuffer t 0x73 d hr fun h x b =>
    if b.held.get 0 t ≤ 1 then s.fault t h 0x0A
    else
      let h' := if b.refs = 1 then h.wh hr .invalid else h
      (s.poolUnref x t 1).setThread t ((h'.wg d (BitVec.ofNat 64 (b.refs - 1))).adv 4)
def blen (s : State) (t : Nat) (d : GReg) (hr : HReg) : State :=
  s.withBuffer t 0x74 d hr fun h x _ => s.setThread t ((h.wg d (BitVec.ofNat 64 (s.bufSize x))).adv 4)

/-! Cache instructions (R202 to R204). -/

/-- The spans of device lines of this device that a range of a region handle touches: first line and the line past the last. -/
def lineSpans (s : State) (x : Handle) (o n : Nat) : List (Nat × Nat) := match x with
  | .region dom r base _ _ _ _ =>
    (s.handlePieces dom r true (n / granBytes + 2) (base + o) n).filterMap fun (_, b, k) =>
      let (p, d) := s.place r b
      if p = s.pair then some (d / 64, (d + k - 1) / 64 + 1) else none
  | _ => []

/-- The range operations: write back, then invalidate, or drop. -/
inductive RangeOp where
  | cinv | cwb | cwbi
  deriving DecidableEq, Repr

/-- A range operation on entry `i` of cluster `c` (R202, R247); a dropped dirty line counts as written. -/
def rangeEntry (s : State) (op : RangeOp) (c i : Nat) : State :=
  let e := (s.cache c).entry i
  match op with
  | .cwb => s.cacheClean c i
  | .cwbi => (s.cacheClean c i).cacheDrop c i
  | .cinv =>
    let s := match e.dirty, e.line with
      | some _, some l => { s with dram := { s.dram with ver := s.dram.ver.set 0 l (s.dram.ver.get 0 l + 1) } }
      | _, _ => s
    s.cacheDrop c i

/-- A range operation over spans of lines: the state after it, and the pinned lines touched. -/
def rangeLines (s : State) (op : RangeOp) (spans : List (Nat × Nat)) : State × Nat :=
  (List.range 8).foldl (fun (acc : State × Nat) c =>
    let mine := ((acc.1.cache c).entries.filter fun e => !e.2.isScratch && match e.2.line with
      | some l => spans.any fun sp => decide (sp.1 ≤ l ∧ l < sp.2)
      | none => false).map Prod.fst
    let pins := (mine.filter fun i => ((acc.1.cache c).entry i).locked).length
    let s := mine.foldl (fun u i => u.rangeEntry op c i) acc.1
    (s.bump F.CCH_WB_PINNED_TOUCHED c pins, acc.2 + pins)) (s, 0)

/-- CINV, CWB and CWBI over a range (R202). -/
def rangeOp (s : State) (t opc : Nat) (d : GReg) (hr : HReg) (a : GReg) (imm : Imm) (b : GReg) (op : RangeOp) : State :=
  s.issue t (iword opc d.toNat a.toNat b.toNat hr.toNat 0 imm) fun h =>
    let n := (h.rg b).toNat
    match s.ea (h.rh hr) (off h a imm) n (if op = .cinv then .write else .read) 1 with
    | .inr c => s.fault t h c
    | .inl o =>
      let (s, pins) := s.rangeLines op (s.lineSpans (h.rh hr) o n)
      s.setThread t ((h.wg d (BitVec.ofNat 64 pins)).adv 4)

/-- An instruction that faults with 0x09 outside control mode. -/
def ctlOnly (s : State) (t : Nat) (w : U64) (k : Thread → State) : State :=
  s.issue t w fun h => if h.ctl then k h else s.fault t h 0x09

/-- CINV.ALL on one disabled cluster (R203, R246). -/
def invAll (s : State) (c : Nat) : State :=
  let x := s.cache c
  let keep := (x.entries.filter fun e => e.2.locked).map fun (e : Nat × CEntry) =>
    (e.1, { CEntry.empty with line := e.2.line, locked := true, isScratch := e.2.isScratch, scratch := [] })
  (s.setCache c { x with entries := keep }).setF F.CCH_STATUS_FULLINV 1 c

/-- CEN on one cluster (R203, R244, R249). -/
def enableCache (s : State) (c : Nat) : State :=
  if s.flag F.CCH_STATUS_FULLINV c then
    ((s.setF F.CCH_STATUS_EN 1 c).setF F.CCH_STATUS_VLOSS 0 c).event 0x0506 [c]
  else s.event 0x0507 [c]

/-- Lock an entry (R203, R245): 0 locked, 1 the cluster holds 32 locks, 2 locked already. A pinned lock takes the highest-numbered
unlocked entry, from which the line it holds is evicted; a copy of the line elsewhere is written back and given up, and the line is filled
at its next access. -/
def lockPinned (s : State) (line : Nat) : State × Nat :=
  let c := clusterOf line
  let x := s.cache c
  if (x.slotOf line).any fun i => (x.entry i).locked then (s, 2)
  else if 32 ≤ x.locked then (s, 1)
  else
    let s := match x.slotOf line with
      | some j => (s.cacheClean c j).cacheDrop c j
      | none => s
    let i := ((List.range 48).reverse.find? fun i => !((s.cache c).entry i).locked).getD 0
    let s := s.cacheClean c i
    (s.setCache c (((s.cache c).setEntry i { CEntry.empty with line := some line, locked := true }).touch i), 0)
def lockScratch (s : State) (c i : Nat) : State × Nat :=
  let x := s.cache c
  if 32 ≤ x.locked then (s, 1)
  else if (x.entry i).locked then (s, 2)
  else
    let s := s.cacheClean c i
    (s.setCache c ((s.cache c).setEntry i { CEntry.empty with locked := true, isScratch := true, scratch := List.replicate 64 0 }), 0)

/-- Release a lock: 0 released, 1 not locked. A pinned line stays as an ordinary entry. -/
def unlockPinned (s : State) (line : Nat) : State × Nat :=
  let c := clusterOf line
  let x := s.cache c
  match x.slotOf line with
  | some i =>
    if (x.entry i).locked then (s.setCache c (x.setEntry i { x.entry i with locked := false }), 0) else (s, 1)
  | none => (s, 1)
def unlockScratch (s : State) (c i : Nat) : State × Nat :=
  let x := s.cache c
  if (x.entry i).locked && (x.entry i).isScratch then (s.setCache c (x.setEntry i .empty), 0) else (s, 1)

/-- CLOCK and CUNLK (R203). -/
def lockOp (s : State) (t opc : Nat) (d : GReg) (hr : HReg) (a : GReg) (imm : Imm) (scr : Bool)
    (pinned : State → Nat → State × Nat) (scratch : State → Nat → Nat → State × Nat) : State :=
  s.ctlOnly t (iword opc d.toNat a.toNat 0 hr.toNat (b2n scr) imm) fun h =>
    let fin (r : State × Nat) : State := r.1.setThread t ((h.wg d (BitVec.ofNat 64 r.2)).adv 4)
    if scr then fin (scratch s (imm.toNat / 32 % 8) (imm.toNat % 32))
    else match s.ea (h.rh hr) (off h a imm) 64 .read 64 with
      | .inr c => s.fault t h c
      | .inl o => match (h.rh hr) with
        | .region dom r base _ _ _ _ => fin (pinned s ((s.place r (s.regByte dom r (base + o))).2 / 64))
        | _ => s.fault t h 0x04

/-- CSTAT's word (R204). -/
def cstatWord (s : State) (c : Nat) : U64 :=
  let x := s.cache c
  BitVec.ofNat 64 ((b2n (s.cacheOn c) <<< 63) ||| (s.f F.CCH_STATUS_FULLINV c <<< 62) ||| (x.locked <<< 48) |||
    (x.scratches <<< 40) ||| (x.dirties <<< 32))

end State

/-- QPOST (R199). -/
def execQpost (t : Nat) (d : GReg) (h : HReg) (a : GReg) (hb : HReg) (b : GReg) (imm : Imm) (s : State) : Host.Outcome State Fault Refusal :=
  .next (s.qpost t d h a hb b imm)
/-- QCOMP (R199). -/
def execQcomp (t : Nat) (d : GReg) (h : HReg) (a b : GReg) (imm : Imm) (s : State) : Host.Outcome State Fault Refusal :=
  .next (s.qcomp t d h a b imm)
/-- QSEND (R199). -/
def execQsend (t : Nat) (d : GReg) (h : HReg) (a : GReg) (b : VReg) (imm : Imm) (s : State) : Host.Outcome State Fault Refusal :=
  .next (s.qsend t d h a b imm)
/-- FARM (R200). -/
def execFarm (t : Nat) (d : GReg) (h : HReg) (a : GReg) (s : State) : Host.Outcome State Fault Refusal := .next (s.farm t d h a)
/-- FDISARM (R200). -/
def execFdisarm (t : Nat) (d a : GReg) (s : State) : Host.Outcome State Fault Refusal := .next (s.fdisarm t d a)
/-- BALLOC (R201). -/
def execBalloc (t : Nat) (d : GReg) (h : HReg) (imm : Imm) (idx : Nat) (s : State) : Host.Outcome State Fault Refusal :=
  .next (s.balloc t d h imm idx)
/-- BFREE (R201). -/
def execBfree (t : Nat) (d : GReg) (h : HReg) (s : State) : Host.Outcome State Fault Refusal := .next (s.bfree t d h)
/-- BREF (R201). -/
def execBref (t : Nat) (d : GReg) (h : HReg) (s : State) : Host.Outcome State Fault Refusal := .next (s.bref t d h)
/-- BUNREF (R201). -/
def execBunref (t : Nat) (d : GReg) (h : HReg) (s : State) : Host.Outcome State Fault Refusal := .next (s.bunref t d h)
/-- BLEN (R201). -/
def execBlen (t : Nat) (d : GReg) (h : HReg) (s : State) : Host.Outcome State Fault Refusal := .next (s.blen t d h)
/-- CINV (R202). -/
def execCinv (t : Nat) (d : GReg) (h : HReg) (a : GReg) (imm : Imm) (b : GReg) (s : State) : Host.Outcome State Fault Refusal :=
  .next (s.rangeOp t 0x78 d h a imm b .cinv)
/-- CINV.ALL (R203): every disabled cluster of the mask. -/
def execCinvAll (t : Nat) (d : GReg) (imm : Imm) (s : State) : Host.Outcome State Fault Refusal :=
  .next (s.ctlOnly t (iword 0x78 d.toNat 0 0 0 1 imm) fun h =>
    let cs := (bitsOf 8 imm.toNat).filter fun c => !s.cacheOn c
    (cs.foldl State.invAll s).setThread t ((h.wg d (BitVec.ofNat 64 (maskOf cs))).adv 4))
/-- CWB (R202). -/
def execCwb (t : Nat) (d : GReg) (h : HReg) (a : GReg) (imm : Imm) (b : GReg) (s : State) : Host.Outcome State Fault Refusal :=
  .next (s.rangeOp t 0x79 d h a imm b .cwb)
/-- CWBI (R202). -/
def execCwbi (t : Nat) (d : GReg) (h : HReg) (a : GReg) (imm : Imm) (b : GReg) (s : State) : Host.Outcome State Fault Refusal :=
  .next (s.rangeOp t 0x7A d h a imm b .cwbi)
/-- CLOCK (R203). -/
def execClock (t : Nat) (d : GReg) (h : HReg) (a : GReg) (imm : Imm) (scr : Bool) (s : State) : Host.Outcome State Fault Refusal :=
  .next (s.lockOp t 0x7B d h a imm scr State.lockPinned State.lockScratch)
/-- CUNLK (R203). -/
def execCunlk (t : Nat) (d : GReg) (h : HReg) (a : GReg) (imm : Imm) (scr : Bool) (s : State) : Host.Outcome State Fault Refusal :=
  .next (s.lockOp t 0x7C d h a imm scr State.unlockPinned State.unlockScratch)
/-- CEN (R203). -/
def execCen (t : Nat) (d : GReg) (imm : Imm) (s : State) : Host.Outcome State Fault Refusal :=
  .next (s.ctlOnly t (iword 0x7D d.toNat 0 0 0 0 imm) fun h =>
    let cs := bitsOf 8 imm.toNat
    let ok := cs.filter fun c => s.flag F.CCH_STATUS_FULLINV c
    (cs.foldl State.enableCache s).setThread t ((h.wg d (BitVec.ofNat 64 (maskOf ok))).adv 4))
/-- CDIS (R203). -/
def execCdis (t : Nat) (d : GReg) (imm : Imm) (s : State) : Host.Outcome State Fault Refusal :=
  .next (s.ctlOnly t (iword 0x7E d.toNat 0 0 0 0 imm) fun h =>
    let cs := bitsOf 8 imm.toNat
    let n := (cs.map s.disableCount).foldl (· + ·) 0
    (cs.foldl State.cacheDisable s).setThread t ((h.wg d (BitVec.ofNat 64 n)).adv 4))
/-- CSTAT (R204). -/
def execCstat (t : Nat) (d a : GReg) (s : State) : Host.Outcome State Fault Refusal :=
  .next (s.issue t (iword 0x7F d.toNat a.toNat 0 0 0 0) fun h =>
    s.setThread t ((h.wg d (s.cstatWord ((h.rg a).toNat % 8))).adv 4))
/-- DIS_REQ (R250): a disable that the immediate field starts. -/
def execDisReq (cluster : Nat) (s : State) : Host.Outcome State Fault Refusal :=
  .next (if cluster < 8 then s.cacheDisable cluster else s)

end Sys2Proof.Machine
end

