-- ==== Sys2Proof/Machine/SmigaMisc.lean ====
section
/-! DEFINITION. The cipher and hash instructions (R206) and EVT and TIME (R210). -/

namespace Sys2Proof.Machine

namespace State

/-- GENC and GDEC (R206): additional data, message and tag lie in a row in the buffer. -/
def cipher (s : State) (t : Nat) (w : U64) (d : GReg) (hr : HReg) (a b : GReg) (k : VReg) (imm : Imm) (enc : Bool) : State :=
  if s.supply.gated.contains 20 then s else s.issue t w fun h =>
    let n := Nat.min (h.rg d).toNat imm.toNat
    let m := (h.rg b).toNat
    let done (s : State) (h : Thread) (v : U64) : State := s.setThread t ((h.wg d v).adv (bulkCost imm))
    if n % 16 ≠ 0 ∨ n < 16 ∨ 65536 < n ∨ 256 < m then done s h (negCode Code.length)
    else match s.ea (h.rh hr) (h.rg a) (m + n + 16) .write 1 with
      | .inr c => s.fault t h c
      | .inl o => match h.rh hr with
        | .buffer x _ _ =>
          let kv := bytesOfLine (h.rv k)
          let key := kv.take 32
          let iv := (kv.drop 32).take 12
          let aad := s.bufRead x o m
          let msg := s.bufRead x (o + m) n
          let tag := s.bufRead x (o + m + n) 16
          if enc then
            let (c, g) := Config.gcmSeal key iv aad msg
            done (s.bufWrite x (o + m) (fitBytes n c ++ fitBytes 16 g)) h 0
          else match Config.gcmOpen key iv aad msg tag with
            | some p => done (s.bufWrite x (o + m) (fitBytes n p)) h 0
            | none => done (s.bufWrite x (o + m) (List.replicate n 0)) h (negCode Code.authFail)
        | _ => s.fault t h 0x04

/-- SHK (R206). -/
def shk (s : State) (t : Nat) (d : GReg) (hr : HReg) (a : GReg) (b : VReg) (imm : Imm) : State :=
  s.issue t (iword 0x8A d.toNat a.toNat b.toNat hr.toNat 0 imm) fun h =>
    let n := bulkLen h d imm
    match s.ea (h.rh hr) (h.rg a) n .read 1 with
    | .inr c => s.fault t h c
    | .inl o =>
      s.load t h (h.rh hr) o n fun bs h s =>
        s.setThread t (((h.wv b (lineOfBytes (fitBytes 64 (Config.shake256 bs 64)))).wg d (BitVec.ofNat 64 n)).adv (bulkCost imm))

/-- The slot that events of a program name: 0xFFFF in control mode (R210). -/
def evtSlot (h : Thread) : Nat := if h.ctl then 0xFFFF else h.slot

/-- EVT (R182, R210): at most 16 events of a slot in a reach. -/
def evt (s : State) (t : Nat) (a : GReg) (imm : Imm) : State :=
  s.issue t (iword 0x98 0 a.toNat 0 0 0 imm) fun h =>
    let j := evtSlot h
    let n := s.eng.evtCount.get 0 j
    let s := if n < 16 then
        { s with eng := { s.eng with evtCount := s.eng.evtCount.put j (n + 1) } }.event (0x0480 + imm.toNat % 128)
          (j :: w64 (h.rg a).toNat)
      else s
    s.setThread t (h.adv 4)

/-- TIME (R210): stack time in ns. -/
def timeOp (s : State) (t : Nat) (d : GReg) : State :=
  s.issue t (iword 0x99 d.toNat 0 0 0 0 0) fun h => s.setThread t ((h.wg d (BitVec.ofNat 64 s.time)).adv 4)

end State

/-! The meanings. -/

/-- GENC (R206). -/
def execGenc (t : Nat) (d : GReg) (h : HReg) (a b : GReg) (k : VReg) (imm : Imm) (s : State) : Host.Outcome State Fault Refusal :=
  .next (s.cipher t (iword 0x88 d.toNat a.toNat b.toNat h.toNat k.toNat imm) d h a b k imm true)
/-- GDEC (R206). -/
def execGdec (t : Nat) (d : GReg) (h : HReg) (a b : GReg) (k : VReg) (imm : Imm) (s : State) : Host.Outcome State Fault Refusal :=
  .next (s.cipher t (iword 0x89 d.toNat a.toNat b.toNat h.toNat k.toNat imm) d h a b k imm false)
/-- SHK (R206). -/
def execShk (t : Nat) (d : GReg) (h : HReg) (a : GReg) (b : VReg) (imm : Imm) (s : State) : Host.Outcome State Fault Refusal :=
  .next (s.shk t d h a b imm)
/-- EVT (R210). -/
def execEvt (t : Nat) (a : GReg) (imm : Imm) (s : State) : Host.Outcome State Fault Refusal := .next (s.evt t a imm)
/-- TIME (R210). -/
def execTime (t : Nat) (d : GReg) (s : State) : Host.Outcome State Fault Refusal := .next (s.timeOp t d)

end Sys2Proof.Machine
end

