-- ==== Sys2Proof/Machine/TwinBase.lean ====
section
/-! DEFINITION. The twin state machine (R57): hearing from the twin, loss, grants, fencing, the start and the end of a resync, and
what a change of state does with the parts that wait (R58 to R71). -/

namespace Sys2Proof.Machine

namespace State

def onTwin (s : State) (f : Twin → Twin) : State := { s with twin := f s.twin }
/-- The index of the twin. -/
def twinIdx (s : State) : Nat := s.index ^^^ 1

/-- GRANTED shows whether the grant record names this side for SPLIT_EPOCH (R74). -/
def holdsGrant (s : State) : Bool := s.twin.grant == some (s.epoch, s.side)
def grantSync (s : State) : State := s.setF F.TWIN_STATUS_GRANTED (b2n s.holdsGrant)
def setEpoch (s : State) (e : Nat) : State := (s.setF F.TWIN_STATUS_SPLIT_EPOCH (e % 2 ^ 32)).grantSync
def recordGrant (s : State) (e side : Nat) : State := (s.onTwin fun x => { x with grant := some (e, side) }).grantSync

/-- Enter a twin state. A hello of the twin is answered anew in it; the stack learns it, so that every device knows which side leads
(R23; DESIGN CHOICE: the in-service notice brings it). -/
def setTS (s : State) (st : Nat) : State :=
  ((s.setF F.TWIN_STATUS_STATE st).onTwin fun x => { x with helloIn := false }).notice 255 0x0C
    [s.index, b2n (s.inService s.index), st]

/-- The twin link is in use in this state: its octets are on. -/
def twinOn (s : State) : Bool := decide (s.tstate ≠ TS.unpaired ∧ s.tstate ≠ TS.soloProv)
/-- The octets of role TWIN (R76). -/
def twinOctets (s : State) : List Nat := (List.range 12).filter fun o => s.f F.LNK_CTL_ROLE o == 2
/-- The frames that wait for credit are kept only where they answer or report: those of types 1, 3, 8 and 10 go, for the twin gets
neither parts nor copies of them now. -/
def keepAnswers (x : Twin) : Twin :=
  { x with replay := [], held := x.held.filter fun h => !([1, 3, 8, 10].contains (h.2.2.args.headD 0)) }
/-- The twin octets train anew, or are off: the link is down, and begins with all its credits and no frame of before. -/
def linkReset (s : State) : State :=
  (s.twinOctets.foldl (fun (t : State) o => t.setF F.LNK_STATUS_LANE_LOCK 0 o) s).onTwin (fun x => { x with
    octetsDown := s.twinOctets, linkDown := true, held := [], replay := [], unacked := [], unitIn := [], late := [], credits := Twin.credits0,
    retries := Twin.retries0, owed := [0, 0, 0, 0], seqIn := [none, none, none, none], overdue := none })
    |>.setF F.TWIN_STATUS_HALF_LINK 0

def clearChanged (s : State) : State :=
  (s.onTwin fun x => { x with changed := [] }).setF F.TWIN_RESYNC_CHANGED_GRAN 0

/-! The arbiter (R60, R397) as this device sees it. -/

def devices (s : State) : Nat := s.f F.STK_STATUS_DEVICES
def master (s : State) : Nat := s.f F.STK_STATUS_MASTER_IDX
def isMaster (s : State) : Bool := s.master == s.index
def deputy (s : State) : Option Nat :=
  if s.flag F.STK_STATUS_DEPUTY_NONE then none else some (s.f F.STK_STATUS_DEPUTY_IDX)
/-- The arbiter of a pair; none in a stack of two devices, whose management host grants. -/
def arbiterOf (s : State) (p : Nat) : Option Nat :=
  if s.devices ≤ 2 then none else if s.master / 2 = p then s.deputy else some s.master
/-- The standby that records the grants of arbiter `a`. -/
def standbyOf (s : State) (a : Nat) : Option Nat :=
  if a ≠ s.master then some s.master
  else match s.deputy with
    | some d => some d
    | none => (List.range 64).find? fun d => s.inService d && decide (d / 2 ≠ s.master / 2 ∧ d / 2 ≠ 0)

/-- Ask the arbiter for a grant (R59); in a stack of two devices the event of the loss asks the management host. -/
def askGrant (s : State) : State :=
  match s.arbiterOf s.pair with
  | some a => s.notice a 0x04 [s.pair, s.epoch, s.side]
  | none => s
/-- Report the own grant record to the arbiter until it is acknowledged (R66, R67). -/
def reportGrant (s : State) : State :=
  match s.arbiterOf s.pair with
  | some a => (s.onTwin fun x => { x with reportDue := true }).notice a 0x07 [s.pair, s.epoch, s.side]
  | none => s

/-! Hearing from the twin (R56, R57). -/

/-- Reads held at the fence are taken up again. -/
def serveHeld (s : State) : State := s.retryParts fun p => p.st == .heldRead

/-- A frame has come from the twin (R56, R57): PEER_SEEN reads 1, and the read fence lifts unless a MIRROR is overdue. -/
def hear (s : State) : State :=
  let s := s.setF F.TWIN_STATUS_PEER_SEEN 1
  if s.tstate = TS.suspect ∧ s.twin.overdue = none then (s.setTS TS.mirrored).serveHeld else s

/-- The order of the channels stands: the pair runs together, or its epoch is not settled. -/
def inOrder (s : State) : Bool := s.together || s.tstate == TS.holding

/-- What a frame's header brings (R51 to R53): the mirror channel's frames up to ACK_SEQ need no replay, and credits come back. -/
def linkHeader (s : State) (l : LinkHdr) : State :=
  let s := s.onTwin fun x => { x with replay := x.replay.filter fun e => !(e.1 == 2 && seqLe e.2.1 l.ackSeq) }
  if l.crCount = 0 then s else s.creditBack l.crVc l.crCount

/-- A frame of the twin arrives on a virtual channel (R52, R53, R56): it counts as hearing from the twin, its units are owed as credit
once its buffers of pool 3 are free again, and it acts in SEQ order. A pair that does not run together takes up the order with the frame
it receives. -/
def frameIn (s : State) (l : LinkHdr) (vc units : Nat) (k : State → State) : State :=
  if !s.twinOn || s.twin.linkDown then s
  else
    let s := s.hear
    if s.inOrder && (s.twin.seqIn.getD vc none).any (· != l.seq) then s
    else
      let s := (s.linkHeader l).onTwin fun x => { x with
        seqIn := x.seqIn.set vc (some ((l.seq + 1) % 2 ^ 32)), owed := x.owed.set vc (x.owed.getD vc 0 + units) }
      if vc = 3 then k s
      else (k (s.poolTake 3 (ceilDiv units 4))).poolGive 3 (ceilDiv units 4)

/-! What waits when the twin is gone. -/

/-- Parts and lines admitted and not complete on durable granules of the pair (R59). -/
def heldCount (s : State) : Nat :=
  (s.parts.vals.filter fun p => s.isDurable p.region && (s.place p.region p.off).1 == s.pair &&
    (p.st == .admitted || p.st == .heldFull || p.st == .heldRead || p.st == .heldSeal || (p.st == .forwarded && p.dev == s.twinIdx) ||
      match p.st with
      | .heldHeal _ => true
      | _ => false)).length

/-- The granules with a write applied here as lead whose MIRROR_ACK has not come are changed granules (R62, R63). -/
def unackedChanged (s : State) : State :=
  ((s.dram.unsettled.filter fun u => u.mirror.isSome).map (·.gran)).foldl markChanged s

/-- A part sent to the lost twin, at the survivor (R62): one whose MIRROR had arrived is complete on this medium; the others are
applied here, in the order they were sent. -/
def takeBack (s : State) (pid : Nat) (p : Part) : State :=
  if !s.isDurable p.region then s.partDone pid Code.unavailable
  else if p.kind = .invoke then s.partDone pid Code.twinLost
  else if p.stored then
    let ls := (s.partLines p).filter fun l => s.dram.unsettled.any fun u => u.lines.contains l
    let u : Unsettled := ⟨s.dram.nextId, s.partOff p / granBytes, ls, none, .part pid, BitVec.ofNat 64 (ofBytes (p.rdata.take 8)), p.len,
      true, s.time⟩
    let s := s.onPart pid fun q => { q with dev := s.index, st := .admitted }
    { s with dram := { s.dram with unsettled := s.dram.unsettled ++ [u], nextId := s.dram.nextId + 1 } }
  else (s.onPart pid fun q => { q with dev := s.index, st := .waiting, passed := true, cnt := 1 }).admission pid

/-- The parts sent to the twin, in the order they were sent. -/
def sentToTwin (s : State) : SMap Part := s.parts.filter fun e => e.2.st == .forwarded && e.2.dev == s.twinIdx

/-- Parts at the lost twin for VOLATILE granules complete with UNAVAILABLE (R64). -/
def dropVolatile (s : State) : State :=
  (s.sentToTwin.filter fun e => s.isVolatile e.2.region).foldl
    (fun (t : State) (e : Nat × Part) => t.partDone e.1 Code.unavailable) s

/-- Parts that have not left for the lost twin. -/
def waitForTwin (s : State) : SMap Part := s.parts.filter fun e => e.2.st == .waiting && e.2.dev == s.twinIdx

/-- Enter SOLO (R57, R62): this device leads every granule of the pair. -/
def enterSolo (s : State) : State :=
  let s := ((s.setTS TS.solo).setUnmirrored true).unackedChanged.logsAnew
  let s := s.twin.reconcile.foldl markChanged s
  let s := s.onTwin fun x => keepAnswers { x with
    unacked := [], overdue := none, copySet := [], lastResyncSeq := none, doneWeir := none, reconcile := [], unitIn := [], late := [],
    noAsk := false, fromTarget := false }
  let s := s.sentToTwin.foldl (fun (t : State) (e : Nat × Part) => t.takeBack e.1 e.2) s
  let s := (s.mapUnsettled fun u => if u.mirror.isSome then { u with mirror := none, solo := true } else u).settle
  let s := s.waitForTwin.foldl (fun (t : State) (e : Nat × Part) =>
    (t.onPart e.1 fun q => { q with dev := t.index }).admission e.1) s
  s.serveHeld

/-- A durable part of the pair that this device holds admitted and unfinished, or that waits here for the settling of the epoch. -/
def heldHere (s : State) (p : Part) : Bool :=
  s.isDurable p.region && (s.place p.region p.off).1 == s.pair && p.kind != .tile && p.dev == s.index && match p.st with
    | .heldRead | .heldSeal | .heldFull | .heldHeal _ => true
    | .waiting => p.passed
    | _ => false

/-- Enter FENCED (R57, R63) for a reason of event 0x0C06; unless this device itself saves, everything held completes with
TWIN_LOST, and what has not been admitted goes to the granted twin if there is one. -/
def enterFenced (s : State) (reason : Nat) : State :=
  let s := ((s.setTS TS.fenced).event 0x0C06 [s.epoch, reason]).unackedChanged
  let s := s.onTwin fun x => keepAnswers { x with
    unacked := [], overdue := none, copySet := [], lastResyncSeq := none, doneWeir := none, unitIn := [], late := [] }
  if reason = 4 then s
  else
    let s := s.sentToTwin.foldl (fun (t : State) (e : Nat × Part) =>
      t.partDone e.1 (if t.isDurable e.2.region then Code.twinLost else Code.unavailable)) s
    let s := s.failUnsettled Code.twinLost
    let s := (s.parts.filter fun e => s.heldHere e.2).foldl (fun (t : State) (e : Nat × Part) => t.partDone e.1 Code.twinLost) s
    s.waitForTwin.foldl (fun (t : State) (e : Nat × Part) => t.admission e.1) s

/-- Enter MIRRORED (R57, R70): leads return to R16. The changed-granule map is cleared once nothing is left to reconcile (R71). -/
def enterMirrored (s : State) : State :=
  let s := (s.setTS TS.mirrored).setUnmirrored false
  let s := if s.twin.reconcile.isEmpty then s.clearChanged else s
  let s := s.onTwin fun x =>
    { x with fromSolo := false, noAsk := false, fromTarget := false, copySet := [], lastResyncSeq := none, doneWeir := none, reportDue := false }
  s.serveHeld

/-- The VOLATILE granules that this device leads read zero once it has been lost to its twin and joins it again (R13). -/
def zeroVolatile (s : State) : State :=
  (((s.ctl.filter fun e => keySpace e.1 == 6 && keyWord e.1 == 0).map fun e => keyRec e.1).filter fun r =>
    s.regionValid r && s.isVolatile r && (s.regionPairs r).contains s.pair).foldl (fun (t : State) r =>
      let lo := t.regionBase r
      let hi := lo + t.regionLen r / t.regionK r
      let t := t.cacheStale (lo * 1024) (hi * 1024)
      let mine (g : Nat) : Bool := decide (lo ≤ g ∧ g < hi ∧ g % 2 = t.side)
      let t := (t.dram.poison.filter fun l => mine (l / 1024)).foldl clearPoison t
      { t with dram := { t.dram with mem := t.dram.mem.filter fun e => !mine (e.1 / granBytes) } }) s

/-! Resync (R68 to R70). -/

/-- The granules of every DURABLE and LOG region on the pair, ascending. -/
def allDurable (s : State) : List Nat :=
  lineUnion (s.durableHere.flatMap fun r =>
    (List.range (s.regionLen r / s.regionK r)).map fun i => s.regionBase r + i)

/-- The weir count of the first weir at least 20 µs from now (R70, R224). -/
def reachNs (s : State) : Nat := 2 ^ s.f F.WEIR_CTL_REACH_K * 1000
def weirAfter (s : State) (ns : Nat) : Nat := s.weirCount + (ceilDiv (s.time + ns) s.reachNs - s.time / s.reachNs)

/-- The source sends the next granule of the copy set, or RESYNC_DONE after the last (R69, R70); the copy pauses while durable
writes are held (R335). -/
def resyncNext (s : State) : State :=
  if s.tstate ≠ TS.resyncSource ∨ s.twin.lastResyncSeq.isSome ∨ s.twin.doneWeir.isSome then s
  else match s.twin.copySet with
    | g :: rest =>
      if s.flag F.SV_STATUS_FULL ∨ s.twin.peerFull then s
      else
        let q := s.nextSeq 2
        (s.onTwin fun x => { x with unacked := x.unacked ++ [q], lastResyncSeq := some q, copySet := rest }).sendTwin 0x0A
          [g * granBytes, s.gen g] (s.readDram (g * granBytes) granBytes)
    | [] =>
      let w := s.weirAfter 20000
      (s.onTwin fun x => { x with doneWeir := some w }).sendTwin 0x0C [w]

/-- A MIRROR_ACK covers the granule on its way. -/
def resyncAcked (s : State) (ackSeq : Nat) : State :=
  match s.twin.lastResyncSeq with
  | some q =>
    if seqLe q ackSeq then
      ((s.onTwin fun x => { x with lastResyncSeq := none, copied := x.copied + 1 }).setF F.TWIN_RESYNC_COPIED_GRAN
        (Nat.min (s.twin.copied + 1) (2 ^ 32 - 1))).resyncNext
    else s
  | none => s.resyncNext

/-- Start a resync as its source or its target, with the copy set. -/
def beginResync (s : State) (st : Nat) (set_ : List Nat) (full : Bool) : State :=
  let s := (s.setTS st).onTwin fun x => { x with
    copySet := set_, copied := 0, resyncStart := s.time, resyncFull := full, lastResyncSeq := none, doneWeir := none, noAsk := false, fromTarget := false }
  (s.setF F.TWIN_RESYNC_COPIED_GRAN 0).event 0x0C09 [set_.length, b2n full]

/-- A weir has passed: a resync whose RESYNC_DONE names it ends (R70). -/
def resyncWeir (s : State) : State :=
  match s.twin.doneWeir with
  | some w =>
    if (s.tstate = TS.resyncSource ∨ s.tstate = TS.resyncTarget) ∧ w ≤ s.weirCount then
      s.enterMirrored.event 0x0C0A [s.twin.copied, (s.time - s.twin.resyncStart) / 1000]
    else s
  | none => s

/-! PAIR_MODE (R57). -/

/-- A commit of PAIR_MODE that changes it: the twin octets train, or go off. -/
def pairModeCommit (s : State) (mode : Nat) : State :=
  if mode = 1 then
    if s.tstate = TS.unpaired then (s.setTS TS.pairing).linkReset
    else if s.tstate = TS.soloProv then ((s.setTS TS.pairing).linkReset).onTwin fun x => { x with fromSolo := true }
    else s
  else if mode = 2 then
    if s.tstate = TS.soloProv then s
    else (((s.setTS TS.soloProv).setUnmirrored true).linkReset).onTwin fun x => { x with fromSolo := false }
  else if mode = 0 then
    if s.tstate = TS.unpaired then s
    else ((s.setTS TS.unpaired).linkReset).onTwin fun x => { x with fromSolo := false }
  else s

/-! SAVE_NOTICE of this device (R65, R66). -/

/-- Step 5 of the own save: MIRROR_ACK for what is applied, the notice, and the state it gives. -/
def ownNotice (s : State) : State :=
  let st := s.tstate
  let mirrored := s.dram.unsettled.any fun u => match u.who with
    | .mirror _ => true
    | _ => false
  let s := { s with dram := { s.dram with unsettled := s.dram.unsettled.filter fun u => match u.who with
    | .mirror _ => false
    | _ => true } }
  let s := if mirrored then s.sendTwin 0x04 [] else s
  let s := s.onTwin fun x => { x with noticeSent := true, unitIn := [] }
  let send (s : State) (g : Nat) : State := s.sendTwin 0x07 [s.epoch, g]
  if st = TS.mirrored ∨ st = TS.suspect then
    let s := s.setEpoch (s.epoch + 1)
    ((s.recordGrant s.epoch (1 - s.side)).enterFenced 4 |> (send · 0))
  else if st = TS.holding ∨ st = TS.fenced then
    ((s.recordGrant s.epoch (1 - s.side)).enterFenced 4 |> (send · 0))
  else if st = TS.resyncTarget then send ((s.onTwin fun x => { x with fromTarget := true }).enterFenced 4) 0
  else if st = TS.solo then send s 1
  else if st = TS.resyncSource then
    send ((s.setTS TS.solo).unackedChanged.onTwin fun x => keepAnswers { x with unacked := [], copySet := [], lastResyncSeq := none, doneWeir := none }) 1
  else s

/-! Heals (R41). -/

/-- The threads that wait for a heal of a line wait no longer; after a failure they fault as they go on. -/
def healThreads (s : State) (line : Nat) (ok : Bool) : State :=
  let go (h : Thread) : Thread :=
    if h.healWait = some (line, false) then { h with healWait := if ok then none else some (line, true) } else h
  { s with eng := { s.eng with threads := s.eng.threads.map fun (e : Nat × Thread) => (e.1, go e.2) } }

/-- No heal of a line is asked for any more. -/
def healOver (s : State) (line : Nat) : State :=
  { s with dram := { s.dram with heals := s.dram.heals.filter (· != line) } }

/-- The line is good: what waited for it goes on. -/
def healServe (s : State) (line : Nat) : State := (s.healThreads line true).retryParts fun p => p.st == .heldHeal line

/-- A good copy of a line: it is written if the line is still poisoned, the poison goes, and what waits for it goes on. -/
def healGood (s : State) (line : Nat) (bs : List Byte) : State :=
  let s := s.healOver line
  (if s.isPoisoned line then ((s.setDram (64 * line) bs).clearPoison line).markDirty (line / 1024) else s).healServe line

/-- No good copy came in time: waiting accesses complete with POISONED; a program's faults when it goes on. A line that has been written
whole since is good. -/
def healFail (s : State) (line : Nat) : State :=
  let s := s.healOver line
  if !s.isPoisoned line then s.healServe line
  else
    (s.parts.filter fun e => e.2.st == .heldHeal line).foldl (fun (t : State) (e : Nat × Part) => t.partDone e.1 Code.poisoned)
      (s.healThreads line false)

end State

end Sys2Proof.Machine
end

