-- ==== Sys2Proof/Machine/Twin.lean ====
section
/-! DEFINITION. The twin link and the twin pair as commands: hellos, frames, heartbeats and credits (R48 to R56), the read fence and
the loss of the twin (R57 to R59), the arbiter's part (R60, R61), grants and notices (R62 to R67), resync (R68 to R71). -/

namespace Sys2Proof.Machine

namespace State

/-- This device saves (R340). -/
def saving (s : State) : Bool := s.flash.run.isSome
/-- The oldest part sent to the twin that a MIRROR of these chunks brings back (R54): no field of the frame names it, so it is the one
whose lines these are and whose bytes they carry (DESIGN CHOICE). -/
def mirroredPart (s : State) (chunks : List (Nat × List Byte)) : Option (Nat × Part) :=
  let gran := (chunks.headD (0, [])).1 / granBytes
  let ls := lineUnion (chunks.flatMap fun c => linesOf c.1 c.2.length)
  let carries (d : Nat) (bs : List Byte) : Bool :=
    chunks.any fun c => decide (c.1 ≤ d ∧ d + bs.length ≤ c.1 + c.2.length) && (c.2.drop (d - c.1)).take bs.length == bs
  s.sentToTwin.find? fun (e : Nat × Part) =>
    partWrites e.2.kind && !e.2.stored && s.isDurable e.2.region &&
      if e.2.kind = PartKind.append then s.regionOfGran gran == some e.2.region
      else s.partLines e.2 == ls && match e.2.kind with
        | .write | .unit => carries (s.partOff e.2) e.2.data
        | .group => e.2.chunks.all fun c => carries (gran * granBytes + c.1) c.2
        | _ => true

/-- Apply what a MIRROR or a UNIT of them brought (R55, R425): the lines, the generation, the log frontier. -/
def applyMirror (s : State) (chunks : List (Nat × List Byte)) (gen seq : Nat) (front : Option Nat) : State :=
  let gran := (chunks.headD (0, [])).1 / granBytes
  let ls := lineUnion (chunks.flatMap fun c => linesOf c.1 c.2.length)
  let s := match s.mirroredPart chunks with
    | some (pid, p) =>
      let (_, d) := s.place p.region p.off
      let old := if p.kind = PartKind.append then toBytes 8 (front.getD 0 - p.len) else s.readDram d p.len
      s.onPart pid fun q => { q with stored := true, rdata := if partAtomic p.kind || p.kind == PartKind.append then old else [] }
    | none => s
  let s := chunks.foldl (fun t c => t.storeBytes false false c.1 c.2) s
  let s := (s.setGen gran gen).markDirty gran
  let s := match front, s.regionOfGran gran with
    | some f, some r => match s.slotOfLog r with
      | some j =>
        let l := s.logSt j
        (s.setF F.LOG_FRONT_FRONTIER f j).setLog j { l with appends := l.appends + 1 }
      | none => s
    | _, _ => s
  let s := s.logFollow chunks
  let u : Unsettled := ⟨s.dram.nextId, gran, ls, none, .mirror seq, 0, 0, false, s.time⟩
  { s with dram := { s.dram with unsettled := s.dram.unsettled ++ [u], nextId := s.dram.nextId + 1 } }

/-- Apply a copy of the twin (R55, R69, R350): a MIRROR; a granule of a resync, or of a reconciliation where it is newer. -/
def applyLate (s : State) (e : Late) : State :=
  if !e.sync then s.applyMirror e.chunks e.gen e.seq e.front
  else if s.tstate = TS.resyncTarget then
    let s := s.applyMirror e.chunks e.gen e.seq none
    (s.onTwin fun x => { x with copied := x.copied + 1 }).setF F.TWIN_RESYNC_COPIED_GRAN (Nat.min (s.twin.copied + 1) (2 ^ 32 - 1))
  else
    let gran := (e.chunks.headD (0, [])).1 / granBytes
    let s := if s.gen gran < e.gen then s.applyMirror e.chunks e.gen e.seq none else s.sendTwin 0x04 []
    (s.onTwin fun x => { x with reconcile := x.reconcile.filter (· != gran) }).serveHeld
/-- A copy of the twin may be applied to a granule: it makes none dirty while D is at or above B (R335), and the DRAM block is awake
(R381). -/
def copyReady (s : State) (gran : Nat) : Bool := s.mayDirty gran && !s.supply.gated.contains 23
/-- A copy of the twin is applied at once, unless it is not ready or another one waits. -/
def takeCopy (s : State) (e : Late) : State :=
  if s.twin.late.isEmpty && s.copyReady ((e.chunks.headD (0, [])).1 / granBytes) then s.applyLate e
  else s.onTwin fun x => { x with late := x.late ++ [e] }
/-- The copies that wait are applied, in their order, as far as they are ready. -/
def takeLateFrom : Nat → State → State
  | 0, s => s
  | n + 1, s => match s.twin.late with
    | e :: rest =>
      if s.copyReady ((e.chunks.headD (0, [])).1 / granBytes) then takeLateFrom n ((s.onTwin fun x => { x with late := rest }).applyLate e) else s
    | [] => s
def takeLate (s : State) : State := takeLateFrom s.twin.late.length s

/-- A MIRROR frame (R55): in a UNIT nothing is applied before the frame with LAST. -/
def mirrorIn (s : State) (l : LinkHdr) (x : MirrorFrame) : State :=
  s.frameIn l 2 (1 + x.lines.length) fun s =>
    if s.twin.noticeSent ∨ !(s.tstate = TS.mirrored ∨ s.tstate = TS.suspect ∨ s.tstate = TS.holding ∨ s.tstate = TS.resyncTarget) then s
    else
      let bs := x.lines.flatten
      if x.unit then
        let all := s.twin.unitIn ++ [(l.seq, x.off, bs)]
        if x.last then (s.onTwin fun t => { t with unitIn := [] }).takeCopy ⟨all.map Prod.snd, x.gen, l.seq, x.front, false⟩
        else s.onTwin fun t => { t with unitIn := all }
      else s.takeCopy ⟨[(x.off, bs)], x.gen, l.seq, x.front, false⟩

/-- The durable regions of this device are restored or were never lost (R68). -/
def keepsData (s : State) : Bool := s.durableHere.all fun r => !s.flag F.REG_STATE_UNRESTORED r

/-- The granules that may differ on this side, with their generations: changed ones, and those of restored images. -/
def maybeChanged (s : State) : List (Nat × Nat) := (lineUnion (s.twin.changed ++ s.flash.restored)).map fun g => (g, s.gen g)

/-- Send PAIR_HELLO (R49, R51): index, digest, stepping, capacity, PAIR_MODE, epoch, grant record (its epoch plus 1, 0 for none,
and its side; a side that comes from SOLO_PROV acts as granted), whether its data are kept, and the granules that may differ with their
generations (DESIGN CHOICE: R68 and R350 need them, and R51 has no frame for them). -/
def sendHello (s : State) : State :=
  let g := if s.twin.fromSolo then some (s.epoch, s.side) else s.twin.grant
  s.sendTwin 0x06 ([s.index, s.digest, 0xB0, s.f F.DRM_CAP_CAP_GIB, b2n (s.f F.TWIN_CTL_PAIR_MODE == 1), s.epoch,
    (match g with
      | some (e, _) => e + 1
      | none => 0),
    (match g with
      | some (_, d) => d
      | none => 0), b2n s.keepsData] ++ s.maybeChanged.flatMap fun e => [e.1, e.2])

/-- The first mismatch of a hello, in the order R49 lists them (R73). -/
def helloMismatch (s : State) (h : HelloFrame) : Option Nat :=
  if h.index ^^^ s.index ≠ 1 then some 1
  else if h.digest.toNat ≠ s.digest then some 2
  else if h.stepping ≠ 0xB0 then some 3
  else if h.capGib ≠ s.f F.DRM_CAP_CAP_GIB then some 4
  else if !h.paired ∨ s.f F.TWIN_CTL_PAIR_MODE ≠ 1 then some 5
  else none

/-- The pair joins: the channels begin in order anew, and nothing is outstanding. -/
def linkJoin (s : State) : State := s.onTwin fun x => { x with
  seqIn := [none, none, none, none], unacked := [], unitIn := [], late := [], overdue := none }

/-- The side that holds the newer generation of a granule sends it (R37, R350). -/
def sendNewer (s : State) (told : List (Nat × Nat)) (g : Nat) : State :=
  if (told.find? fun e => e.1 == g).all fun e => decide (e.2 < s.gen g) then
    (s.onTwin fun x => { x with unacked := x.unacked ++ [s.nextSeq 2] }).sendTwin 0x0A [g * granBytes, s.gen g]
      (s.readDram (g * granBytes) granBytes)
  else s

/-- Where an accepted hello leads (R57, R68, R71). A twin that still waits for its grant has not settled the epoch, so its hello leads
nowhere. -/
def resolveHello (s : State) (h : HelloFrame) (first : Bool) : State :=
  let mine := s.twin.fromSolo || s.holdsGrant
  let theirs := h.grant == some (h.epoch, 1 - s.side)
  let told := h.changed.map Prod.fst
  if s.tstate ≠ TS.pairing ∧ s.tstate ≠ TS.solo ∧ s.tstate ≠ TS.fenced then s
  else if mine && theirs then (if first then s.event 0x0C0E [s.epoch] else s)
  else if mine ∨ s.tstate = TS.solo then
    let full := s.twin.fromSolo || !(h.restored && (h.epoch == s.epoch || h.epoch + 1 == s.epoch))
    let set_ := if full then s.allDurable else lineUnion (s.twin.changed ++ told)
    let s := if s.twin.fromSolo then
        (s.allDurable.foldl markChanged (s.recordGrant s.epoch s.side)).onTwin fun x => { x with fromSolo := false }
      else s
    ((s.linkJoin.beginResync TS.resyncSource set_ full).setUnmirrored true).resyncNext
  else if theirs then
    let full := !(s.keepsData && (s.epoch == h.epoch || s.epoch + 1 == h.epoch))
    let set_ := if full then s.allDurable else lineUnion (s.twin.changed ++ told)
    let s := (s.linkJoin.setEpoch h.epoch).recordGrant h.epoch (1 - s.side)
    ((s.beginResync TS.resyncTarget set_ full).onTwin fun x => { x with copySet := [] }).zeroVolatile
  else if s.tstate = TS.fenced ∧ (s.twin.fromTarget = true ∨ s.peers.at? s.twinIdx = some TS.holding ∨
      s.peers.at? s.twinIdx = some TS.suspect) then s
  else
    let lost := s.tstate == TS.fenced
    let s := s.linkJoin.setEpoch (Nat.max s.epoch h.epoch)
    let set_ := lineUnion (s.twin.reconcile ++ s.twin.changed ++ s.flash.restored ++ told)
    let s := (s.onTwin fun x => { x with reconcile := set_ }).event 0x0C01 [s.epoch]
    let s : State := { s.enterMirrored with flash := { s.flash with restored := [] } }
    let s := if lost then s.zeroVolatile else s
    set_.foldl (fun (t : State) g => t.sendNewer h.changed g) s

/-- A PAIR_HELLO of the twin (R49): checked, answered, and acted on. -/
def helloFrom (s : State) (h : HelloFrame) : State :=
  if s.twin.noticeSent then s
  else match s.helloMismatch h with
    | some item => s.event 0x0C0B [item]
    | none =>
      let first := !s.twin.helloIn
      let st := s.tstate
      let s := s.onTwin fun x => { x with helloIn := true, peerEpoch := h.epoch, peerGranted := h.grant == some (h.epoch, 1 - s.side) }
      let s := if first ∧ (st = TS.pairing ∨ st = TS.solo ∨ st = TS.fenced ∨ st = TS.holding ∨ st = TS.suspect) then s.sendHello else s
      s.resolveHello h first

/-- A frame that comes over the twin link with its header, or over the cascade without. -/
def linkIn (s : State) (l : Option LinkHdr) (vc units : Nat) (k : State → State) : State :=
  match l with
  | some x => s.frameIn x vc units k
  | none => k s

/-- A forwarded part arrives (R54): it is ordered with this device's own, and admitted if its turn has come. -/
def forwardIn (s : State) (l : Option LinkHdr) (src : Nat) (p : PartReq) : State :=
  s.linkIn l 0 (frameUnits 1 (p.data.length + p.data2.length + (p.chunks.flatMap Prod.snd).length)) fun s =>
    let q := { State.newPart (.remote src p.id) p.kind s.index p.region p.off p.len p.data p.data2 with
      expect := p.expect, lim := p.lim, chunks := p.chunks, reads := p.reads, grp := p.grp, cnt := p.cnt, flow := p.flow, passed := p.bound }
    (s.addPart q).admitAny s.nextPart

/-- The completion fields of a part sent away (R51, R54); nothing completes while the epoch is not settled (R59). -/
def respIn (s : State) (l : Option LinkHdr) (id code : Nat) (result : U64) (len detail : Nat) (solo : Bool) : State :=
  s.linkIn l 1 1 fun s => match s.parts.at? id with
    | some p =>
      if p.st ≠ .forwarded ∨ (s.tstate = TS.holding ∧ p.dev = s.twinIdx ∧ s.isDurable p.region = true) then s
      else
        let s := s.onPart id fun q => { q with stored := p.kind != .invoke && detail != 0, solo := solo }
        let s := s.partDone id code result (if p.kind = .invoke then detail else len) (if code = 0 then p.rdata else [])
        match p.org with
        | .thread t => s.onThread t fun h => { h with unmir := h.unmir || solo }
        | _ => s
    | none => s

/-- The read data of a part sent away (R285). -/
def dataIn (s : State) (id : Nat) (data : List Byte) : State :=
  match s.parts.at? id with
  | some p => if p.st = .forwarded then s.onPart id fun q => { q with rdata := q.rdata ++ data } else s
  | none => s

/-- A MIRROR_ACK (R55). -/
def ackIn (s : State) (l : LinkHdr) (ns : Nat) : State :=
  let s := s.onTwin fun x => { x with overdue := match x.overdue with
    | some q => if seqLe q l.ackSeq then none else some q
    | none => none }
  s.frameIn l 2 1 fun s =>
    let s := s.setF F.TWIN_STATS_ACK_MAX_NS (Nat.max (s.f F.TWIN_STATS_ACK_MAX_NS) (Nat.min ns 65535))
    ((s.mirrorAcked l.ackSeq).resyncAcked l.ackSeq).retrySealed

/-- A granule of a resync, or of a reconciliation (R69, R350). -/
def resyncIn (s : State) (l : LinkHdr) (gran gen : Nat) (data : List Byte) : State :=
  s.frameIn l 2 1025 fun s =>
    if s.twin.noticeSent then s
    else if s.tstate = TS.resyncTarget ∨ ((s.tstate = TS.mirrored ∨ s.tstate = TS.suspect) ∧ s.twin.reconcile.contains gran = true) then
      s.takeCopy ⟨[(gran * granBytes, data)], gen, l.seq, none, true⟩
    else s

/-! Loss and the fence (R57 to R59, R67). -/

/-- 4 µs of silence, or a MIRROR that has gone 4 µs without its MIRROR_ACK (R58, R73). -/
def readFence (s : State) (silence : Nat) (overdue : Option Nat) : State :=
  let late := match overdue with
    | some q => s.twin.unacked.contains q
    | none => false
  if !late ∧ (overdue.isSome ∨ silence < 4000) then s
  else
    let s := if late then
        ((s.onTwin fun x => { x with overdue := overdue }).event 0x0C02 [s.twin.unacked.headD 0]).bump F.TWIN_STATS_OVERDUE
      else s
    if s.tstate = TS.mirrored then (s.setTS TS.suspect).event 0x0C03 [silence] else s

/-- The twin is lost (R57, R59, R67) after 8 µs of silence, or a MIRROR as long without its MIRROR_ACK; PEER_SEEN shows the silence
(R74). -/
def twinLoss (s : State) (silence : Nat) : State :=
  let s := if 8000 ≤ silence then s.setF F.TWIN_STATUS_PEER_SEEN 0 else s
  if silence < 8000 ∧ s.twin.overdue = none then s
  else
    let n := s.heldCount
    let gone (s : State) : State := (s.setEpoch (s.epoch + 1)).event 0x0C04 [(s.epoch + 1) % 2 ^ 32, n]
    if s.tstate = TS.suspect then ((gone s).setTS TS.holding).dropVolatile.askGrant
    else if s.tstate = TS.resyncSource then
      let s := gone s
      ((s.recordGrant s.epoch s.side).enterSolo).reportGrant
    else if s.tstate = TS.resyncTarget then
      ((gone s).onTwin fun x => { x with noAsk := true, fromTarget := true }).enterFenced 3
    else s

/-- A grant (R57, R62, R66): a saving device declines it. -/
def grantIn (s : State) (pair epoch arbiter : Nat) : State :=
  if pair ≠ s.pair ∨ epoch ≠ s.epoch then s
  else if s.saving then s.notice arbiter 0x06 [pair, epoch, s.side]
  else if (s.tstate = TS.holding ∨ s.tstate = TS.fenced) ∧ s.twin.fromTarget = false then
    ((s.recordGrant epoch s.side).event 0x0C05 [epoch, arbiter]).enterSolo
  else s

/-- TWIN_GRANT (R60, R74): GRANT_EPOCH and GRANT as written; none where it is refused. -/
def twinGrantOp (s : State) (v : U64) : Option State :=
  if !bit v.toNat 0 then some s
  else if s.devices = 2 ∧ (s.tstate = TS.holding ∨ s.tstate = TS.fenced) ∧ bits v.toNat 63 32 = s.epoch ∧ s.saving = false ∧
      s.twin.fromTarget = false then some (s.grantIn s.pair s.epoch 0xFF)
  else none

/-- The twin's SAVE_NOTICE (R57, R66); one that arrives while this device saves is ignored. -/
def noticeIn (s : State) (epoch : Nat) (granted : Bool) : State :=
  if s.saving then s
  else
    let st := s.tstate
    if st = TS.resyncSource then (s.event 0x0C08 [s.epoch]).enterSolo
    else if st = TS.resyncTarget then (s.onTwin fun x => { x with noAsk := true, fromTarget := true }).enterFenced 3
    else if granted then
      if st = TS.mirrored ∨ st = TS.suspect ∨ st = TS.holding then
        (((s.setEpoch epoch).recordGrant epoch (1 - s.side)).onTwin fun x => { x with noAsk := true }).enterFenced 2
      else s
    else if (st = TS.mirrored ∨ st = TS.suspect ∨ st = TS.holding ∨ st = TS.fenced) ∧ s.epoch ≤ epoch ∧ s.twin.fromTarget = false then
      ((((s.setEpoch epoch).recordGrant epoch s.side).event 0x0C08 [epoch]).enterSolo).reportGrant
    else s

/-! The arbiter and its standby (R61, R63, R66, R397). -/

/-- The side that this device's records give an epoch of a pair. -/
def grantedSide (s : State) (pair epoch : Nat) : Option Nat :=
  ((s.twin.arbiter ++ s.twin.standby).find? fun e => e.1 == pair && e.2.1 == epoch).map fun e => e.2.2
/-- Ask the standby to record a grant; `mark` says what waits for its answer. -/
def recordWithStandby (s : State) (pair epoch side mark : Nat) : State :=
  match s.standbyOf s.index with
  | some d =>
    if s.inService d then
      (s.onTwin fun x => { x with pendingGrant := x.pendingGrant ++ [(pair, epoch, mark)] }).notice d 0x07 [pair, epoch, side]
    else s
  | none => s

/-- A grant request reaches the arbiter (R61, R405). -/
def requestIn (s : State) (pair epoch side : Nat) : State :=
  let dev := 2 * pair + side
  if s.arbiterOf pair ≠ some s.index then s
  else if !s.present dev then s.notice dev 0x06 [pair, epoch]
  else match s.grantedSide pair epoch with
    | some g => if g = side then s.notice dev 0x05 [pair, epoch, s.index] else s.notice dev 0x06 [pair, epoch]
    | none =>
      let open_ := s.twin.pendingGrant.filter fun e => e.1 == pair && e.2.1 == epoch
      if open_.isEmpty then s.recordWithStandby pair epoch side side
      else if open_.any fun e => e.2.2 == side || e.2.2 == 2 + side || e.2.2 == 4 + side then s
      else s.onTwin fun x => { x with pendingGrant := x.pendingGrant ++ [(pair, epoch, 2 + side)] }

/-- The standby records a grant record, or its withdrawal (side 2), and acknowledges (R61, R66). -/
def recordIn (s : State) (pair epoch side src : Nat) : State :=
  let left := s.twin.standby.filter fun e => !(e.1 == pair && e.2.1 == epoch)
  (s.onTwin fun x => { x with standby := if side ≤ 1 then left ++ [(pair, epoch, side)] else left }).notice src 0x07 [pair, epoch]

/-- The standby's acknowledgement at the arbiter: the grant and any refusal go out; a report is acknowledged. At a device that has
reported its grant, the arbiter's acknowledgement (R61, R66). -/
def recordAcked (s : State) (pair epoch : Nat) : State :=
  let mine := s.twin.pendingGrant.filter fun e => e.1 == pair && e.2.1 == epoch
  let s := s.onTwin fun x => { x with pendingGrant := x.pendingGrant.filter fun e => !(e.1 == pair && e.2.1 == epoch) }
  let s := if pair = s.pair ∧ epoch = s.epoch then s.onTwin fun x => { x with reportDue := false } else s
  mine.foldl (fun (t : State) e =>
    let k := e.2.2
    let dev := 2 * pair + k % 2
    if k < 2 then
      let t := t.onTwin fun x => { x with arbiter := x.arbiter ++ [(pair, epoch, k)] }
      (t.notice dev 0x05 [pair, epoch, t.index]).event 0x0C07 [pair, k, epoch]
    else if k < 4 then t.notice dev 0x06 [pair, epoch]
    else t.notice dev 0x07 [pair, epoch]) s

/-- A saving device has declined a grant (R66): the arbiter's grant to its side is withdrawn, here, where it stood by before, and at the
standby. -/
def declineIn (s : State) (pair epoch side : Nat) : State :=
  if s.grantedSide pair epoch = some (1 - side) then s
  else
    let left (l : List (Nat × Nat × Nat)) : List (Nat × Nat × Nat) := l.filter fun e => !(e.1 == pair && e.2.1 == epoch && e.2.2 == side)
    let s := s.onTwin fun x => { x with
      arbiter := left x.arbiter, standby := left x.standby
      pendingGrant := x.pendingGrant.filter fun e => !(e.1 == pair && e.2.1 == epoch && e.2.2 == side) }
    match s.standbyOf s.index with
    | some d => s.notice d 0x07 [pair, epoch, 2]
    | none => s

/-- A grant that a device recorded itself is reported (R66, R67): the other side is refused from now on. -/
def reportIn (s : State) (pair epoch side : Nat) : State :=
  if s.arbiterOf pair ≠ some s.index then s
  else if s.grantedSide pair epoch = some side ∧ (s.twin.pendingGrant.any fun e => e.1 == pair && e.2.1 == epoch) = false then
    s.notice (2 * pair + side) 0x07 [pair, epoch]
  else
    let left := s.twin.arbiter.filter fun e => !(e.1 == pair && e.2.1 == epoch)
    (s.onTwin fun x => { x with
      arbiter := left ++ [(pair, epoch, side)]
      pendingGrant := x.pendingGrant.filter fun e => !(e.1 == pair && e.2.1 == epoch) }).recordWithStandby pair epoch side (4 + side)

/-- No octet carries the twin link. -/
def twinLinkLost (s : State) : State := (s.onTwin fun x => { x with linkDown := true }).setF F.TWIN_STATUS_HALF_LINK 0

/-- A frame that this device sent reached the twin with a bad CRC (R52): it and the later ones of its channel go again from the replay
buffer. Once its eighth retry has failed too, the link goes down and trains anew. -/
def frameFailed (s : State) (vc seq : Nat) : State :=
  let again := s.twin.replay.filter fun e => e.1 == vc && seqLe seq e.2.1
  if s.twin.linkDown ∨ (again.any fun e => e.2.1 == seq) = false then s
  else
    let r := s.twin.retries.getD vc (0, 0)
    let n := if r.1 = seq then r.2 + 1 else 1
    if 8 < n then (s.twinOctets.foldl (fun (t : State) o => t.setF F.LNK_STATUS_LANE_LOCK 0 o)
      (s.onTwin fun x => { x with octetsDown := s.twinOctets, retries := Twin.retries0 })).twinLinkLost
    else again.foldl (fun (t : State) e => t.emit e.2.2.2) (s.onTwin fun x => { x with retries := x.retries.set vc (seq, n) })

/-- An octet of the twin link is lost (R48). -/
def twinOctetLoss (s : State) (octet : Nat) : State :=
  if !s.twinOctets.contains octet ∨ s.twin.octetsDown.contains octet then s
  else
    let s := (s.onTwin fun x => { x with octetsDown := octet :: x.octetsDown }).event 0x0C0C [octet]
    if s.twinOctets.all s.twin.octetsDown.contains then s.twinLinkLost else s.setF F.TWIN_STATUS_HALF_LINK 1

end State

/-! The meanings. -/

/-- PAIR_HELLO_TIMER (R49, R57). -/
def execPairHelloTimer (s : State) : Host.Outcome State Fault Refusal :=
  .next (if s.f F.TWIN_CTL_PAIR_MODE = 1 ∧ (s.tstate = TS.pairing ∨ s.tstate = TS.solo ∨ s.tstate = TS.fenced ∨ s.tstate = TS.holding ∨
      s.tstate = TS.suspect) ∧ s.twin.noticeSent = false then s.sendHello else s)

/-- PAIR_HELLO (R49, R57, R71). -/
def execPairHello (h : HelloFrame) (s : State) : Host.Outcome State Fault Refusal :=
  .next (s.frameIn h.link 3 2 fun s => s.helloFrom h)

/-- RECONCILIATION_DONE (R71, R350): both maps are then cleared. -/
def execReconciliationDone (compared copied : Nat) (s : State) : Host.Outcome State Fault Refusal :=
  .next (if (s.tstate = TS.mirrored ∨ s.tstate = TS.suspect) ∧ s.twin.reconcile ≠ [] then
      (((s.onTwin fun x => { x with reconcile := [] }).clearChanged).event 0x0A0D [compared, copied]).serveHeld else s)

/-- FWD_REQ (R54). -/
def execFwdReq (src : Nat) (p : PartReq) (s : State) : Host.Outcome State Fault Refusal :=
  .next (s.forwardIn p.link src p)
/-- FWD_RESP (R54). -/
def execFwdResp (h : RespHdr) (code : Nat) (result : U64) (len detail : Nat) (s : State) :
    Host.Outcome State Fault Refusal :=
  .next (s.respIn h.link h.id code result len detail h.solo)
/-- DATA_RESP (R285). -/
def execDataResp (id : Nat) (data : List Byte) (s : State) : Host.Outcome State Fault Refusal := .next (s.dataIn id data)
/-- MIRROR (R55). -/
def execMirror (f : MirrorFrame) (s : State) : Host.Outcome State Fault Refusal := .next (s.mirrorIn f.link f)
/-- MIRROR_ACK (R55). -/
def execMirrorAck (l : LinkHdr) (ns : Nat) (s : State) : Host.Outcome State Fault Refusal := .next (s.ackIn l ns)

/-- HEARTBEAT_TIMER (R53, R56): credits that are owed go in CREDIT frames, otherwise a HEARTBEAT. -/
def execHeartbeatTimer (s : State) : Host.Outcome State Fault Refusal :=
  .next (if !s.twinOn ∨ s.twin.noticeSent then s
    else
      let due := (List.range 4).filter fun v => s.twin.owed.getD v 0 != 0
      if due.isEmpty then s.sendTwin 0x05 [] else due.foldl (fun (t : State) _ => t.sendTwin 0x0B []) s)

/-- HEARTBEAT (R56). -/
def execHeartbeat (s : State) (l : LinkHdr := ⟨0, 0, 0, 0⟩) : Host.Outcome State Fault Refusal := .next (s.frameIn l 3 1 State.resyncNext)
/-- CREDIT (R53): what it returns stands in its header. One that comes over the cascade from a lead device issues request-channel
credits (R98). -/
def execCredit (l : LinkHdr) (lead : Option Nat) (s : State) : Host.Outcome State Fault Refusal :=
  .next (match lead with
    | none => s.frameIn l 3 1 id
    | some d => if l.crVc = 0 then { s with tp := { s.tp with lent := s.tp.lent.set 0 d (s.tp.lent.get 0 d + l.crCount) } } else s)
/-- RESERVED_FRAME_DISCARD (R51). -/
def execReservedFrameDiscard (f : ReservedFrame) (vc : Nat) (s : State) : Host.Outcome State Fault Refusal :=
  .next (if f.type = 0 ∨ 0x0C < f.type then
      s.frameIn f.link vc f.units fun s => (s.onTwin fun x => { x with discarded := x.discarded + 1 }).event 0x0C0D [f.type, vc]
    else s)

/-- READ_FENCE_TIMEOUT (R58). -/
def execReadFenceTimeout (silenceNs : Nat) (overdue : Option Nat) (s : State) : Host.Outcome State Fault Refusal :=
  .next (s.readFence silenceNs overdue)
/-- GRANT_REQUEST_RETRY (R59, R63, R66, R67). -/
def execGrantRequestRetry (s : State) : Host.Outcome State Fault Refusal :=
  .next (if (s.tstate = TS.holding ∨ s.tstate = TS.fenced) ∧ s.twin.noAsk = false ∧ s.saving = false then s.askGrant else s)
/-- GRANT_REQUEST (R61). -/
def execGrantRequest (pair epoch side : Nat) (s : State) : Host.Outcome State Fault Refusal := .next (s.requestIn pair epoch side)
/-- GRANT_RECORD (R61). -/
def execGrantRecord (pair epoch side src : Nat) (s : State) : Host.Outcome State Fault Refusal :=
  .next (s.recordIn pair epoch side src)
/-- GRANT_RECORD_ACK (R61). -/
def execGrantRecordAck (pair epoch : Nat) (s : State) : Host.Outcome State Fault Refusal := .next (s.recordAcked pair epoch)
/-- GRANT (R62). -/
def execGrant (pair epoch arbiter : Nat) (s : State) : Host.Outcome State Fault Refusal := .next (s.grantIn pair epoch arbiter)
/-- GRANT_REFUSAL (R63): it counts in HOLDING and FENCED, for the current epoch: the twin holds the grant. -/
def execGrantRefusal (pair epoch : Nat) (s : State) : Host.Outcome State Fault Refusal :=
  .next (if pair ≠ s.pair ∨ epoch ≠ s.epoch then s
    else if s.tstate = TS.holding then (s.recordGrant epoch (1 - s.side)).enterFenced 0
    else if s.tstate = TS.fenced then s.recordGrant epoch (1 - s.side) else s)
/-- HOLD_LIMIT_EXPIRY (R63). -/
def execHoldLimitExpiry (s : State) : Host.Outcome State Fault Refusal :=
  .next (if s.tstate = TS.holding then s.enterFenced 1 else s)
/-- TWIN_GRANT (R60): a refused write changes nothing. -/
def execTwinGrant (v : U64) (s : State) : Host.Outcome State Fault Refusal := .next ((s.twinGrantOp v).getD s)
/-- GRANT_DECLINE (R66). -/
def execGrantDecline (dev epoch : Nat) (s : State) : Host.Outcome State Fault Refusal :=
  .next (s.declineIn (dev / 2) epoch (dev % 2))
/-- GRANT_REPORT (R66). -/
def execGrantReport (pair epoch side : Nat) (s : State) : Host.Outcome State Fault Refusal := .next (s.reportIn pair epoch side)
/-- GRANT_REPORT_RETRY (R66). -/
def execGrantReportRetry (s : State) : Host.Outcome State Fault Refusal :=
  .next (if s.twin.reportDue ∧ s.saving = false then s.reportGrant else s)
/-- RESYNC_DATA (R69). -/
def execResyncData (l : LinkHdr) (gran gen : Nat) (data : List Byte) (s : State) : Host.Outcome State Fault Refusal :=
  .next (s.resyncIn l gran gen data)
/-- RESYNC_DONE (R70): it names a weir to come. -/
def execResyncDone (f : TwinFrame) (s : State) : Host.Outcome State Fault Refusal :=
  .next (s.frameIn f.link 3 2 fun s =>
    if s.tstate = TS.resyncTarget ∧ s.weirCount < f.value then s.onTwin fun x => { x with doneWeir := some f.value } else s)

end Sys2Proof.Machine
end

