-- ==== Sys2Proof/Machine/Flash.lean ====
section
/-! DEFINITION. The flash tier (R320 to R331), the dirty budget (R332 to R336) and the arming of the save plan (R337, R338). -/

namespace Sys2Proof.Machine

namespace State

def onFlash (s : State) (f : Flash → Flash) : State := { s with flash := f s.flash }

/-! Granule records (R331). -/

/-- The bytes of a device granule that are not 0, by their offset in it. -/
def granData (s : State) (gran : Nat) : SMap Byte :=
  (s.dram.mem.filter fun e => e.1 / granBytes == gran).map fun (e : Nat × Byte) => (e.1 % granBytes, e.2)
/-- The poisoned lines of a granule. -/
def granPoison (s : State) (gran : Nat) : List Nat := (s.dram.poison.filter fun l => l / 1024 == gran).map (· % 1024)
/-- Replace the bytes of a granule. -/
def setGran (s : State) (gran : Nat) (d : SMap Byte) : State :=
  let mem := d.foldl (fun (m : SMap Byte) e => m.set 0 (gran * granBytes + e.1) e.2)
    (s.dram.mem.filter fun e => e.1 / granBytes != gran)
  { s with dram := { s.dram with mem := mem } }
/-- The home record of a granule as it stands, under the next value of the IV counter; a poisoned line is stored as zero bytes. ORDINAL
counts the granule's home writes, this one with them. -/
def recOf (s : State) (gran : Nat) : Rec :=
  let p := s.granPoison gran
  ⟨(s.regionOfGran gran).getD 0, s.gen gran, (s.granData gran).filter fun e => !p.contains (e.1 / 64), p, 1, 0,
    s.flash.homeWrites.get 0 gran + 1, s.flash.iv + 1, s.f F.SEC_STATUS_FLASH_KEY_GEN⟩
/-- Record `k` of a save image. -/
def saveRecOf (s : State) (i : Image) (k gran : Nat) : Rec :=
  { s.recOf gran with kind := 2, seq := i.seq, ordinal := k, iv := s.flash.iv + 1 + k, keyGen := i.keyGen }
/-- The IV counter has given `n` values (R330). -/
def useIv (s : State) (n : Nat) : State := s.onFlash fun x => { x with iv := x.iv + n }

/-! Records as they stand in flash (R330, R331, R342). -/

/-- The flash key of a generation (R409): SHAKE256 of the unique secret, "flash" and FLASH_KEY_GEN. -/
def flashKey (keyGen : Nat) : List Byte :=
  Config.shake256 (Config.uniqueSecret ++ [0x66, 0x6C, 0x61, 0x73, 0x68] ++ toBytes 2 keyGen) 32
/-- The IV of a kind: 1 a home, 2 a save record, 3 the recorder, 4 metadata (R330). -/
def flashIv (kind n : Nat) : List Byte := toBytes 12 (kind <<< 88 ||| n % 2 ^ 88)
/-- The quadwords of an IV counter. -/
def ivLo (n : Nat) : Nat := n % 2 ^ 64
def ivHi (n : Nat) : Nat := n / 2 ^ 64 % 2 ^ 24
/-- The header of a granule record (R331). -/
def recHeader (gran : Nat) (r : Rec) : List Byte :=
  [r.kind <<< 56 ||| b2n (!r.poison.isEmpty) <<< 48 ||| gran <<< 16 ||| r.region, r.gen <<< 16, r.seq, r.ordinal, ivLo r.iv, ivHi r.iv,
    0, 0].flatMap (toBytes 8)
/-- The poison bitmap: bit i marks line i. -/
def recBitmap (r : Rec) : List Byte := (List.range 16).flatMap fun j => toBytes 8 (maskOf ((List.range 64).filter fun i => r.poison.contains (64 * j + i)))
/-- A granule record as flash holds it: header, bitmap, ciphertext, tag. -/
def recBytes (gran : Nat) (r : Rec) : List Byte :=
  let aad := recHeader gran r ++ if r.poison.isEmpty then [] else recBitmap r
  let (c, tag) := Config.gcmSeal (flashKey r.keyGen) (flashIv r.kind r.iv) aad ((List.range granBytes).map fun o => r.data.get 0 o)
  aad ++ c ++ tag
/-- The header of a commit record (R342), and the record. -/
def commitHeader (c : CommitRec) : List Byte :=
  [3 <<< 56 ||| c.trigger <<< 48 ||| c.device <<< 32, c.seq, c.granules, c.metaBytes, c.epoch <<< 32 ||| ivHi c.iv, c.time, c.cal,
    ivLo c.iv].flatMap (toBytes 8)
def commitBytes (keyGen : Nat) (c : CommitRec) : List Byte :=
  let (m, tag) := Config.gcmSeal (flashKey keyGen) (flashIv 4 c.iv) (commitHeader c) c.digest
  commitHeader c ++ m ++ tag

/-- Bytes of flash in use by homes: granule records and the segment images of streams. -/
def homeBytes (s : State) : Nat :=
  s.flash.homes.length * granBytes +
    (s.streams.vals.map fun st => (st.loaded.vals.map List.length).foldl (· + ·) 0).foldl (· + ·) 0
/-- HOME_GIB (R323). -/
def homeCap (s : State) : Nat :=
  let raw := (bitsOf 32 (s.f F.FL_POP_CH_MASK)).length * s.f F.FL_POP_DIES_PER_CH * s.f F.FL_POP_DIE_GBIT / 8
  (raw - 3 * s.f F.SV_AREA_SAVE_AREA_GIB - 64) * 9 / 10
/-- Bring HOME_USED_GIB up to date; event 0x0908 as the free part falls below 5 %. -/
def homeSync (s : State) : State :=
  let used := ceilDiv s.homeBytes (2 ^ 30)
  let cap := s.f F.FL_CAP_HOME_GIB
  let before := s.f F.FL_CAP_HOME_USED_GIB
  let s := s.setF F.FL_CAP_HOME_USED_GIB used
  if (cap - used) * 20 < cap ∧ cap ≤ (cap - before) * 20 then s.event 0x0908 [cap - used] else s

/-- A flash copy of a region's granules is freed (R18, R322). -/
def freeHomes (s : State) (r : Nat) : State :=
  (s.onFlash fun x => { x with homes := x.homes.filter fun e => e.2.region != r }).homeSync

/-- A granule is no longer dirty. -/
def cleanGran (s : State) (gran : Nat) : State :=
  let s := { s with dram := { s.dram with dirty := s.dram.dirty.filter (· != gran) } }
  (s.onFlash fun x => { x with inFlight := x.inFlight.del gran, reclean := x.reclean.filter (· != gran) }).spateUpdate

/-- Parts held at the point of application are performed, in their order, as far as they now may be, after the copies of the twin that
waited (R335). -/
def retryFull (s : State) : State := s.takeLate.retryParts fun p => p.st == .heldFull

/-- Of the dirty granules whose home lies on a die, write-behind takes that which became dirty first, those of rank 3 before the others
(R325, R326; DESIGN CHOICE: a die programs one record at a time). -/
def urgent (s : State) (g : Nat) : Bool :=
  s.flag F.SV_STATUS_SPATE || s.flag F.SV_STATUS_FULL || s.flag F.SV_STATUS_OVER || s.flash.reclean.contains g
/-- The rank of a granule's write-behind: 3 while the device's spate throttle, FULL or OVER is set, or where its die was retired. -/
def cleanRank (s : State) (g : Nat) : Nat := if s.urgent g then 3 else 4
def cleanFirst (s : State) (gran : Nat) : Bool :=
  let mine := s.dram.dirty.filter fun g => Config.homeDie g == Config.homeDie gran
  (mine.filter s.urgent ++ mine).head? == some gran

/-- Write-behind's program of a granule completes (R325): the granule is clean if its generation is that which write-behind recorded;
otherwise it keeps its place. The record goes through a buffer of the cipher pool, for which the flash path retries (R253). -/
def writeBehind (s : State) (gran : Nat) : State :=
  if !s.flag F.FL_CTL_WB_EN ∨ s.flash.run.isSome ∨ !s.dram.dirty.contains gran then s
  else if !s.poolRoom 5 1 then s.poolFail 5
  else
    let r := s.recOf gran
    let s := ((s.poolTake 5 1).poolGive 5 1).useIv 1
    if s.flash.inFlight.at? gran ≠ some (s.gen gran) then
      s.onFlash fun x => { x with inFlight := x.inFlight.put gran (s.gen gran) }
    else
      let s := s.onFlash fun x => { x with
        homes := x.homes.put gran r, homeWrites := x.homeWrites.put gran r.ordinal, cleaned := x.cleaned + 1 }
      let s := s.setF F.FL_TRAFFIC_CLEANED_GIB (Nat.min (2 ^ 32 - 1) (s.flash.cleaned / 16384))
      ((s.cleanGran gran).homeSync).retryFull

/-! Errors and wear (R327 to R329). -/

/-- The GiB of the save area that stand on dies in service. -/
def savePresent (s : State) : Nat := s.f F.SV_AREA_SAVE_AREA_GIB - s.flash.saveLost
/-- The offset of a block of a channel is tracked (R328, R353). -/
def trackLevel (s : State) (chan block level : Nat) : State :=
  let s := s.onFlash fun x => { x with levels := x.levels.put (32 * block + chan) level }
  let mine := (s.flash.levels.filter fun e => e.1 % 32 == chan && e.2 != 0).map Prod.snd
  (s.setF F.NCH_LEVEL_RL_SHIFTED (Nat.min 65535 mine.length) chan).setF F.NCH_LEVEL_RL_MAX_STEP (Nat.min 255 (mine.foldl Nat.max 0)) chan
/-- Bits that the code has corrected (R353): the register counts them in units of 2^20. -/
def correctBits (s : State) (chan n : Nat) : State :=
  let t := s.flash.corrected.get 0 chan + n
  (s.onFlash fun x => { x with corrected := x.corrected.put chan (t % 2 ^ 20) }).bump F.NCH_ECC_CORR_BITS chan (t / 2 ^ 20)
/-- A block is erased once its contents have moved (R327): PE_AVG, PE_MAX and PE_SAVE_AVG follow its cycles. -/
def eraseBlock (s : State) (block : Nat) : State :=
  let s := s.onFlash fun x => { x with cycles := x.cycles.put block (x.cycles.get 0 block + 1) }
  let of (save : Bool) : List Nat := (s.flash.cycles.filter fun e => Config.saveBlock e.1 == save).map Prod.snd
  let avg (save : Bool) (n : Nat) : Nat := Nat.min 65535 ((of save).foldl (· + ·) 0 / n)
  ((s.setF F.FL_WEAR_PE_AVG (avg false Config.homeBlocks)).setF F.FL_WEAR_PE_MAX (Nat.min 65535 ((of false).foldl Nat.max 0))).setF
    F.FL_WEAR_PE_SAVE_AVG (avg true Config.saveBlocks)

/-- Retire a die (R329): its homes' granules are dirty again, and its blocks of the save area leave it. -/
def retireDie (s : State) (chan die : Nat) : State :=
  let mine := (s.flash.homes.map Prod.fst).filter fun g => Config.homeDie g == 16 * chan + die && !s.dram.dirty.contains g
  let k := 16 * chan + die
  let s := (mine.foldl State.markDirty s).onFlash fun x => { x with
    reclean := lineUnion (x.reclean ++ mine), saveLost := x.saveLost + Config.saveShare k }
  let s := s.setF F.SV_AREA_ERASED_GIB (s.f F.SV_AREA_ERASED_GIB - Config.saveShare k)
  let s := s.setF F.NCH_STATUS_DIES_RET (s.f F.NCH_STATUS_DIES_RET chan ||| 1 <<< die) chan
  let s := s.setF F.NCH_STATUS_DIES_OK (s.f F.NCH_STATUS_DIES_OK chan &&& (65535 ^^^ 1 <<< die)) chan
  (s.bump F.FL_RETIRED_DIES_RETIRED).event 0x0906 [chan, die, mine.length]

/-- A program or an erase failure (R329): the block is retired; a die past 1 % of its blocks is retired. -/
def flashFailure (s : State) (x : Fld) (code chan die block : Nat) : State :=
  if 32 ≤ chan ∨ 16 ≤ die then s
  else
    let k := 16 * chan + die
    let s := (s.bump x chan).event code [chan, die, block]
    let s := if s.flash.badBlocks.contains (k, block) then s
      else (s.onFlash fun y => { y with badBlocks := (k, block) :: y.badBlocks }).bump F.FL_RETIRED_BLOCKS_RETIRED
    let n := s.flash.dieFails.get 0 k + 1
    let s := s.onFlash fun y => { y with dieFails := y.dieFails.put k n }
    if Config.blocksPerDie < 100 * n && !bit (s.f F.NCH_STATUS_DIES_RET chan) die then s.retireDie chan die else s

/-- A read that failed its hard decode is tried again (R328); one that no step decodes is unreadable, and a die that does not respond is
retired (R329). Steps 1 and 2 are the offsets and the retry settings, 3 the soft decode; kind 1 is a home, 2 a save record, 3 a stream,
4 the recorder. -/
def readRetry (s : State) (chan die : Nat) (r : Retry) (gran kind : Nat) : State :=
  if r.step = 1 ∨ r.step = 2 then
    (((s.bump F.FL_ECC_RETRIES).trackLevel chan r.block r.level).correctBits chan r.corrBits).reachEvent 0x0905 chan [chan]
  else if r.step = 3 then (s.bump F.FL_ECC_SOFT).correctBits chan r.corrBits
  else if r.step = 5 then
    if 32 ≤ chan ∨ 16 ≤ die ∨ bit (s.f F.NCH_STATUS_DIES_RET chan) die = true then s else s.retireDie chan die
  else
    let s := ((s.bump F.FL_ECC_UNREAD).bump F.NCH_ECC_UNREAD chan).event 0x0904 [chan, die, kind]
    let all := List.range 1024
    let spoil (r : Rec) : Rec := { r with data := [], poison := all }
    if kind = 1 then s.onFlash fun x => { x with homes := x.homes.modify gran spoil }
    else if kind = 2 then s.onFlash fun x =>
      { x with image := x.image.map fun (i : Image) => { i with recs := i.recs.modify gran spoil } }
    else s

/-- Flash scrub reads a block (R328): its offset is tracked, and a block with too high an error rate moves. -/
def flashScrub (s : State) (block : Nat) (x : ScrubRead) (passEnd : Bool) : State :=
  let chan := Config.blockChan block
  let s := (s.trackLevel chan block x.level).correctBits chan x.corrBits
  let s := s.onFlash fun y => { y with scrubRead := y.scrubRead + 1, scrubMoved := y.scrubMoved + b2n x.bad }
  let s := if x.bad then s.eraseBlock block else s
  if passEnd then
    (s.event 0x0907 [s.flash.scrubRead, s.flash.scrubMoved]).onFlash fun x => { x with scrubRead := 0, scrubMoved := 0 }
  else s

/-- Levelling, collection or the relocation of adopted save records moves data (R327, R345). -/
def relocate (s : State) (block gib : Nat) : State :=
  let s := (s.eraseBlock block).bump F.FL_TRAFFIC_RELOC_GIB 0 gib
  if s.flash.adopted = 0 then s
  else
    let n := Nat.min gib s.flash.adopted
    let s := s.onFlash fun x => { x with adopted := x.adopted - n }
    (s.setF F.SV_AREA_ERASED_GIB (Nat.min s.savePresent (s.f F.SV_AREA_ERASED_GIB + n))).event 0x0909 [n]

/-! The dirty budget (R332 to R334). -/

/-- own_budget (R332) in bytes. -/
def ownBudget (s : State) : Nat :=
  let p := s.f F.SV_CTL_PSAVE_W
  if p = 0 then 0
  else
    let left := 3000 * s.f F.SV_INPUTS_E_USABLE_J - 4 * p * s.f F.SV_CTL_T_FIXED_MS
    let b := left * s.flash.rate / (4000 * p)
    Nat.min b (s.f F.SV_AREA_ERASED_GIB * 2 ^ 30 * 5 / 6) / granBytes * granBytes

/-- The budget follows the twin's in these states (R333). -/
def budgetShared (s : State) : Bool :=
  decide (s.tstate = TS.mirrored ∨ s.tstate = TS.resyncSource ∨ s.tstate = TS.resyncTarget)

/-- B takes a value (R333, R334, R352). -/
def setBudget (s : State) (b : Nat) : State :=
  let old := s.dram.budget
  let s := { s with dram := { s.dram with budget := b } }.setF F.SV_BUDGET_BUDGET_MIB (b / 2 ^ 20)
  let s := if (Nat.max old b - Nat.min old b) * 20 > old then s.event 0x0A04 [old / 2 ^ 20, b / 2 ^ 20] else s
  s.spateUpdate.retryFull

/-- The budget that is due takes effect (R333): the smaller of the own and the twin's, or the own alone. -/
def budgetDue (s : State) : State :=
  match s.flash.budgetAt with
  | none => s
  | some (_, own) =>
    let s := s.onFlash fun x => { x with budgetAt := none }
    let b := match s.twin.peerOwn with
      | some m => if s.budgetShared then Nat.min own (m * 2 ^ 20) else own
      | none => own
    { s with twin := { s.twin with peerOwn := none } }.setBudget b

/-- BUDGET_RECOMPUTE at a weir (R332, R333, R336): the own budget goes to the twin of a pair; B follows 1 µs later. -/
def budgetRecompute (s : State) : State :=
  let own := s.ownBudget
  let s := if s.tstate = TS.unpaired ∨ s.tstate = TS.soloProv then s else s.notice (s.index ^^^ 1) 0x03 [own / 2 ^ 20]
  let s := s.onFlash fun x => { x with budgetAt := some (s.time + 1000, own) }
  let s := s.setF F.SV_INPUTS_SAVE_RATE_MBS (s.flash.rate / 1000000)
  if s.overNext then s.reachEvent 0x0A05 0 [mib s.dirtyBytes, mib s.dram.budget] else s

/-- SAVE_RATE is 0.95 times the measured rate, at most 200 GB/s (R332). -/
def setRate (s : State) (mbs : Nat) : State :=
  let r := Nat.min (mbs * 950000) 200000000000
  (s.onFlash fun x => { x with rate := r }).setF F.SV_INPUTS_SAVE_RATE_MBS (r / 1000000)

/-- The arming test ends (R338). -/
def armingEnd (s : State) : State :=
  let own := s.ownBudget
  if own < 4 * 2 ^ 30 then (s.setF F.SV_CTL_ARM 0).event 0x0A02 [own / 2 ^ 20]
  else
    ((s.setF F.SV_STATUS_ARMED 1).setF F.SV_STATUS_SAVE_STATE 1).event 0x0A01
      [own / 2 ^ 20, s.f F.SV_INPUTS_SAVE_RATE_MBS]

/-- Boot stage 0x06 (R321, R343): the channels found, and the image in the save area. -/
def flashFound (s : State) (chans : List FlashTrain) : State :=
  let n := (chans.filter fun c => decide (0 < c.dies)).length
  let first := chans.head?
  let bad := (List.range 32).filter fun i => match chans[i]? with
    | some c => decide (0 < c.dies) && (!c.ok || decide (16 < c.dies ∨ 2048 < c.gbit) || match first with
      | some f => c.dies != f.dies || c.part != f.part
      | none => true)
    | none => false
  let shape := (n == 32 || n == 16) && (chans.take n).all fun c => decide (0 < c.dies)
  if s.f F.MGW_BOOT_STAGE ≠ 5 ∨ s.f F.MGW_STATUS_PHASE ≠ 0 then s
  else if !shape || !bad.isEmpty then
    ((s.setF F.MGW_BOOT_ERROR 0x06).setF F.MGW_BOOT_ERR_DETAIL
      (if bad.isEmpty then maskOf ((List.range 32).filter fun i => match chans[i]? with
        | some c => c.dies == 0
        | none => true) else maskOf bad)).setF F.MGW_STATUS_PHASE 5
  else
    let dies := (first.map (·.dies)).getD 0
    let gbit := (first.map (·.gbit)).getD 0
    let s := ((s.setF F.FL_POP_CH_MASK (2 ^ n - 1)).setF F.FL_POP_DIES_PER_CH dies).setF F.FL_POP_DIE_GBIT gbit
    let s := s.setF F.FL_WEAR_PE_LIMIT ((first.map (·.peLimit)).getD 0)
    let s := (s.setF F.FL_CAP_HOME_GIB s.homeCap).homeSync
    let s := (List.range n).foldl (fun (t : State) c =>
      let ret := t.f F.NCH_STATUS_DIES_RET c
      ((t.setF F.NCH_STATUS_TRAINED 1 c).setF F.NCH_STATUS_DIES_OK ((2 ^ dies - 1) &&& (65535 ^^^ ret)) c).event 0x0901 [c, dies, gbit]) s
    -- the IV counter goes on from the next multiple of 2^40 (R330)
    let s := s.onFlash fun x => { x with iv := (x.iv / 2 ^ 40 + 1) * 2 ^ 40 }
    let s := s.setF F.MGW_BOOT_STAGE 6
    match s.flash.image with
    | some i =>
      let s := ((s.setF F.SV_STATUS_IMAGE 1).setF F.SV_STATUS_IMAGE_KIND i.kind).setF F.SV_STATUS_SAVE_STATE 6
      (s.setF F.SV_STATUS_IMAGE_SEQ i.seq).event 0x0A0A [i.seq, i.kind]
    | none => s

end State

/-- FLASH_PROGRAM_FAILURE (R329, R351). -/
def execFlashProgramFailure (chan die block : Nat) (s : State) : Host.Outcome State Fault Refusal :=
  .next (s.flashFailure F.NCH_FAIL_PROG_FAIL 0x0902 chan die block)
/-- FLASH_ERASE_FAILURE (R329, R351). -/
def execFlashEraseFailure (chan die block : Nat) (s : State) : Host.Outcome State Fault Refusal :=
  .next (s.flashFailure F.NCH_FAIL_ERASE_FAIL 0x0903 chan die block)
/-- FLASH_READ_RETRY (R328, R329). -/
def execFlashReadRetry (chan die : Nat) (step : Retry) (gran kind : Nat) (s : State) : Host.Outcome State Fault Refusal :=
  .next (s.readRetry chan die step gran kind)
/-- OWN_BUDGET (R333): the twin's own budget for this weir; 1 µs after the weir the smaller of the two is B. -/
def execOwnBudget (mib : Nat) (s : State) : Host.Outcome State Fault Refusal :=
  .next { s with twin := { s.twin with peerOwn := some mib } }
/-- SPATE_FLAGS (R334, R335): another device's flags; the twin's FULL holds durable parts of the pair. -/
def execSpateFlags (dev : Nat) (spate full ovr : Bool) (_dMib : Nat) (s : State) : Host.Outcome State Fault Refusal :=
  .next (
    let others := s.spates.filter (· != dev)
    let s := { s with spates := if spate then dev :: others else others }
    if dev = s.index ^^^ 1 then
      { s with twin := { s.twin with peerSpate := spate, peerFull := full, peerOver := ovr } }.retryFull
    else s)
/-- SAVE_RATE_RETEST (R332). -/
def execSaveRateRetest (mbs : Nat) (s : State) : Host.Outcome State Fault Refusal :=
  .next (if s.flag F.SV_STATUS_ARMED ∧ s.flash.run.isNone then s.setRate mbs else s)
/-- ARMING_TEST_DONE (R338). -/
def execArmingTestDone (mbs : Nat) (s : State) : Host.Outcome State Fault Refusal :=
  .next (if s.flag F.SV_CTL_ARM ∧ s.f F.SV_STATUS_SAVE_STATE = 0 ∧ s.flash.run.isNone then (s.setRate mbs).armingEnd else s)
/-- FLASH_SCAN_DONE (R321, R343). -/
def execFlashScanDone (chans : List FlashTrain) (s : State) : Host.Outcome State Fault Refusal := .next (s.flashFound chans)

end Sys2Proof.Machine
end

