-- ==== Sys2Proof/Machine/Wire.lean ====
section
/-! DEFINITION. What the device sends, as bytes on the wire (R3): CRC-32, the frames of the twin link with their header (R51), and the
packets and control frames of braid mode (R82, R86, R88). A header is big-endian; what follows it is little-endian. -/

namespace Sys2Proof.Machine

/-! CRC-32 of IEEE 802.3, bits taken least significant first. -/

def crcStep : Nat → Nat → Nat
  | 0, c => c
  | n + 1, c => crcStep n (if c % 2 = 1 then c / 2 ^^^ 0xEDB88320 else c / 2)
def crc32 (bs : List Byte) : Nat := bs.foldl (fun c b => crcStep 8 (c ^^^ b.toNat)) 0xFFFFFFFF ^^^ 0xFFFFFFFF

/-- The fields of a header, from its highest bit down: width and value. -/
abbrev Row := List (Nat × Nat)
def Row.width (r : Row) : Nat := r.foldl (fun n f => n + f.1) 0
def Row.value (r : Row) : Nat := r.foldl (fun n f => n * 2 ^ f.1 + f.2 % 2 ^ f.1) 0
/-- A number on the wire, big-endian. -/
def bigEndian (n v : Nat) : List Byte := (toBytes n v).reverse
def Row.bytes (r : Row) : List Byte := bigEndian (r.width / 8) r.value

/-- Items of a message by their places. -/
def Msg.arg (m : Msg) (i : Nat) : Nat := m.args.getD i 0

/-! The twin link (R51). A frame lists TYPE, SEQ, CR_VC, CR_COUNT, ACK_SEQ, then what its type brings. -/

/-- DEV_OFF, GEN, FLAGS and the payload of a frame. Where R51 gives a payload by its items, they stand in its order, eight bytes each
(DESIGN CHOICE: the spec gives no layout of the PAIR_HELLO). -/
def Msg.frameBody (m : Msg) : Nat × Nat × Nat × List Byte :=
  match m.arg 0 with
  | 0x03 => (m.arg 5, m.arg 6, m.arg 7 + 2 * m.arg 8, m.data)
  | 0x06 => (0, 0, 0, toBytes 64 (ofBytes ((m.args.drop 5).flatMap (toBytes 8))))
  | 0x07 => (0, 0, 0, toBytes 64 (m.arg 5 % 2 ^ 32 + m.arg 6 % 256 * 2 ^ 32))
  | 0x08 => (m.arg 5, 0, 0, [])
  | 0x09 => (m.arg 5, 0, 0, m.data)
  | 0x0A => (m.arg 5, m.arg 6, 0, m.data)
  | 0x0C => (0, 0, 0, toBytes 64 (m.arg 5 % 2 ^ 64))
  | _ => (0, 0, 0, m.data)

/-- The bytes of a twin-link frame on virtual channel `vc`: CRC covers the header above it and the payload. -/
def Msg.frameBytes (m : Msg) (vc : Nat) : List Byte :=
  let (off, gen, flags, payload) := m.frameBody
  let top : Row := [(2, vc), (6, m.arg 0), (2, m.arg 2), (12, m.arg 3), (10, (payload.length + 63) / 64 - 1), (32, m.arg 1),
    (44, off), (20, 0), (48, gen), (16, flags)]
  top.bytes ++ bigEndian 4 (crc32 (top.bytes ++ payload)) ++ bigEndian 4 (m.arg 4) ++ payload

/-! Braid mode (R82, R86, R88). A data packet lists TYPE, PSN, its source port, RETX, MSN, TAG, KEY, ADDR, MSG_LEN, PKT_OFF, DQ, SQ, TS and
ACK_REQ; a SACK lists TYPE, CUM_PSN, BITMAP, TS_ECHO, RQ and OQ; an ECHO TYPE, RQ and OQ; an RNR TYPE, MSN, CAUSE, RETRY_US, RQ and OQ. -/

/-- The 48-byte header of a data packet. -/
def Msg.braidRow (m : Msg) : Row :=
  [(4, 1), (4, m.arg 0), (1, m.arg 13), (1, m.arg 3), (6, 0), (16, m.data.length), (32, m.arg 10), (32, m.arg 11), (32, m.arg 1),
    (16, m.arg 4), (16, m.arg 5), (32, m.arg 8), (32, m.arg 9), (32, m.arg 12), (64, m.arg 6), (64, m.arg 7)]
def Msg.sackRow (m : Msg) : Row :=
  [(4, 1), (4, 6), (24, 0), (32, m.arg 4), (32, m.arg 5), (32, m.arg 1), (64, m.arg 2), (32, m.arg 3), (32, 0)]
def Msg.echoRow (m : Msg) : Row := [(4, 1), (4, 7), (24, 0), (32, m.arg 1), (32, m.arg 2)]
def Msg.rnrRow (m : Msg) : Row :=
  [(4, 1), (4, 8), (24, 0), (32, m.arg 4), (32, m.arg 5), (16, m.arg 1), (8, m.arg 2), (8, 0), (32, m.arg 3)]

/-- The UDP payload of a packet of braid mode, BCRC at its end. -/
def Msg.braidBytes (m : Msg) : List Byte :=
  let bs := match m.arg 0 with
    | 6 => m.sackRow.bytes
    | 7 => m.echoRow.bytes
    | 8 => m.rnrRow.bytes
    | _ => m.braidRow.bytes ++ m.data
  bs ++ bigEndian 4 (crc32 bs)

end Sys2Proof.Machine
end

