-- ==== Sys2Proof/Machine/Frond.lean ====
section
/-! DEFINITION. The frond format (R269 to R271), segment headers and tile entries (R267, R268), layout selectors and the tile
shaper (R286, R287). -/

namespace Sys2Proof.Machine

/-! Planes (R270). -/

/-- The next nibble of a byte stream, low half first, with the half of a byte that is left. -/
def nibble : List Byte × Option Nat → Option (Nat × List Byte × Option Nat)
  | (bs, some x) => some (x, bs, none)
  | (b :: bs, none) => some (b.toNat % 16, bs, some (b.toNat / 16))
  | ([], none) => none

/-- `n` bytes of a plane coded with a table; a half byte left at its end is skipped. -/
def tablePlane (tab : List Byte) : Nat → List Byte × Option Nat → Option (List Byte × List Byte)
  | 0, (bs, _) => some ([], bs)
  | n + 1, st => match nibble st with
    | none => none
    | some (i, st) =>
      if i < 15 then (tablePlane tab n st).map fun r => (tab.getD i 0 :: r.1, r.2)
      else match nibble st with
        | none => none
        | some (lo, st) => match nibble st with
          | none => none
          | some (hi, st) => (tablePlane tab n st).map fun r => (BitVec.ofNat 8 (lo + 16 * hi) :: r.1, r.2)

/-- One plane of `n` bytes, and the bytes after it. -/
def decodePlane (n : Nat) : List Byte → Option (List Byte × List Byte)
  | [] => none
  | m :: bs =>
    if m = 0 then (if bs.length < n then none else some (bs.take n, bs.drop n))
    else if m = 1 then (if bs.length < 15 then none else tablePlane (bs.take 15) n (bs.drop 15, none))
    else none

/-- The planes of a payload. -/
def decodePlanes (n : Nat) : Nat → List Byte → Option (List (List Byte) × List Byte)
  | 0, bs => some ([], bs)
  | k + 1, bs => match decodePlane n bs with
    | none => none
    | some (p, bs) => (decodePlanes n k bs).map fun r => (p :: r.1, r.2)

/-- Decoded byte j × W + p is byte j of plane p. -/
def weave : Nat → List (List Byte) → List Byte
  | 0, _ => []
  | n + 1, ps => ps.filterMap List.head? ++ weave n (ps.map List.tail)

/-! Blocks and tiles (R269, R270). -/

/-- Decode the frond block that opens a byte list: its decoded bytes, and its length with header and padding. -/
def frondBlock (bs : List Byte) : Option (List Byte × Nat) :=
  let q0 := ofBytes (bs.take 8)
  let q1 := ofBytes ((bs.drop 8).take 8)
  let w := 2 ^ bits q0 17 16
  let clen := bits q1 63 32
  let ulen := bits q1 31 0
  if bs.length < 16 + clen ∨ bits q0 31 18 ≠ 0 ∨ bits q0 17 16 = 3 ∨ 1 < bits q0 15 8 ∨ bits q0 7 0 ≠ 1 ∨
      ulen % 64 ≠ 0 ∨ ulen < 64 ∨ 65536 < ulen then none
  else
    let pay := (bs.drop 16).take clen
    let out : Option (List Byte) :=
      if bits q0 15 8 = 0 then (if clen = ulen then some pay else none)
      else match decodePlanes (ulen / w) w pay with
        | some (ps, []) => some (weave (ulen / w) ps)
        | _ => none
    match out with
    | some d => if crc32 d = bits q0 63 32 then some (d, ceilDiv (16 + clen) 16 * 16) else none
    | none => none

/-- Decode a tile's stored bytes to its raw bytes, `raw` of them. -/
def frondTile : Nat → Nat → List Byte → Option (List Byte)
  | 0, _, _ => none
  | fuel + 1, raw, bs =>
    if raw = 0 then (if bs.isEmpty then some [] else none)
    else match frondBlock bs with
      | none => none
      | some (d, n) =>
        if d.length = Nat.min raw 65536 then (frondTile fuel (raw - d.length) (bs.drop n)).map fun r => d ++ r else none

/-! Segment images (R267, R268). `rd` reads the quadword at an image offset. -/

/-- A tile entry. -/
structure TileEnt where
  esize : Nat
  rows : Nat
  cols : Nat
  off : Nat
  slen : Nat
  deriving DecidableEq, Repr

def tileEnt (rd : Nat → Nat) (t : Nat) : TileEnt :=
  let a := 64 + 32 * t
  ⟨bits (rd a) 49 48, bits (rd a) 31 16 + 1, bits (rd a) 15 0 + 1, rd (a + 8), rd (a + 16) % 2 ^ 32⟩
/-- Raw bytes of a tile. -/
def TileEnt.raw (e : TileEnt) : Nat := e.rows * e.cols * 2 ^ e.esize
def imgTiles (rd : Nat → Nat) : Nat := bits (rd 0) 46 32
def imgDataOff (rd : Nat → Nat) : Nat := ceilDiv (64 + 32 * imgTiles rd) 65536 * 65536

/-- The header and every tile entry of a source image keep R267 and R268. -/
def imgOk (rd : Nat → Nat) (seg : Nat) : Bool :=
  let n := imgTiles rd
  bits (rd 0) 63 47 == 0 && bits (rd 0) 31 8 == 0 && bits (rd 0) 7 0 == 1 && decide (1 ≤ n ∧ n ≤ 16384) && rd 16 == seg &&
    rd 24 == imgDataOff rd && [32, 40, 48, 56].all (fun a => rd a == 0) && decide (imgDataOff rd ≤ rd 8) &&
    (List.range n).all fun t =>
      let a := 64 + 32 * t
      let e := tileEnt rd t
      bits (rd a) 63 50 == 0 && e.esize != 3 && bits (rd a) 47 32 == 0 && bits (rd (a + 16)) 63 32 == 0 && rd (a + 24) == 0 &&
        e.off % 64 == 0 && decide (imgDataOff rd ≤ e.off ∧ e.off + e.slen ≤ rd 8) && e.raw % 64 == 0 &&
        decide (65536 ≤ e.raw ∧ e.raw ≤ 4194304)

/-- Read a quadword of a byte list. -/
def rdList (bs : List Byte) (a : Nat) : Nat := ofBytes ((bs.drop a).take 8)

/-- The frond blocks of every tile are valid. -/
def blocksOk (img : List Byte) : Bool :=
  (List.range (imgTiles (rdList img))).all fun t =>
    let e := tileEnt (rdList img) t
    (frondTile (e.raw / 65536 + 2) e.raw ((img.drop e.off).take e.slen)).isSome

/-- The per-pair image of a segment (R272): the header with OFF rewritten for the pair's own tiles and 0 for the others, then
those tiles from DATA_OFF on, each at a multiple of 64. -/
def pairImage (img : List Byte) (mine : Nat → Bool) : List Byte :=
  let rd := rdList img
  let (ents, data) := (List.range (imgTiles rd)).foldl (fun (acc : List Byte × List Byte) t =>
    let e := (img.drop (64 + 32 * t)).take 32
    let x := tileEnt rd t
    if mine t then
      let d := (img.drop x.off).take x.slen
      (acc.1 ++ e.take 8 ++ toBytes 8 (imgDataOff rd + acc.2.length) ++ e.drop 16,
        acc.2 ++ d ++ List.replicate (ceilDiv d.length 64 * 64 - d.length) 0)
    else (acc.1 ++ e.take 8 ++ toBytes 8 0 ++ e.drop 16, acc.2)) ([], [])
  let head := img.take 64 ++ ents
  head ++ (img.drop head.length).take (imgDataOff rd - head.length) ++ data

/-! The tile shaper (R286, R287). -/

def selInner (v : Nat) : Nat := bits v 23 22
def selIlv (v : Nat) : Nat := 2 ^ bits v 21 20
def selBr (v : Nat) : Nat := 2 ^ bits v 15 12
def selBc (v : Nat) : Nat := 2 ^ bits v 11 8
/-- Output rows are padded to this many bytes. -/
def selAlign (v : Nat) : Nat := match bits v 3 2 with
  | 0 => 1
  | 1 => 64
  | 2 => 128
  | _ => 256

/-- A layout selector is valid (R286). -/
def selOk (v : Nat) : Bool :=
  v == 0 || (bits v 63 24 == 0 && bits v 18 16 == 0 && bits v 7 4 == 0 && bits v 1 0 == 0 && decide (selInner v ≤ 1) &&
    bits v 21 20 != 3 && (selInner v == 0 || bits v 21 20 == 0) && decide (4 ≤ bits v 15 12 ∧ bits v 15 12 ≤ 8) &&
    decide (4 ≤ bits v 11 8 ∧ bits v 11 8 ≤ 8))

/-- Blocks of a tile down and across. -/
def blocksDown (x : TileEnt) (v : Nat) : Nat := ceilDiv x.rows (selBr v)
def blocksAcross (x : TileEnt) (v : Nat) : Nat := ceilDiv x.cols (selBc v)

/-- The shaped size (R287). -/
def shapedSize (x : TileEnt) (v : Nat) : Nat :=
  let e := 2 ^ x.esize
  let up (n : Nat) : Nat := ceilDiv n (selAlign v) * selAlign v
  if v = 0 then x.raw
  else if selInner v = 0 then blocksDown x v * blocksAcross x v * (selBr v / selIlv v) * up (selIlv v * selBc v * e)
  else blocksDown x v * blocksAcross x v * selBc v * up (selBr v * e)

/-- The shaped bytes of a tile (R287). -/
def shape (x : TileEnt) (v : Nat) (raw : Array Byte) : List Byte :=
  let e := 2 ^ x.esize
  let elem (r c : Nat) : List Byte :=
    (List.range e).map fun i => if r < x.rows ∧ c < x.cols then raw.getD ((r * x.cols + c) * e + i) 0 else 0
  let pad (row : List Byte) : List Byte := row ++ List.replicate (ceilDiv row.length (selAlign v) * selAlign v - row.length) 0
  let block (bi bj : Nat) : List Byte :=
    if selInner v = 0 then
      (List.range (selBr v / selIlv v)).flatMap fun i => pad ((List.range (selBc v)).flatMap fun c =>
        (List.range (selIlv v)).flatMap fun k => elem (bi * selBr v + i * selIlv v + k) (bj * selBc v + c))
    else (List.range (selBc v)).flatMap fun c => pad ((List.range (selBr v)).flatMap fun r =>
      elem (bi * selBr v + r) (bj * selBc v + c))
  if v = 0 then raw.toList
  else if bit v 19 then
    (List.range (blocksAcross x v)).flatMap fun bj => (List.range (blocksDown x v)).flatMap fun bi => block bi bj
  else (List.range (blocksDown x v)).flatMap fun bi => (List.range (blocksAcross x v)).flatMap fun bj => block bi bj

end Sys2Proof.Machine
end

