-- ==== Sys2Proof/Machine/Streams.lean ====
section
/-! DEFINITION. Streams (R266 to R298): loading, the window and its controller, tile reads and their wait list, unreadable tiles; the
heal frames of the twin link, which serve tiles and durable lines (R41, R291). -/

namespace Sys2Proof.Machine

/-- The window states (R283). -/
def SS.free : Nat := 0
def SS.empty : Nat := 1
def SS.idle : Nat := 2
def SS.filling : Nat := 3
def SS.streaming : Nat := 4
def SS.ended : Nat := 5

/-- A stream that holds nothing. -/
def Stream.empty : Stream := ⟨[], none, 0, 0, 0, [], 0, [], [], [], [], [], false⟩

/-- What the checks of R284 make of a read: a code, a wait, or the tile. -/
inductive TileRes where
  | code (c : Nat)
  | wait
  | tile (size : Nat) (bytes : List Byte)

/-- The fields of a tile part: selector, segment, tile, LENGTH. -/
def tileSel (p : Part) : Nat := State.invField p 0
def tileSeg (p : Part) : Nat := State.invField p 1
def tileNo (p : Part) : Nat := State.invField p 2
def tileLen (p : Part) : Nat := State.invField p 3

namespace State

/-- Cascade hops between two devices of the torus (R386). -/
def hops (s : State) (a b : Nat) : Nat :=
  let d (n x y : Nat) : Nat :=
    let k := if x ≤ y then y - x else x - y
    Nat.min k (n - k)
  d (s.f F.STK_CTL_SHAPE_W) (a % 8) (b % 8) + d (s.f F.STK_CTL_SHAPE_H) (a / 8) (b / 8)

/-! The record (R266, R272, R273, R277). -/

def strN (s : State) (r : Nat) : Nat := s.f F.STR_CTL_WIN_M1 r + 1
def strSegs (s : State) (r : Nat) : Nat := s.f F.STR_SHAPE_SEG_COUNT r
def strWrap (s : State) (r : Nat) : Bool := s.flag F.STR_CTL_WRAP r
def strRegion (s : State) (r : Nat) : Nat := s.f F.STR_CTL_REGION r
def strGran (s : State) (r : Nat) : Nat := s.f F.STR_SHAPE_SLOT_GRAN r
def strState (s : State) (r : Nat) : Nat := s.f F.STR_STATUS_STATE r
def strRunning (s : State) (r : Nat) : Bool := s.strState r == SS.filling || s.strState r == SS.streaming
/-- Devices that hold a stream, in the order of R282; whether this one does. -/
def strHolders (s : State) (r : Nat) : List Nat :=
  if s.flag F.STR_CTL_SVALID r then (s.regionPairs (s.strRegion r)).flatMap fun p => [2 * p, 2 * p + 1] else []
def strHolds (s : State) (r : Nat) : Bool := (s.strHolders r).contains s.index
def stream (s : State) (r : Nat) : Stream := s.streams.get Stream.empty r
def onStream (s : State) (r : Nat) (f : Stream → Stream) : State := { s with streams := s.streams.put r (f (s.stream r)) }
/-- The controller of a stream (R282). -/
def strController (s : State) (r : Nat) : Option Nat :=
  (s.strHolders r).find? fun d => if d = s.index then s.inService d && !s.saving else s.inService d
def controls (s : State) (r : Nat) : Bool := s.flag F.STR_STATUS_CONTROLLER r
/-- Every stream record that is valid. -/
def strAll (s : State) : List Nat := (List.range 256).filter fun r => s.flag F.STR_CTL_SVALID r

/-- The segment of a position, whether the stream has that position, and the first position at or after FIRST of a segment. -/
def segAt (s : State) (r pos : Nat) : Nat := if s.strWrap r then pos % s.strSegs r else pos
def posOk (s : State) (r pos : Nat) : Bool := s.strWrap r || decide (pos < s.strSegs r)
def posOf (s : State) (r seg : Nat) : Option Nat :=
  let first := (s.stream r).first
  if s.strWrap r then some (first + (seg + s.strSegs r - first % s.strSegs r) % s.strSegs r)
  else if seg < first then none else some seg

/-- The tiles of a segment that this pair holds (R272). -/
def strMine (s : State) (r seg tile : Nat) : Bool :=
  s.f F.STR_CTL_PLACE r != 1 || s.regionPair (s.strRegion r) ((seg + tile) % s.regionK (s.strRegion r)) == s.pair
/-- The device offset of a slot; the reader of a slot's header. -/
def slotBase (s : State) (r j : Nat) : Nat := (s.regionBase (s.strRegion r) + j * s.strGran r) * granBytes
def slotRd (s : State) (r j : Nat) : Nat → Nat := fun a => ofBytes (s.readDram (s.slotBase r j + a) 8)
/-- The slot that holds a segment in the window, with its number. -/
def slotOfSeg (s : State) (r seg : Nat) : Option (Nat × Slot) :=
  match s.posOf r seg with
  | some p => match (s.stream r).slots.at? (p % s.strN r) with
    | some w => if w.pos = p then some (p % s.strN r, w) else none
    | none => none
  | none => none
def setSlot (s : State) (r j : Nat) (w : Slot) : State := s.onStream r fun x => { x with slots := x.slots.put j w }

/-- The poison list (R292). -/
def listed (s : State) (r seg tile : Nat) : Bool :=
  (List.range 256).any fun j =>
    s.flag F.STR_POISON_PVALID r j && s.f F.STR_POISON_SEG r j == seg && s.f F.STR_POISON_TILE r j == tile
def delist (s : State) (r seg : Nat) : State :=
  (List.range 256).foldl (fun t j => if t.flag F.STR_POISON_PVALID r j && t.f F.STR_POISON_SEG r j == seg then
    ((t.setF F.STR_POISON_PVALID 0 r j).setF F.STR_POISON_SEG 0 r j).setF F.STR_POISON_TILE 0 r j else t) s

/-- Change the window state; the changes for which R283 names it post event 0x0701. -/
def strGo (s : State) (r st : Nat) : State := s.setF F.STR_STATUS_STATE st r
def strGoEv (s : State) (r st : Nat) : State := (s.strGo r st).event 0x0701 [r, st]

/-! Waiting reads (R289, R290). -/

def isWaiter (s : State) (r : Nat) (p : Part) : Bool := p.kind == .tile && p.st == .heldRead && p.region == s.strRegion r
def waiters (s : State) (r : Nat) : SMap Part := s.parts.filter fun e => s.isWaiter r e.2
def waitersOf (s : State) (r seg tile : Nat) : SMap Part :=
  (s.waiters r).filter fun e => tileSeg e.2 == seg && tileNo e.2 == tile
/-- A TILE_LATE outcome (R289, R297, R298). -/
def lateOut (s : State) (r : Nat) : State := (s.bump F.STR_STATS_LATE r).reachEvent 0x0702 r [r]
/-- Buffers of the tile staging pool that the shaper decodes a tile into, one for each 64 KiB (R294). -/
def tileBufs (s : State) (r : Nat) (p : Part) : Nat := match s.slotOfSeg r (tileSeg p) with
  | some (j, _) => ceilDiv (tileEnt (s.slotRd r j) (tileNo p)).raw 65536
  | none => 0
def failWaiters (s : State) (ws : SMap Part) (code : Nat) : State :=
  ws.foldl (fun (t : State) (e : Nat × Part) => t.partDone e.1 code) s

/-- Checks 2 to 9 of R284. A read that has waited is not checked anew for its position. -/
def tileCheck (s : State) (r : Nat) (p : Part) (again : Bool) : TileRes :=
  let seg := tileSeg p
  let tile := tileNo p
  if !s.strRunning r ∨ (!again ∧ (s.stream r).catchUp) then .code Code.unavailable
  else if p.lim = 0 ∧ selOk (tileSel p) = false then .code Code.invalid
  else if !again ∧ (s.strSegs r ≤ seg ∨ (s.posOf r seg).isNone) then .code Code.invalid
  else if s.listed r seg tile then .code Code.media
  else match s.slotOfSeg r seg with
    | none => .wait
    | some (j, w) =>
      if w.bad.contains tile then .code Code.media
      else if !w.hdr then .wait
      else
        let x := tileEnt (s.slotRd r j) tile
        let size := shapedSize x (tileSel p)
        if imgTiles (s.slotRd r j) ≤ tile then .code Code.invalid
        else if p.lim = 0 ∧ 2 ^ 24 < size then .code Code.invalid
        else if p.lim = 0 ∧ tileLen p < size then .code Code.length
        else if !w.tiles.contains tile then .wait
        else if p.lim ≠ 0 then .tile 0 []
        else match frondTile (x.raw / 65536 + 2) x.raw (s.readDram (s.slotBase r j + x.off) x.slen) with
          | some raw => .tile size (shape x (tileSel p) raw.toArray)
          | none => .wait

/-- A read joins the wait list, or is late at once: STALL_US 0, or 16,384 reads waiting. -/
def joinWait (s : State) (r pid : Nat) : State :=
  if s.f F.STR_TIMING_STALL_US r = 0 then (s.partDone pid Code.tileLate).lateOut r
  else if 16384 ≤ (s.parts.filter fun e => e.2.kind == .tile && e.2.st == .heldRead).length then
    ((s.partDone pid Code.tileLate).lateOut r).reachEvent 0x0708 r [r]
  else
    let s := s.onPart pid fun p => { p with st := .heldRead, expect := some s.time }
    s.setF F.STR_ERR_WAIT_PEAK (Nat.max (s.f F.STR_ERR_WAIT_PEAK r) (Nat.min 65535 (s.waiters r).length)) r

/-- Take a tile part through its checks at the serving device. -/
def serveTile (s : State) (pid : Nat) (p : Part) (again : Bool) : State :=
  match s.streamOf p.region with
  | none => s.partDone pid Code.invalid
  | some r => match s.tileCheck r p again with
    | .code c => s.partDone pid c
    | .tile n bs =>
      let done (s : State) : State := (s.histAdd 11 (if again then s.time - p.born else 0)).partDone pid 0 (BitVec.ofNat 64 n) n bs
      -- SWAIT shapes nothing; a read that waits for pool 4 is no longer under the stall limit (R294)
      let k := s.tileBufs r p
      if p.lim ≠ 0 then done s
      else if s.poolRoom 4 k then (done (s.poolTake 4 k)).poolGive 4 k
      else (s.poolRetry pid p 4).onPart pid fun q => { q with st := .waiting }
    | .wait => if again then s else s.joinWait r pid

/-- Serve again what waits on a stream, in the order of arrival. -/
def serveWaiters (s : State) (r : Nat) : State :=
  (s.waiters r).foldl (fun (t : State) (e : Nat × Part) => t.serveTile e.1 e.2 true) s

/-- Check 5 of R22, then the checks of R284. -/
def admitTile (s : State) (pid : Nat) (p : Part) : State :=
  if s.admissionHeld then s
  else if !boundPart p ∧ (!s.regionValid p.region ∨ s.f F.REG_STATE_REVOKE_STATE p.region ≠ 0) then s.partDone pid Code.revoked
  else s.serveTile pid p false

/-- PART_ADMISSION: admission of any part (R22, R128, R284). -/
def admitPart (s : State) (pid : Nat) : State :=
  match s.parts.at? pid with
  | none => s
  | some p =>
    if p.kind ≠ .tile then s.admitAny pid
    else if p.dev = s.index ∧ p.st = .waiting ∧ p.onHold = false then s.admitTile pid p else s

/-- The serving device of a tile read (R285, R296). -/
def tileServer (s : State) (r seg tile : Nat) : Nat :=
  let able (d : Nat) : Bool := s.inService d && (d != s.index || (!(s.stream r).catchUp && !s.saving))
  let near (l : List Nat) : Nat :=
    ((l.filter able).foldl (fun (b : Option Nat) d => match b with
      | none => some d
      | some c => if s.hops s.index d < s.hops s.index c then some d else some c) none).getD s.index
  if s.f F.STR_CTL_PLACE r = 1 then
    let p := s.regionPair (s.strRegion r) ((seg + tile) % s.regionK (s.strRegion r))
    near [2 * p, 2 * p + 1]
  else if (s.strHolders r).contains s.index ∧ able s.index = true then s.index
  else near (lineUnion (s.strHolders r))

/-- A tile part: its data are the selector, the segment, the tile and LENGTH; `lim` 1 asks for residency only. -/
def tilePart (s : State) (org : Origin) (region sel seg tile len lim : Nat) : Part :=
  let dev := match s.streamOf region with
    | some r => s.tileServer r seg tile
    | none => s.index
  { newPart org .tile dev region 0 0 ([sel, seg, tile, len].flatMap (toBytes 8)) [] with lim := lim }

/-! The window (R277 to R283). -/

/-- RESIDENT counts the READY slots. -/
def strSync (s : State) (r : Nat) : State :=
  (s.setF F.STR_STATUS_RESIDENT ((s.stream r).slots.vals.filter (·.ready)).length r).setF F.STR_STATUS_FIRST_SEG
    (if s.strSegs r = 0 then 0 else s.segAt r (s.stream r).first) r

/-- Once no position below N is still to fill, a FILLING stream is STREAMING (R283). -/
def strFilled (s : State) (r : Nat) : State :=
  if s.strState r = SS.filling ∧ (s.stream r).filling.isEmpty = true then s.strGoEv r SS.streaming else s

/-- A slot is READY once every tile of the pair's share is resident or poisoned (R278). -/
def slotCheck (s : State) (r j : Nat) : State :=
  match (s.stream r).slots.at? j with
  | none => s
  | some w =>
    let seg := s.segAt r w.pos
    let all := w.hdr && (List.range (imgTiles (s.slotRd r j))).all fun t =>
      !s.strMine r seg t || w.tiles.contains t || w.bad.contains t || s.listed r seg t
    let s := s.setSlot r j { w with ready := all }
    let s := if all then s.onStream r fun x => { x with filling := x.filling.filter (· != w.pos) } else s
    let s := (s.strSync r).strFilled r
    if (s.stream r).catchUp ∧ (s.stream r).slots.vals.all (·.ready) = true then s.onStream r fun x => { x with catchUp := false } else s

/-- Assign a position to its slot, which holds nothing yet. -/
def assign (s : State) (r pos : Nat) : State :=
  s.setSlot r (pos % s.strN r) ⟨pos, false, [], false, [], []⟩

/-- Position FIRST leaves the window and the next one enters (R280, R277). -/
def advance (s : State) (r : Nat) : State :=
  let x := s.stream r
  let n := s.strN r
  let old := x.first
  let e := old + n
  let s := s.onStream r fun x => { x with
    first := old + 1, counts := x.counts.del old, filling := x.filling.filter (· != old) }
  let s := if !s.posOk r e then s.onStream r fun x => { x with slots := x.slots.del (old % n) }
    else if n = s.strSegs r then match x.slots.at? (old % n) with
      -- a tile that only the position held poisoned is fetched anew (R292)
      | some w => s.setSlot r (old % n) { w with pos := e, bad := [], ready := w.ready && w.bad.isEmpty }
      | none => s.assign r e
    else s.assign r e
  let s := if s.posOk r e ∧ e % s.strSegs r = 0 then
      (s.onStream r fun x => { x with pass := x.pass + 1, passStart := s.time, sched := 0 }).bump F.STR_STATUS_PASSES r
    else s
  let s := (s.strSync r).strFilled r
  if s.strWrap r = false ∧ s.strSegs r ≤ old + 1 then (s.failWaiters (s.waiters r) Code.unavailable).strGoEv r SS.ended else s

/-- Advance until FIRST is `first`. -/
def advanceTo (s : State) (r first : Nat) : State :=
  (List.range (first - (s.stream r).first)).foldl (fun (t : State) _ => if t.strRunning r then t.advance r else t) s

/-- The controller's advance, told to every device (R280). -/
def advanceTell (s : State) (r : Nat) : State :=
  let s := s.advance r
  s.notice 255 0x08 [r, (s.stream r).first]

/-- While the segment at FIRST has its QUORUM of releases, advance (R279, R280). -/
def slide : Nat → State → Nat → State
  | 0, s, _ => s
  | fuel + 1, s, r =>
    let x := s.stream r
    if s.strRunning r && decide (s.f F.STR_RELEASE_QUORUM r ≤ x.counts.get 0 x.first ∧ 1 ≤ x.counts.get 0 x.first) then
      slide fuel (s.advanceTell r) r
    else s

/-- The queue and the tag under which a program's release goes: those of the command that started it; of a forwarded one, its part. -/
def relKey : Start → Nat × Nat
  | .invoke q tag => (q, tag)
  | .fiddle q _ tag => (q, tag)
  | .remote _ id => (id, 65536)
  | .control _ => (0, 0)
/-- The completion of a release at its entry device: the command of its queue and tag, or the SREL of the program that they
started. -/
def releaseDone (s : State) (q tag : Nat) (ok : Bool) : State :=
  let s := match s.cmd? q tag with
    | some c => if c.op = Op.segmentRelease ∧ c.started then s.setDone q tag ⟨if ok then 0 else Code.invalid, 0, 0, 0, 0⟩ else s
    | none => s
  let mine (h : Thread) : Bool := h.relWait.isSome && relKey h.start == (q, tag)
  let go (h : Thread) : Thread :=
    if mine h then { h with relWait := none, ready := some (if ok then 0 else negCode Code.invalid) } else h
  { s with eng := { s.eng with threads := s.eng.threads.map fun (e : Nat × Thread) => (e.1, go e.2) } }

/-- Tell the entry device of a release (R279): `n` counted, 0 refused. -/
def releaseTell (s : State) (r seg dev q tag n : Nat) : State :=
  if dev = s.index then s.releaseDone q tag (n != 0) else s.notice dev 0x09 [r, seg, dev, q, tag, n]

/-- The controller counts a release (R279). -/
def countRelease (s : State) (r seg dev q tag : Nat) : State :=
  let pos : Option Nat := match s.posOf r seg with
    | some p => if p < (s.stream r).first + s.strN r ∧ s.posOk r p then some p else none
    | none => none
  if (s.stream r).inherited.contains (dev, q, tag) then
    (s.onStream r fun x => { x with inherited := x.inherited.filter (· != (dev, q, tag)) }).releaseTell r seg dev q tag
      (Nat.max 1 (match pos with
        | some p => (s.stream r).counts.get 0 p
        | none => 0))
  else match pos with
    | none => s.releaseTell r seg dev q tag 0
    | some p =>
      if !s.strRunning r ∨ s.strSegs r ≤ seg then s.releaseTell r seg dev q tag 0
      else
        let n := (s.stream r).counts.get 0 p + 1
        let s := s.onStream r fun x => { x with
          counts := x.counts.put p n, recent := ((dev, q, tag) :: x.recent).take 4096 }
        let s := ((s.strHolders r).filter fun d => d != s.index && s.inService d).foldl (fun (t : State) d =>
          t.notice d 0x09 [r, seg, dev, q, tag, n]) s
        let s := if dev = s.index ∨ !(s.strHolders r).contains dev then s.releaseTell r seg dev q tag n else s
        slide (s.strN r + 1) s r

/-- Send a release to the controller, which may be this device (R279, R282). -/
def sendRelease (s : State) (r seg q tag : Nat) : State :=
  if s.controls r then s.countRelease r seg s.index q tag
  else match s.strController r with
    | some d => s.notice d 0x09 [r, seg, s.index, q, tag]
    | none => s

/-- A release count arrives (R279): none is a release for the controller; a number is what the controller has counted. -/
def releaseIn (s : State) (r seg dev q tag : Nat) (count : Option Nat) : State :=
  match count with
  | none => if s.controls r then s.countRelease r seg dev q tag else s
  | some n =>
    let s := match s.posOf r seg with
      | some p => if n ≠ 0 ∧ p < (s.stream r).first + s.strN r ∧ s.strHolds r ∧ s.strRunning r then s.onStream r fun x => { x with
          counts := x.counts.put p n, recent := ((dev, q, tag) :: x.recent).take 4096 } else s
      | none => s
    if dev = s.index then s.releaseDone q tag (n != 0) else s

/-- A forced release of the segment at FIRST (R281). -/
def force (s : State) (r : Nat) : State := ((s.advanceTell r).bump F.STR_STATS_FORCED r).reachEvent 0x0705 r [r]
def forceTo : Nat → State → Nat → Nat → State
  | 0, s, _, _ => s
  | fuel + 1, s, r, pos =>
    if s.strRunning r && decide ((s.stream r).first + s.strN r ≤ pos) then forceTo fuel (s.force r) r pos else s

/-- A schedule instant (R281): entry e of the current pass, or, past the last, the first position of the next pass. Every holding
device keeps the next entry; the controller forces (R282). -/
def schedule (s : State) (r : Nat) : State :=
  let x := s.stream r
  if !s.strHolds r ∨ !s.strRunning r ∨ !s.flag F.STR_RELEASE_SCHED_EN r then s
  else
    let len := s.f F.STR_RELEASE_SCHED_LEN r
    let target : Option Nat :=
      if x.sched < len then some (x.pass * s.strSegs r + s.f F.STR_SCHED_SEG r x.sched)
      else if x.sched = len ∧ s.f F.STR_RELEASE_PERIOD_US r ≠ 0 ∧ s.strWrap r then some ((x.pass + 1) * s.strSegs r) else none
    match target with
    | none => s
    | some pos =>
      let s := s.onStream r fun y => { y with sched := y.sched + 1 }
      if s.controls r ∧ s.posOk r pos = true then forceTo (pos + 1 - (s.stream r).first) s r pos else s

/-- Releases of this device that have not completed go to the new controller (R282). -/
def resendReleases (s : State) (r : Nat) : State :=
  let mine : List (Nat × Nat × Nat) := s.queues.flatMap fun e => e.2.cmds.filterMap fun c =>
    if c.op = Op.segmentRelease ∧ c.started ∧ c.outcome.isNone ∧ (c.tgt.map (·.region)) = some (s.strRegion r) then
      some (bits (c.q 3) 31 0, e.1, c.tag) else none
  let programs : List (Nat × Nat × Nat) := s.eng.threads.filterMap fun e => match e.2.relWait with
    | some (g, seg) => if g = r then some (seg, relKey e.2.start) else none
    | none => none
  (mine ++ programs).foldl (fun (t : State) (e : Nat × Nat × Nat) => t.sendRelease r e.1 e.2.1 e.2.2) s

/-- OPEN commits 1 (R277, R283). -/
def openStream (s : State) (r : Nat) : State :=
  if s.strState r ≠ SS.idle then s
  else
    let ps := (List.range (s.strN r)).filter (s.posOk r)
    let s := s.onStream r fun x => { x with
      first := 0, pass := 0, passStart := s.time, counts := [], sched := 0, slots := [], recent := [], inherited := [],
      filling := ps, catchUp := false }
    let s := ps.foldl (fun (t : State) p => t.assign r p) s
    ((s.strGo r SS.filling).setF F.STR_STATUS_PASSES 1 r).strSync r

/-- A device that rejoins, or returns from a reset, finds its streams as its flash has them (R295), and fetches the windows that are
open anew (R296). -/
def streamsFound (s : State) : State :=
  (s.strAll.filter fun r => s.strState r == SS.free).foldl (fun (t : State) r =>
    ((t.strGo r (if (t.stream r).loaded.length == t.strSegs r then SS.idle else SS.empty)).setF F.STR_STATUS_CONTROLLER
      (b2n (t.strController r == some t.index)) r).setF F.STR_LOADSTAT_SEGS_LOADED (t.stream r).loaded.length r) s
def windowsAnew (s : State) : State :=
  (s.strAll.filter fun r => s.flag F.STR_CTL_OPEN r && s.strState r == SS.idle).foldl (fun (t : State) r =>
    (t.openStream r).onStream r fun x => { x with catchUp := true }) s

/-- A device that is no longer the first in service is not the controller (R282). -/
def streamsCtlSync (s : State) : State :=
  (s.strAll.filter fun r => s.controls r && s.strController r != some s.index).foldl (fun (t : State) r =>
    t.setF F.STR_STATUS_CONTROLLER 0 r) s

/-- OPEN commits 0 (R283): waiting reads end, no read is running, and every slot is FREE. -/
def closeStream (s : State) (r : Nat) : State :=
  let s := if s.strRunning r then s.failWaiters (s.waiters r) Code.unavailable else s
  if s.strRunning r ∨ s.strState r = SS.ended then
    ((s.onStream r fun x => { x with slots := [], filling := [], counts := [], asked := [] }).strSync r).strGo r SS.idle
  else s

/-- SVALID commits 1 or 0 (R283). -/
def defineStream (s : State) (r : Nat) : State :=
  let s := (List.range 256).foldl (fun (t : State) j => t.setWord (F.STR_POISON_PVALID.key r j) 0) s
  let s := [6, 7, 8, 9].foldl (fun (t : State) w => t.setWord (wkey 11 r w) 0) s
  let s := { s with streams := s.streams.put r Stream.empty }
  (s.strGo r SS.empty).setF F.STR_STATUS_CONTROLLER (b2n (s.strController r == some s.index)) r
def dropStream (s : State) (r : Nat) : State :=
  (({ s with streams := s.streams.del r }.strGo r SS.free).setF F.STR_STATUS_CONTROLLER 0 r).setF F.STR_LOADSTAT_SEGS_LOADED 0 r
    |>.homeSync

/-! Loading (R274 to R276). -/

def allLoaded (s : State) (r : Nat) : Bool := (s.stream r).loaded.length == s.strSegs r
def loadedSync (s : State) (r : Nat) : State :=
  (s.setF F.STR_LOADSTAT_SEGS_LOADED (s.stream r).loaded.length r).homeSync

/-- The flash copy of a segment is discarded; a slot that holds it counts as not resident (R274, R276). -/
def discardSeg (s : State) (r seg : Nat) : State :=
  let s := (s.onStream r fun x => { x with loaded := x.loaded.del seg }).loadedSync r
  match s.slotOfSeg r seg with
  | some (_, w) => (s.assign r w.pos).strSync r
  | none => s

/-- LOAD commits (R274). -/
def loadCommit (s : State) (r : Nat) : State :=
  if !s.strHolds r then s
  else
    let s := (s.onStream r fun x => { x with load := some (0, s.f F.STR_LOAD_SRC_SRC_GRAN r) }).setF F.STR_STATUS_LOAD_BUSY 1 r
    let s := if s.strState r = SS.idle then s.strGo r SS.empty else s
    s.discardSeg r (s.f F.STR_LOAD_SEG_FIRST r)

/-- One source granule as the ordinary read path gives it: from this device, or as `away` reports it; none: not readable. -/
def srcGran (s : State) (away : List (Nat × Option (List Byte))) (region g : Nat) : Option (List Byte) :=
  let off := g * granBytes
  if s.regionLen region ≤ g then none
  else if s.readDev region off = s.index then
    let (_, d) := s.place region off
    if s.admit6 region off false = .pass ∧ (s.stopLine d granBytes false).isNone = true then some (s.readDram d granBytes) else none
  else match away.find? fun e => e.1 == g with
    | some e => e.2
    | none => none

/-- The source image that begins at a granule; its length is its header's. -/
def srcImage (s : State) (away : List (Nat × Option (List Byte))) (region g : Nat) : Option (List Byte) :=
  match s.srcGran away region g with
  | none => none
  | some first =>
    let n := ceilDiv (rdList first 8) granBytes
    let rest := (List.range (n - 1)).map fun i => s.srcGran away region (g + 1 + i)
    if rest.all Option.isSome then some ((first ++ (rest.filterMap id).flatten).take (rdList first 8)) else none

/-- A load ends: LOAD_BUSY reads 0. -/
def loadEnd (s : State) (r : Nat) : State := (s.onStream r fun x => { x with load := none }).setF F.STR_STATUS_LOAD_BUSY 0 r

/-- A load stops at a failing image (R275): it and the later ones are not loaded. -/
def loadFail (s : State) (r i cause : Nat) : State :=
  let first := s.f F.STR_LOAD_SEG_FIRST r
  let s := (List.range (s.f F.STR_LOAD_SEG_N r - i)).foldl (fun (t : State) k => t.discardSeg r (first + i + k)) s
  let s := ((s.setF F.STR_LOADSTAT_LOAD_CAUSE cause r).setF F.STR_LOADSTAT_LOAD_ERR_SEG (first + i) r).loadEnd r
  s.event 0x0707 [r, first + i, cause]

/-- The next image of the load that runs is done (R274, R275). -/
def loadImage (s : State) (r : Nat) (away : List (Nat × Option (List Byte))) : State :=
  match (s.stream r).load with
  | none => s
  | some (i, g) =>
    let first := s.f F.STR_LOAD_SEG_FIRST r
    let seg := first + i
    match s.srcImage away (s.f F.STR_LOAD_SRC_REGION r) g with
    | none => s.loadFail r i 1
    | some img =>
      if !imgOk (rdList img) seg ∨ img.length ≠ rdList img 8 then s.loadFail r i 2
      else if !blocksOk img then s.loadFail r i 3
      else
        let mine := pairImage img (s.strMine r seg)
        if s.strGran r * granBytes < mine.length then s.loadFail r i 4
        else if s.f F.FL_CAP_HOME_GIB * 2 ^ 30 < s.homeBytes + mine.length then s.loadFail r i 5
        else
          let s := ((s.onStream r fun x => { x with loaded := x.loaded.put seg mine }).delist r seg).loadedSync r
          if i + 1 = s.f F.STR_LOAD_SEG_N r then
            let s := (s.loadEnd r).event 0x0706 [r, first, s.f F.STR_LOAD_SEG_N r]
            if s.strState r = SS.empty ∧ s.allLoaded r = true then s.strGoEv r SS.idle else s
          else
            (s.onStream r fun x => { x with load := some (i + 1, g + ceilDiv img.length granBytes) }).discardSeg r (seg + 1)

/-! Fetching and unreadable tiles (R278, R289, R291, R292). -/

/-- The next tile of a slot in order: not resident, not poisoned, not in recovery. -/
def nextTile (s : State) (r : Nat) (w : Slot) (img : List Byte) : Option Nat :=
  let seg := s.segAt r w.pos
  (List.range (imgTiles (rdList img))).find? fun t =>
    s.strMine r seg t && !w.tiles.contains t && !w.bad.contains t && !s.listed r seg t && !(w.recov.any fun e => e.1 == t)

/-- A tile may be fetched now: it is the next of the earliest position that is not READY, or a read waits for it. -/
def fetchTurn (s : State) (r seg tile : Nat) : Bool :=
  !(s.waitersOf r seg tile).isEmpty ||
    match ((s.stream r).slots.filter fun e => !e.2.ready).foldl (fun (b : Option (Nat × Slot)) e => match b with
      | none => some e
      | some c => if e.2.pos < c.2.pos then some e else some c) none with
    | some (_, w) => s.segAt r w.pos == seg && match (s.stream r).loaded.at? seg with
      | some img => s.nextTile r w img == some tile
      | none => false
    | none => false

/-- Put bytes of a slot into DRAM; no cache keeps what the lines held (R238). -/
def putSlot (s : State) (a : Nat) (bs : List Byte) : State :=
  (linesOf a bs.length).foldl clearPoison ((s.cacheStale (a / 64) ((a + bs.length + 63) / 64)).setDram a bs)

/-- The twin's requests for lines of a slot that can be answered now are (R291). -/
def answerAsked (s : State) (r : Nat) : State :=
  let go (t : State) (l : Nat) : State :=
    let found := (t.stream r).slots.find? fun e => decide (t.slotBase r e.1 / 64 ≤ l ∧ l < t.slotBase r (e.1 + 1) / 64)
    match found with
    | none => t
    | some (j, w) =>
      let seg := t.segAt r w.pos
      let off := 64 * l - t.slotBase r j
      let tile := (List.range (imgTiles (t.slotRd r j))).find? fun k =>
        let x := tileEnt (t.slotRd r j) k
        t.strMine r seg k && decide (x.off ≤ off ∧ off < x.off + x.slen)
      match tile with
      | none => t
      | some k =>
        let drop (t : State) : State := t.onStream r fun x => { x with asked := x.asked.filter (· != l) }
        if w.tiles.contains k then (drop t).sendTwin 0x09 [64 * l] (t.readDram (64 * l) 64)
        else if w.bad.contains k || t.listed r seg k || w.recov.any (fun e => e.1 == k) then (drop t).sendTwin 0x09 [64 * l] []
        else t
  ((s.stream r).asked).foldl go s

/-- A tile's stored bytes are in its slot (R278): the slot's header with them; reads are served. -/
def tileResident (s : State) (r seg tile : Nat) : State :=
  match s.slotOfSeg r seg with
  | none => s
  | some (j, w) =>
    let s := s.setSlot r j { w with
      hdr := true, tiles := tile :: w.tiles.filter (· != tile), recov := w.recov.filter fun e => e.1 != tile }
    ((s.serveWaiters r).slotCheck r j).answerAsked r

/-- TILE_FETCH_COMPLETE (R278): the bytes come from the segment's flash home. -/
def tileFetched (s : State) (r seg tile : Nat) : State :=
  match s.slotOfSeg r seg, (s.stream r).loaded.at? seg with
  | some (j, w), some img =>
    let x := tileEnt (rdList img) tile
    if s.saving ∨ !s.strRunning r ∨ !s.strMine r seg tile ∨ imgTiles (rdList img) ≤ tile ∨ w.tiles.contains tile ∨
        (w.recov.any fun e => e.1 == tile) ∨ s.listed r seg tile ∨ w.bad.contains tile ∨ !s.fetchTurn r seg tile then s
    else
      let s := if w.hdr then s else s.putSlot (s.slotBase r j) (img.take (imgDataOff (rdList img)))
      (s.putSlot (s.slotBase r j + x.off) ((img.drop x.off).take x.slen)).tileResident r seg tile
  | _, _ => s

/-- A tile's recovery has failed (R292). -/
def poisonTile (s : State) (r seg tile : Nat) : State :=
  match s.slotOfSeg r seg with
  | none => s
  | some (j, w) =>
    let ws := s.waitersOf r seg tile
    let s := s.setSlot r j { w with recov := w.recov.filter fun e => e.1 != tile }
    let s := match (List.range 256).find? fun i => !s.flag F.STR_POISON_PVALID r i with
      | some i => ((s.setF F.STR_POISON_PVALID 1 r i).setF F.STR_POISON_SEG seg r i).setF F.STR_POISON_TILE tile r i
      | none =>
        let s := (s.setF F.STR_STATUS_POISON_OVF 1 r).event 0x0709 [r, seg, tile]
        match (s.stream r).slots.at? j with
        | some w => s.setSlot r j { w with bad := tile :: w.bad }
        | none => s
    let s := ((s.failWaiters ws Code.media).bump F.STR_ERR_POISONED r).event 0x0704 [r, seg, tile, ws.length]
    (s.slotCheck r j).answerAsked r

/-- The twin can be asked for a tile: its link is up and it is in service (R292, R296). -/
def twinAble (s : State) : Bool :=
  (s.tstate == TS.mirrored || s.tstate == TS.suspect || s.tstate == TS.resyncSource || s.tstate == TS.resyncTarget) &&
    !s.twin.linkDown && s.inService s.twinIdx

/-- A recovery fails once the twin cannot be asked any more (R292, R296). -/
def recoveriesFail (s : State) : State :=
  if s.twinAble || s.saving then s
  else s.strAll.foldl (fun (t : State) r => (t.stream r).slots.foldl (fun (t : State) e =>
    e.2.recov.foldl (fun (t : State) x => t.poisonTile r (t.segAt r e.2.pos) x.1) t) t) s

/-- A flash read of a tile has failed (R291): HEAL_REQ for each line of its stored bytes. The header is read with its first tile. -/
def tileFlashFail (s : State) (r seg tile : Nat) : State :=
  match s.slotOfSeg r seg, (s.stream r).loaded.at? seg with
  | some (j, w), some img =>
    if s.saving ∨ !s.strRunning r ∨ !s.strMine r seg tile ∨ imgTiles (rdList img) ≤ tile ∨ w.tiles.contains tile ∨
        (w.recov.any fun e => e.1 == tile) ∨ s.listed r seg tile ∨ w.bad.contains tile then s
    else
      let x := tileEnt (rdList img) tile
      let ls := linesOf (s.slotBase r j + x.off) x.slen
      let s := if w.hdr then s else s.putSlot (s.slotBase r j) (img.take (imgDataOff (rdList img)))
      let s := s.setSlot r j { w with hdr := true, recov := (tile, s.time, ls) :: w.recov }
      if s.twinAble then (ls.foldl (fun (t : State) l => t.sendTwin 0x08 [64 * l]) s).serveWaiters r
      else s.poisonTile r seg tile
  | _, _ => s

/-- The stream, segment and tile whose recovery waits for a device line. -/
def recovering (s : State) (line : Nat) : Option (Nat × Nat × Nat) :=
  s.strAll.findSome? fun r => (s.stream r).slots.findSome? fun e =>
    (e.2.recov.find? fun x => x.2.2.contains line).map fun x => (r, s.segAt r e.2.pos, x.1)

/-- A line of a tile in recovery comes from the twin, or it says that it has none (R291, R292). -/
def tileHeal (s : State) (r seg tile line : Nat) (data : Option (List Byte)) : State :=
  match data, s.slotOfSeg r seg with
  | none, _ => s.poisonTile r seg tile
  | some bs, some (j, w) =>
    let s := s.putSlot (64 * line) bs
    let left := w.recov.map fun e => if e.1 = tile then (e.1, e.2.1, e.2.2.filter (· != line)) else e
    let s := s.setSlot r j { w with recov := left }
    if left.any fun e => e.1 == tile && e.2.2.isEmpty then
      let n := (s.waitersOf r seg tile).length
      ((s.tileResident r seg tile).bump F.STR_ERR_RECOVERED r).event 0x0703 [r, seg, tile, n]
    else s
  | some _, none => s

/-- A line of a window slot is uncorrectable in DRAM (R293): its tile is not resident. -/
def tileLost (s : State) (line : Nat) : State :=
  s.strAll.foldl (fun (t : State) r => match (t.stream r).slots.find? fun e =>
      decide (t.slotBase r e.1 / 64 ≤ line ∧ line < t.slotBase r (e.1 + 1) / 64) with
    | some (j, w) =>
      let off := 64 * line - t.slotBase r j
      let hit := w.tiles.filter fun k =>
        let x := tileEnt (t.slotRd r j) k
        decide (x.off / 64 * 64 ≤ off ∧ off < x.off + x.slen)
      if hit.isEmpty then t
      else ((t.setSlot r j { w with tiles := w.tiles.filter fun k => !hit.contains k, ready := false }).strSync r)
    | none => t) s

/-! Heal frames (R41, R291). -/

/-- HEAL_REQ of the twin: the line, or none if this copy is poisoned; a tile's line once the tile is resident here. -/
def healAsked (s : State) (l : LinkHdr) (line : Nat) : State :=
  let str : Option Nat := match s.regionOfGran (line / 1024) with
    | some g => if s.regionClass g = Cls.stream then s.streamOf g else none
    | none => none
  s.frameIn l 0 1 fun s =>
    if s.twin.noticeSent then s
    else match str with
      | some r => (s.onStream r fun x => { x with asked := x.asked ++ [line] }).answerAsked r
      | none =>
        let s := if s.isPoisoned line then s.healFromCache line else s
        s.sendTwin 0x09 [64 * line] (if s.isPoisoned line then [] else s.readDram (64 * line) 64)

/-- HEAL_DATA (R41, R291). An empty answer for a durable line leaves the request to its limit. -/
def healAnswer (s : State) (l : LinkHdr) (line : Nat) (data : Option (List Byte)) : State :=
  s.frameIn l 1 (1 + b2n data.isSome) fun s => match s.recovering line with
    | some (r, seg, tile) => s.tileHeal r seg tile line data
    | none =>
      if !s.dram.heals.contains line then s
      else match data with
        | some bs => s.healGood line bs
        | none => s

/-! Commands and instructions (R116, R205). -/

def doTileRead (s : State) (q tag : Nat) : State :=
  s.startCmd q tag Op.tileRead fun s _ c => match c.tgt with
    | none => s
    | some t =>
      let s := s.onCmd q tag fun c => { c with parts := [s.nextPart] }
      s.startPart (s.tilePart (.cmd q tag) t.region (c.q 4) (bits (c.q 3) 31 0) (bits (c.q 3) 63 32) c.length 0)

def doSegmentRelease (s : State) (q tag : Nat) : State :=
  s.startCmd q tag Op.segmentRelease fun s _ c => match c.tgt with
    | none => s
    | some t =>
      if !s.regionValid t.region ∨ s.f F.REG_STATE_REVOKE_STATE t.region ≠ 0 then s.setDone q tag ⟨Code.revoked, 0, 0, 0, 0⟩
      else match s.streamOf t.region with
      | none => s.setDone q tag ⟨Code.invalid, 0, 0, 0, 0⟩
      | some r => s.sendRelease r (bits (c.q 3) 31 0) q tag

/-- The tile part of a thread: made once, served here at once or sent away, then taken when it is done. -/
def tileRequest (s : State) (t : Nat) (h : Thread) (p : Part) (k : Part → State → State) : State :=
  let (pid, s) := match (s.partsOf t).find? fun e => e.2.kind == .tile with
    | some (pid, _) => (pid, s)
    | none =>
      let pid := s.nextPart
      let u := s.addPart p
      (pid, if p.dev = u.index then u.admitTile pid p else u.forwardPart pid p)
  match s.parts.at? pid with
  | some q => if q.st = .done then k q { s with parts := s.parts.del pid } else if h.timedOut then s.setThread t (h.adv 0) else s
  | none => s

/-- The stream region of a stream handle (R154, R205). -/
def streamHandle (x : Handle) : Nat ⊕ Nat := match x with
  | .stream _ r rd => if rd then .inl r else .inr 0x03
  | _ => .inr 0x04

/-- STILE (R205). -/
def stile (s : State) (t : Nat) (d : GReg) (hr : HReg) (a b : GReg) (hb : HReg) : State :=
  s.issue t (iword 0x80 d.toNat a.toNat b.toNat hr.toNat hb.toNat 0) fun h =>
    match streamHandle (h.rh hr), s.ea (h.rh hb) 0 0 .write 1 with
    | .inr c, .inr c' => s.fault t h (firstFault c c')
    | .inr c, .inl _ => s.fault t h c
    | .inl _, .inr c => s.fault t h c
    | .inl region, .inl _ => match h.rh hb with
      | .buffer x _ _ =>
        let v := (h.rg a).toNat
        let p := s.tilePart (.thread t) region (h.rg b).toNat (v % 2 ^ 32) (v / 2 ^ 32) (2 ^ 32) 0
        s.tileRequest t h p fun q s =>
          let off := (h.rg d).toNat
          if q.code ≠ 0 then s.setThread t ((h.wg d (negCode q.code)).adv 4)
          else if q.rdata.length ≤ off then s.setThread t ((h.wg d (negCode Code.bounds)).adv 4)
          else
            let bs := (q.rdata.drop off).take (s.bufSize x)
            (s.bufWrite x 0 bs).setThread t ((h.wg d (BitVec.ofNat 64 bs.length)).adv 4)
      | _ => s.fault t h 0x04

/-- SWAIT (R205). -/
def swait (s : State) (t : Nat) (d : GReg) (hr : HReg) (a : GReg) : State :=
  s.issue t (iword 0x82 d.toNat a.toNat 0 hr.toNat 0 0) fun h =>
    match streamHandle (h.rh hr) with
    | .inr c => s.fault t h c
    | .inl region =>
      let v := (h.rg a).toNat
      s.tileRequest t h (s.tilePart (.thread t) region 0 (v % 2 ^ 32) (v / 2 ^ 32) 0 1) fun q s =>
        s.setThread t ((h.wg d (if q.code = 0 then 0 else negCode q.code)).adv 4)

/-- SREL (R205): one release from the invoking queue; a control program has none. -/
def srel (s : State) (t : Nat) (d : GReg) (hr : HReg) (a : GReg) : State :=
  s.issue t (iword 0x81 d.toNat a.toNat 0 hr.toNat 0 0) fun h =>
    match streamHandle (h.rh hr) with
    | .inr c => s.fault t h c
    | .inl region =>
      match h.ready with
      | some v => s.setThread t (({ h with ready := none }.wg d v).adv 4)
      | none =>
        if h.relWait.isSome then (if h.timedOut then s.setThread t (h.adv 0) else s)
        else match h.start, s.streamOf region with
          | .control _, _ => s.setThread t ((h.wg d (negCode Code.invalid)).adv 4)
          | _, none => s.setThread t ((h.wg d (negCode Code.invalid)).adv 4)
          | st, some r =>
            let (q, tag) := relKey st
            let seg := (h.rg a).toNat % 2 ^ 32
            let s := (s.setThread t { h with relWait := some (r, seg) }).sendRelease r seg q tag
            match s.thread? t with
            | some h => match h.ready with
              | some v => s.setThread t (({ h with ready := none }.wg d v).adv 4)
              | none => s
            | none => s

/-- SSTAT (R205, R288). -/
def sstat (s : State) (t : Nat) (d : GReg) (hr : HReg) : State :=
  s.issue t (iword 0x83 d.toNat 0 0 hr.toNat 0 0) fun h =>
    match streamHandle (h.rh hr) with
    | .inr c => s.fault t h c
    | .inl region =>
      let v := match s.streamOf region with
        | some r => s.f F.STR_STATUS_FIRST_SEG r <<< 32 ||| s.f F.STR_STATUS_RESIDENT r <<< 16 ||| s.strState r
        | none => 0
      s.setThread t ((h.wg d (BitVec.ofNat 64 v)).adv 4)

end State

/-! The meanings. -/

/-- TWIN_OCTET_DOWN (R48): the link runs on at half rate; with no octet left it is down. -/
def execTwinOctetDown (octet : Nat) (s : State) : Host.Outcome State Fault Refusal :=
  .next (s.twinOctetLoss octet).recoveriesFail

/-- TWIN_FRAME_CRC_FAIL (R52). -/
def execTwinFrameCrcFail (f : FrameId) (s : State) : Host.Outcome State Fault Refusal := .next (s.frameFailed f.vc f.seq).recoveriesFail

/-- TWIN_LOSS_TIMEOUT (R59, R74). -/
def execTwinLossTimeout (s : State) (silenceNs : Nat := 8000) : Host.Outcome State Fault Refusal := .next (s.twinLoss silenceNs).recoveriesFail
/-- SAVE_NOTICE (R66). -/
def execSaveNotice (f : TwinFrame) (granted : Bool) (s : State) : Host.Outcome State Fault Refusal :=
  .next (s.frameIn f.link 3 2 fun s => s.noticeIn f.value granted).recoveriesFail
/-- PART_ADMISSION (R22, R128). -/
def execPartAdmission (pid : Nat) (s : State) : Host.Outcome State Fault Refusal := .next (s.admitPart pid)
def execTileRead (q tag : Nat) (s : State) : Host.Outcome State Fault Refusal := .next (s.doTileRead q tag)
def execSegmentRelease (q tag : Nat) (s : State) : Host.Outcome State Fault Refusal := .next (s.doSegmentRelease q tag)
def execStile (t : Nat) (d : GReg) (h : HReg) (a b : GReg) (hb : HReg) (s : State) : Host.Outcome State Fault Refusal :=
  .next (s.stile t d h a b hb)
def execSrel (t : Nat) (d : GReg) (h : HReg) (a : GReg) (s : State) : Host.Outcome State Fault Refusal := .next (s.srel t d h a)
def execSwait (t : Nat) (d : GReg) (h : HReg) (a : GReg) (s : State) : Host.Outcome State Fault Refusal := .next (s.swait t d h a)
def execSstat (t : Nat) (d : GReg) (h : HReg) (s : State) : Host.Outcome State Fault Refusal := .next (s.sstat t d h)

/-- TILE_FLASH_READ_FAIL (R291). -/
def execTileFlashReadFail (stream seg tile : Nat) (s : State) : Host.Outcome State Fault Refusal :=
  .next (s.tileFlashFail stream seg tile)
/-- TILE_RECOVERY_TIMEOUT (R292). -/
def execTileRecoveryTimeout (stream seg tile : Nat) (s : State) : Host.Outcome State Fault Refusal :=
  .next (match s.slotOfSeg stream seg with
    | some (_, w) => if w.recov.any fun e => e.1 == tile then s.poisonTile stream seg tile else s
    | none => s)
/-- TILE_STALL_TIMEOUT (R289): the waiting read is part `waiter`; a tile in recovery holds its readers to the recovery's end. -/
def execTileStallTimeout (stream waiter : Nat) (s : State) : Host.Outcome State Fault Refusal :=
  .next (match s.parts.at? waiter with
    | some p =>
      let held := match s.slotOfSeg stream (tileSeg p) with
        | some (_, w) => w.recov.any fun e => e.1 == tileNo p
        | none => false
      if s.isWaiter stream p && !held then (s.partDone waiter Code.tileLate).lateOut stream else s
    | none => s)
/-- RELEASE_COUNT (R279). -/
def execReleaseCount (stream seg dev q tag : Nat) (count : Option Nat) (s : State) : Host.Outcome State Fault Refusal :=
  .next (s.releaseIn stream seg dev q tag count)
/-- NEW_FIRST (R280). -/
def execNewFirst (stream first : Nat) (s : State) : Host.Outcome State Fault Refusal :=
  .next (if s.strHolds stream && !s.controls stream then s.advanceTo stream first else s)
/-- SCHEDULE_CHECK (R281). -/
def execScheduleCheck (stream : Nat) (s : State) : Host.Outcome State Fault Refusal := .next (s.schedule stream)
/-- STREAM_CONTROLLER_TAKEOVER (R282). -/
def execStreamControllerTakeover (stream : Nat) (s : State) : Host.Outcome State Fault Refusal :=
  .next (if s.strController stream = some s.index ∧ s.controls stream = false then
      let s := s.onStream stream fun x => { x with inherited := x.recent }
      ((s.setF F.STR_STATUS_CONTROLLER 1 stream).event 0x070A [stream, s.index]).resendReleases stream
    else s)
/-- HEAL_REQ (R41, R291). -/
def execHealReq (f : TwinFrame) (s : State) : Host.Outcome State Fault Refusal := .next (s.healAsked f.link f.value)
/-- HEAL_DATA (R41, R291). -/
def execHealData (f : TwinFrame) (data : Option (List Byte)) (s : State) : Host.Outcome State Fault Refusal :=
  .next (s.healAnswer f.link f.value data)
/-- HEAL_TIMEOUT (R41). -/
def execHealTimeout (line : Nat) (s : State) : Host.Outcome State Fault Refusal :=
  .next (if s.dram.heals.contains line then s.healFail line else s)
/-- WAIT_PEAK_READ (R298): the read returns the word and clears WAIT_PEAK. -/
def execWaitPeakRead (stream : Nat) (s : State) : Host.Outcome State Fault Refusal :=
  .next (if 256 ≤ stream then s
    else
      let w := setBits (s.word (F.STR_ERR_WAIT_NOW.key stream 0)).toNat 31 16 (Nat.min 65535 (s.waiters stream).length)
      (s.readback [F.STR_ERR_WAIT_NOW.key stream 0, w]).setF F.STR_ERR_WAIT_PEAK 0 stream)

end Sys2Proof.Machine
end

