-- ==== Sys2Proof/Machine/Transport.lean ====
section
/-! DEFINITION. The remote access transport (R79 to R110): host frames, admission, the one-sided messages of braid mode and of
compatible mode, acknowledgement and retransmission, congestion control, and queue residency with the eddy buffer. -/

namespace Sys2Proof.Machine

namespace State

/-! Ports (R78, R109). -/

/-- A packet is dropped and counted in the transport's discard count (R79, R80, R82, R85). -/
def discard (s : State) : State := { s with tp := { s.tp with discards := s.tp.discards + 1 } }


/-- The device serves host traffic: it is a member of the stack, and no save has stopped admission (R387, R340). -/
def hostOpen (s : State) : Bool := s.flash.run.isNone && s.f F.STK_STATUS_MEMBER_STATE == 2
/-- A host port of a device that serves host traffic carries frames. -/
def portServes (s : State) (port : Nat) : Bool := s.portOn port && s.hostOpen
/-- DURABLE_EN of the port a packet came through, or as the relay reports it (R22, R388). -/
def durablePort (s : State) (port : Nat) (relay : Option Bool) : Bool := match relay with
  | some b => b
  | none => s.portBit F.LNK_CTL_DURABLE_EN port

/-! Acceptance and acknowledgement (R85 to R87). -/

/-- Distance of a PSN beyond another in `w`-bit sequence numbers. -/
def psnAfter (w a b : Nat) : Nat := (a + 2 ^ w - b % 2 ^ w) % 2 ^ w

/-- BITMAP of a SACK: bit i for CUM_PSN + 1 + i. -/
def sackMap (cum : Nat) (seen : List Nat) : Nat :=
  maskOf ((List.range 64).filter fun i => seen.contains ((cum + 1 + i) % 2 ^ 32))
/-- Send a SACK (R86). -/
def sendSack (s : State) (q : Nat) : State :=
  match s.queue? q with
  | none => s
  | some x => (s.setQueue q { x with sinceSack := 0 }).sendCtl q (s.peerQn q) [Pkt.sack, x.rxNext, sackMap x.rxNext x.rxSeen, x.lastTs]

/-- CUM_PSN after one more PSN. -/
def advancePsn : Nat → Nat → List Nat → Nat × List Nat
  | 0, n, l => (n, l)
  | fuel + 1, n, l => if l.contains n then advancePsn fuel ((n + 1) % 2 ^ 32) (l.filter (· != n)) else (n, l)

/-- Accept a braid data packet: whether it is new, and the state with its PSN counted and any SACK that is due at once. -/
def braidAccept (s : State) (q : Nat) (h : BraidHdr) : Bool × State :=
  match s.queue? q with
  | none => (false, s)
  | some x =>
    let d := psnAfter 32 h.psn x.rxNext
    if 2 ^ 31 ≤ d ∨ x.rxSeen.contains h.psn then (false, (s.setQueue q { x with lastTs := h.ts }).sendSack q)
    else if 16384 ≤ d then (false, s.discard)
    else
      let (n, l) := advancePsn (x.rxSeen.length + 2) x.rxNext (h.psn :: x.rxSeen)
      let s := s.setQueue q { x with rxNext := n, rxSeen := l, sinceSack := x.sinceSack + 1, lastTs := h.ts, lastUse := s.time }
      (true, if h.ackReq ∨ 64 ≤ x.sinceSack + 1 then s.sendSack q else s)

/-- The checks of R82 hold: BCRC, VER, and the TYPE of its row; any other TYPE is a reserved one. -/
def braidGood (h : BraidHdr) (type : Nat) : Bool := h.crcOk && h.ver == 1 && h.type == type
/-- A braid packet has come through a port that serves, or by the relay. -/
def braidHere (s : State) (h : BraidHdr) : Bool := if h.relay.isSome then s.hostOpen else s.portServes h.port
/-- The local queue of a braid packet of a type that this device takes: its checks hold, its queue is here, resident and in braid mode. -/
def braidQueue (s : State) (h : BraidHdr) (type : Nat) : Option Nat :=
  if braidGood h type && s.braidHere h then
    match s.homed h.dq with
    | some q => if s.qState q ≠ QS.free ∧ s.isBraid q = true ∧ s.flag F.Q_STATUS_RESIDENT q = true then some q else none
    | none => none
  else none

/-! Admission (R96, R97). -/

/-- INGRESS_QMAX in bytes. -/
def qmax (s : State) : Nat := s.f F.TP_ADMIT_INGRESS_QMAX * 1024
/-- Units of 256 B of a message's payload that it reserves. -/
def ingressUnits (n : Nat) : Nat := ceilDiv n 256
/-- The devices and pairs that a span of a region touches. -/
def touched (s : State) (r off n : Nat) : List Nat := ((s.splitRange r false (n / granBytes + 2) off n).map Prod.fst).eraseDups

/-- CAUSE 1 and 2 (R96): the causes that only the size decides; CAUSE and retry time in µs. -/
def refuseSize (s : State) (q n : Nat) : Option (Nat × Nat) :=
  let w := Nat.min n s.qmax
  let used := match s.queue? q with
    | some x => x.ingress
    | none => 0
  if n = 0 then none
  else if !s.poolRoom 0 (ingressUnits w) then some (1, s.f F.TP_ADMIT_RETRY_BUSY)
  else if s.qmax < used + w then some (2, s.f F.TP_ADMIT_RETRY_BUSY)
  else none

/-- The twin state of a device, as it last told. -/
def stateOf (s : State) (d : Nat) : Nat := if d = s.index then s.tstate else s.peerState d
/-- CAUSE 4 (R96): a pair has a member in HOLDING and none in SOLO. -/
def pairHolds (s : State) (p : Nat) : Bool :=
  (s.stateOf (2 * p) == TS.holding || s.stateOf (2 * p + 1) == TS.holding) && s.stateOf (2 * p) != TS.solo && s.stateOf (2 * p + 1) != TS.solo

/-- Bytes of a span of a region that a device leads. -/
def bytesTo (s : State) (r off n d : Nat) : Nat :=
  ((s.splitRange r false (n / granBytes + 2) off n).filter fun e => e.1 == d).foldl (fun k e => k + e.2.2) 0
/-- Durable bytes toward a lead of the compatible-mode messages and commands that have been admitted and are not answered (R98). -/
def openToward (s : State) (d : Nat) : Nat :=
  s.queues.foldl (fun n e =>
    if s.isBraid e.1 then n
    else
      let span (t : Option Tgt) (len : Nat) : Nat := match t with
        | some t => if s.isDurable t.region then s.bytesTo t.region t.off len d else 0
        | none => 0
      let ms := (e.2.msgs.filter fun m => !m.closed && m.kind != Pkt.readReq).foldl (fun k m => k + span m.tgt m.len) 0
      let cs := (e.2.cmds.filter fun c => c.outcome.isNone && c.writeClass).foldl (fun k c => k + span c.tgt c.length) 0
      n + ms + cs) 0

/-- CAUSE 3, 4 and 6 for a write, append, atomic or INVOKE of `n` bytes at a domain address (R96, R98). -/
def refuseTarget (s : State) (q addr n : Nat) : Option (Nat × Nat) :=
  let dom := s.qDomain q
  match s.findMap dom addr with
  | none => none
  | some m =>
    let (r, off, _) := s.mapPlace dom m addr
    if !s.isDurable r then none
    else
      let ds := s.touched r off n
      if ds.any fun d => if d = s.index then s.flag F.SV_STATUS_SPATE else s.spates.contains d then
        some (3, s.f F.TP_ADMIT_RETRY_SPATE)
      else if ds.any fun d => s.pairHolds (d / 2) then some (4, s.f F.TP_ADMIT_RETRY_TWIN)
      else if !s.isBraid q ∧ (ds.any fun d => decide (d ≠ s.index ∧ 64 * s.tp.lent.get 0 d < s.openToward d + s.bytesTo r off n d)) then
        some (6, s.f F.TP_ADMIT_RETRY_BUSY)
      else none

/-- The RNR timers of RoCE v2 in units of 10 µs, by their codes (PRESUMED). -/
def rnrTimers : List Nat := [65536, 1, 2, 3, 4, 6, 8, 12, 16, 24, 32, 48, 64, 96, 128, 192, 256, 384, 512, 768, 1024, 1536, 2048, 3072, 4096,
  6144, 8192, 12288, 16384, 24576, 32768, 49152]
/-- The code of the smallest RNR timer not less than a time in µs (R97). -/
def rnrCode (us : Nat) : Nat :=
  (((List.range 32).drop 1).find? fun c => decide (us ≤ 10 * rnrTimers.getD c 0)).getD 0

/-- Refuse a message: an RNR frame in braid mode, an RNR NAK at the message's first PSN in compatible mode. -/
def refuse (s : State) (q msn psn cause retryUs : Nat) : State :=
  let s := (s.bump F.TP_SIG_STAT_RNR_SENT).reachEvent 0x0204 cause [cause]
  if s.isBraid q then
    let s := s.onQueue q fun x => { x with rnr := (msn, s.time + 1000 * retryUs) :: x.rnr.filter fun e => e.1 != msn }
    s.sendCtl q (s.peerQn q) [Pkt.rnr, msn, cause, retryUs]
  else s.sendCompat q [Roce.nak, psn, 4, rnrCode retryUs] []

/-- Packets of a refused message are discarded until its retry time (R97). -/
def rnrHolds (s : State) (q msn : Nat) : Bool :=
  match s.queue? q with
  | some x => x.rnr.any fun e => e.1 == msn && decide (s.time < e.2)
  | none => false

/-! Messages. -/

def msg? (s : State) (q msn : Nat) : Option OneSided := (s.queue? q).bind fun x => x.msgs.find? fun m => m.msn == msn
def onMsg (s : State) (q msn : Nat) (f : OneSided → OneSided) : State :=
  s.onQueue q fun x => { x with msgs := x.msgs.map fun m => if m.msn = msn then f m else m }

/-- Take a new message on: its ingress units, its record with the outcome of its check (R83), its number counted as checked. -/
def takeMsg (s : State) (q : Nat) (m : OneSided) (n : Nat) (checked : Bool) : State :=
  let units := ingressUnits (Nat.min n s.qmax)
  let s := s.poolTake 0 units
  s.onQueue q fun x =>
    let x := { x with msgs := x.msgs ++ [{ m with units := units }], ingress := x.ingress + 256 * units,
                      rnr := x.rnr.filter fun e => e.1 != m.msn }
    if checked then markMsn x m.msn else x

/-- The record of a braid message at its first packet. -/
def braidMsg (s : State) (h : BraidHdr) (kind code : Nat) (tgt : Option Tgt) (raddr rkey : U64) : OneSided :=
  ⟨h.msn, kind, h.tag, h.key, h.addr, h.msgLen, h.psn, raddr, rkey, [], 0, code, tgt, [], [], 0, false, 0, s.time⟩

/-- A later packet repeats the message's header (R83). -/
def sameMsg (m : OneSided) (h : BraidHdr) (kind : Nat) : Bool :=
  m.kind == kind && m.len == h.msgLen && m.key == h.key && m.addr == h.addr && m.tag == h.tag

/-- The command of a broken CAPSULE message completes with INVALID (R83): one that has not started ends so; one whose capsule has not
arrived stands for the tag of the header. -/
def breakCapsule (s : State) (q : Nat) (m : OneSided) : State :=
  match (s.queue? q).bind fun x => x.cmds.find? fun c => c.msn == m.msn with
  | some c => if c.started ∨ c.outcome.isSome then s
    else s.onCmd q c.tag fun c => { c with check := Code.invalid, outcome := some ⟨Code.invalid, 0, 0, 0, 0⟩, whole := true }
  | none => (s.capsule q m.msn m.tag [] [] 0 true).onQueue q fun x => markMsn x m.msn

/-- A packet breaks its message: it is discarded and the message completes with INVALID (R83). -/
def breakMsg (s : State) (q msn : Nat) : State :=
  match s.msg? q msn with
  | none => s
  | some m =>
    if m.closed ∨ m.code ≠ 0 then s
    else
      let s := if m.kind = Pkt.capsule then s.breakCapsule q m else s
      (s.onMsg q msn fun m => { m with code := Code.invalid }).closeMsgs q

/-- The first packet of a one-sided message of `n` bytes at ADDR. The continuation places the packet of an admitted message. An address
beyond the domain space or a length outside R82 completes with INVALID before the key check (DESIGN CHOICE: the spec names no code). -/
def braidFirst (s : State) (q : Nat) (h : BraidHdr) (kind payload n : Nat) (need : Need) (raddr rkey : U64)
    (k : State → OneSided → State) : State :=
  if s.rnrHolds q h.msn then s
  else match s.msg? q h.msn with
    | some m => if sameMsg m h kind then k s m else s.breakMsg q h.msn
    | none =>
      let writes := need != .read
      let no := match s.refuseSize q payload with
        | some c => some c
        | none => if writes then s.refuseTarget q h.addr.toNat n else none
      match no with
      | some (cause, t) => s.refuse q h.msn h.psn cause t
      | none =>
        let (s, code, tgt) := if 2 ^ 52 ≤ h.addr.toNat ∨ h.msgLen = 0 ∨ 2 ^ 28 < h.msgLen then (s, Code.invalid, none)
          else s.checkAccess q h.key.toNat h.addr.toNat n need (s.durablePort h.port h.relay)
        let m := s.braidMsg h kind code tgt raddr rkey
        let s := s.takeMsg q m payload true
        match s.msg? q h.msn with
        | some m => k s m
        | none => s

/-- Send the recorded DONE of a completed READ_REQ or ATOMIC again (R85). -/
def repeatDone (s : State) (q : Nat) (m : OneSided) : State :=
  let s := if m.data.isEmpty then s else s.sendData q Pkt.readResp m.tag m.rkey.toNat m.raddr.toNat m.data
  s.sendData q Pkt.done m.tag 0 0 ([BitVec.ofNat 8 m.code] ++ List.replicate 7 0 ++ toBytes 8 m.result.toNat)

/-- Give a message its parts. -/
def msgParts (s : State) (q : Nat) (m : OneSided) (kind : PartKind) (off n moff : Nat) (data data2 : List Byte) : State :=
  match m.tgt with
  | none => s
  | some t =>
    let first := s.nextPart
    let (s, ps) := s.startParts (.msg q m.msn) kind t.region off n data data2
    let s := { s with parts := s.parts.map fun (e : Nat × Part) => if first ≤ e.1 then (e.1, { e.2 with moff := e.2.moff + moff }) else e }
    s.onMsg q m.msn fun m => { m with parts := m.parts ++ ps }

/-- Place a WRITE packet (R84). -/
def placeWrite (s : State) (q : Nat) (m : OneSided) (off : Nat) (data : List Byte) : State :=
  if m.closed then s
  else if m.len < off + data.length then s.breakMsg q m.msn
  else
    let s := s.onMsg q m.msn fun m => { m with got := m.got + data.length, lastAt := s.time }
    let s := match m.tgt with
      | some t => if m.code = 0 then s.msgParts q m .write (t.off + off) data.length off data [] else s
      | none => s
    s.closeMsgs q

/-- A duplicate of a READ_REQ or ATOMIC whose message has completed (R85). -/
def braidDup (s : State) (q : Nat) (h : BraidHdr) (kind : Nat) : State :=
  match s.msg? q h.msn with
  | some m => if m.closed ∧ m.kind = kind then s.repeatDone q m else s
  | none => s

/-- Run a braid packet of a type through acceptance; one that fails the checks of R82 is dropped and counted. -/
def braidPacket (s : State) (h : BraidHdr) (type : Nat) (dup : State → Nat → State) (k : State → Nat → State) : State :=
  match s.braidQueue h type with
  | none => if !braidGood h type && s.braidHere h then s.discard else s
  | some q =>
    let (fresh, s) := s.braidAccept q h
    if fresh then k s q else dup s q

/-- A little-endian quadword of a payload (R3). -/
def payloadWord (bs : List Byte) (i : Nat) : U64 := BitVec.ofNat 64 (ofBytes ((bs.drop (8 * i)).take 8))

/-- BRAID_READ_REQ (R82): a single packet whose 16 B are the reply address and the reply key. -/
def doReadReq (s : State) (h : BraidHdr) (bs : List Byte) : State :=
  s.braidPacket h Pkt.readReq (fun s q => s.braidDup q h Pkt.readReq) fun s q =>
    s.braidFirst q h Pkt.readReq 16 h.msgLen .read (payloadWord bs 0) (payloadWord bs 1) fun s m =>
      if m.closed then s.repeatDone q m
      else if h.pktOff ≠ 0 ∨ bs.length ≠ 16 then s.breakMsg q h.msn
      else if m.got ≠ 0 then s
      else
        let s := s.onMsg q h.msn fun m => { m with got := m.len }
        let s := match m.tgt with
          | some t => if m.code = 0 then s.msgParts q m .read t.off m.len 0 [] [] else s
          | none => s
        s.closeMsgs q

/-- BRAID_ATOMIC (R82): compare-and-swap or fetch-add of 8 B; its 24 B are operand A, operand B, OP and 7 B reserved. -/
def doBraidAtomic (s : State) (h : BraidHdr) (bs : List Byte) : State :=
  s.braidPacket h Pkt.atomic (fun s q => s.braidDup q h Pkt.atomic) fun s q =>
    s.braidFirst q h Pkt.atomic 24 8 .atomic 0 0 fun s m =>
      let op := (bs.getD 16 0).toNat
      if m.closed then s.repeatDone q m
      else if h.pktOff ≠ 0 ∨ bs.length ≠ 24 ∨ h.msgLen ≠ 8 ∨ h.addr.toNat % 8 ≠ 0 ∨ (op ≠ 1 ∧ op ≠ 2) then s.breakMsg q h.msn
      else if m.got ≠ 0 then s
      else
        let s := s.onMsg q h.msn fun m => { m with got := m.len }
        let s := match m.tgt with
          | some t =>
            if m.code = 0 then
              (if op = 1 then s.msgParts q m .compare t.off 8 0 (bs.take 8) ((bs.drop 8).take 8)
                else s.msgParts q m .fetchAdd t.off 8 0 (bs.take 8) [])
            else s
          | none => s
        s.closeMsgs q

/-- The quadwords of a capsule's 64 bytes. -/
def capsuleWords (bs : List Byte) : List U64 := (List.range 8).map fun i => BitVec.ofNat 64 (ofBytes ((bs.drop (8 * i)).take 8))
/-- Bytes put together from chunks in offset order. -/
def gather (cs : List (Nat × List Byte)) : List Byte :=
  let m : SMap (List Byte) := cs.foldl (fun m c => SMap.put m c.1 c.2) []
  m.flatMap Prod.snd

/-- The ingress check of a capsule's opcode and address (R96 CAUSE 3, 4 and 6). -/
def capsuleRefused (s : State) (q : Nat) (qw : List U64) : Option (Nat × Nat) :=
  let op := bits (qw.getD 0 0).toNat 7 0
  let n := Nat.max 1 (bits (qw.getD 0 0).toNat 63 32)
  let a := (qw.getD 1 0).toNat
  if [Op.write, Op.writeAtomic, Op.compareWrite, Op.fetchAdd, Op.append, Op.invoke].contains op ∧
      ¬(op = Op.invoke ∧ bits (qw.getD 0 0).toNat 63 32 = 0) then s.refuseTarget q a (if op = Op.append then 1 else n)
  else none

/-- BRAID_CAPSULE (R83): packets wait until the one that carries the capsule; that one is checked and makes the command; the
command may start when all its data are there. Of a message shorter than 64 bytes the capsule bytes that are missing are 0 (DESIGN CHOICE). -/
def doBraidCapsule (s : State) (h : BraidHdr) (data : List Byte) : State :=
  s.braidPacket h Pkt.capsule (fun s _ => s) fun s q =>
    if s.rnrHolds q h.msn then s
    else
      let s : State := match s.msg? q h.msn with
        | some _ => s
        | none => match s.refuseSize q h.msgLen with
          | some (cause, t) => s.refuse q h.msn h.psn cause t
          | none => s.takeMsg q (s.braidMsg h Pkt.capsule 0 none 0 0) h.msgLen false
      match s.msg? q h.msn with
      | none => s
      | some m =>
        if m.closed ∨ m.code ≠ 0 ∨ !sameMsg m h Pkt.capsule ∨ h.msgLen < h.pktOff + data.length then s.breakMsg q h.msn
        else
          let first := decide (h.pktOff = 0) && !(m.chunks.any fun c => c.1 == 0)
          let qw := capsuleWords data
          match if first then s.capsuleRefused q qw else none with
          | some (cause, t) =>
            let s := (s.poolGive 0 m.units).onQueue q fun x =>
              { x with msgs := x.msgs.filter fun n => n.msn != h.msn, ingress := x.ingress - 256 * m.units }
            s.refuse q h.msn h.psn cause t
          | none =>
            let s := s.onMsg q h.msn fun m =>
              { m with got := m.got + data.length, lastAt := s.time, chunks := m.chunks ++ [(h.pktOff, data)] }
            let s := if first then
                let s := s.capsule q h.msn h.tag qw (data.drop 64) (h.msgLen - 64) (s.durablePort h.port h.relay)
                s.onQueue q fun x => markMsn x h.msn
              else s
            match s.msg? q h.msn with
            | some m =>
              let all := (gather m.chunks).drop 64
              let s := if m.len ≤ m.got then s.onQueue q fun x => { x with cmds := x.cmds.map fun c =>
                  if c.msn = h.msn then { c with data := all, whole := true } else c } else s
              s.closeMsgs q
            | none => s

/-! Compatible mode (R92 to R94). -/

/-- The queue of a RoCE request: its checks hold, it is here, resident and in compatible mode. -/
def roceQueue (s : State) (h : RoceHdr) : Option Nat :=
  let q := h.dq % 2 ^ 18
  if h.icrcOk && s.portServes h.port && h.dq / 2 ^ 18 % 64 == s.index && s.qState q != QS.free && !s.isBraid q &&
    s.flag F.Q_STATUS_RESIDENT q then some q else none

/-- Sequence check (R93) of a packet that takes `n` PSNs: an expected one goes on, one with an opcode that R92 does not list to its NAK; one
beyond it causes one NAK; a duplicate of an answered message is answered again, that of a held one is discarded (R98). -/
def roceAccept (s : State) (q : Nat) (h : RoceHdr) (n : Nat) (k : State → State) : State :=
  match s.queue? q with
  | none => s
  | some x =>
    if h.psn = x.rxNext then
      let s := s.setQueue q { x with rxNext := (x.rxNext + n) % 2 ^ 24, nakSent := false, lastUse := s.time }
      if h.known then k s else s.sendCompat q [Roce.nak, h.psn, nakOf Code.invalid] []
    else if psnAfter 24 h.psn x.rxNext < 2 ^ 23 then
      if x.nakSent then s else (s.setQueue q { x with nakSent := true }).sendCompat q [Roce.nak, x.rxNext, 0] []
    else match s.msg? q h.msn with
      | some m => if m.closed then s.compatAnswer q m m.code m.result m.data else s
      | none => s

/-- The first packet of a RoCE message is admitted and checked by its RETH or AtomicETH; the others take its outcome. A refused
message leaves its packets unreceived. -/
def roceFirst (s : State) (q : Nat) (h : RoceHdr) (kind payload n : Nat) (need : Need) (k : State → OneSided → State) : State :=
  match s.msg? q h.msn with
  | some m => if m.closed then s else k s m
  | none =>
    if !h.first then s
    else
      let no := match s.refuseSize q payload with
        | some c => some c
        | none => if need != .read then s.refuseTarget q h.addr.toNat n else none
      match no with
      | some (cause, t) => (s.onQueue q fun x => { x with rxNext := h.psn }).refuse q h.msn h.psn cause t
      | none =>
        let (s, code, tgt) := if 2 ^ 52 ≤ h.addr.toNat then (s, Code.bounds, none)
          else s.checkAccess q h.rkey.toNat h.addr.toNat n need (s.durablePort h.port none)
        let m : OneSided := ⟨h.msn, kind, 0, BitVec.ofNat 64 h.rkey.toNat, h.addr, h.msgLen, h.psn, 0, 0, [], 0, code, tgt, [], [], 0,
          false, 0, s.time⟩
        let s := s.takeMsg q m payload true
        match s.msg? q h.msn with
        | some m => k s m
        | none => s

/-- Run a RoCE request packet that takes `n` PSNs. -/
def rocePacket (s : State) (h : RoceHdr) (n : Nat) (k : State → Nat → State) : State :=
  match s.roceQueue h with
  | none => s
  | some q => s.roceAccept q h n fun s => k s q
/-- The PSNs that the responses of an RDMA READ take: one for each path MTU. -/
def readPsns (s : State) (n : Nat) : Nat := Nat.max 1 (ceilDiv n (1024 <<< s.f F.TP_COMPAT_COMPAT_PMTU))

/-- COMPAT_SEND (R92, R115, R119): the first 64 bytes are the capsule. A capsule's tag is its own. -/
def doCompatSend (s : State) (h : RoceHdr) (data : List Byte) : State :=
  s.rocePacket h 1 fun s q =>
    let s : State := match s.msg? q h.msn with
      | some _ => s
      | none =>
        if !h.first then s
        else
          let qw := capsuleWords data
          match (match s.refuseSize q h.msgLen with
            | some c => some c
            | none => s.capsuleRefused q qw) with
          | some (cause, t) => (s.onQueue q fun x => { x with rxNext := h.psn }).refuse q h.msn h.psn cause t
          | none =>
            let m : OneSided := ⟨h.msn, Pkt.capsule, 0, 0, 0, h.msgLen, h.psn, 0, 0, [], 0, 0, none, [], [], 0, false, 0, s.time⟩
            let s := s.takeMsg q m h.msgLen true
            s.capsule q h.msn (bits (qw.getD 0 0).toNat 31 16) qw (data.drop 64) (h.msgLen - 64) (s.durablePort h.port none)
    match s.msg? q h.msn with
    | none => s
    | some m =>
      if m.closed then s
      else
        let s := s.onMsg q h.msn fun m =>
          { m with got := m.got + data.length, lastAt := s.time, psn := h.psn, chunks := m.chunks ++ [(h.pktOff, data)] }
        let all := (gather (m.chunks ++ [(h.pktOff, data)])).drop 64
        let s := if h.last then s.onQueue q fun x => { x with cmds := x.cmds.map fun c =>
            if c.msn = h.msn then { c with data := all, whole := true } else c } else s
        s.closeMsgs q

/-- COMPAT_RDMA_WRITE (R94). -/
def doRdmaWrite (s : State) (h : RoceHdr) (data : List Byte) : State :=
  s.rocePacket h 1 fun s q => s.roceFirst q h Pkt.write h.msgLen h.msgLen .write fun s m =>
    (s.onMsg q h.msn fun m => { m with psn := h.psn }).placeWrite q m h.pktOff data
/-- COMPAT_RDMA_READ (R92). -/
def doRdmaRead (s : State) (h : RoceHdr) : State :=
  s.rocePacket h (s.readPsns h.msgLen) fun s q => s.roceFirst q h Pkt.readReq 16 h.msgLen .read fun s m =>
    let s := s.onMsg q h.msn fun m => { m with got := m.len }
    let s := match m.tgt with
      | some t => if m.code = 0 then s.msgParts q m .read t.off m.len 0 [] [] else s
      | none => s
    s.closeMsgs q
/-- A RoCE atomic (R92): 8 bytes, 8-byte aligned. -/
def doRoceAtomic (s : State) (h : RoceHdr) (kind : PartKind) (a b : U64) : State :=
  s.rocePacket h 1 fun s q => s.roceFirst q { h with msgLen := 8 } Pkt.atomic 24 8 .atomic fun s m =>
    if h.addr.toNat % 8 ≠ 0 then s.breakMsg q h.msn
    else
      let s := s.onMsg q h.msn fun m => { m with got := m.len }
      let s := match m.tgt with
        | some t => if m.code = 0 then s.msgParts q m kind t.off 8 0 (toBytes 8 a.toNat) (if kind = PartKind.compare then toBytes 8 b.toNat else [])
          else s
        | none => s
      s.closeMsgs q

/-! Acknowledgements of what the device sent (R86, R90, R92, R199). -/

/-- Packets have been acknowledged: they leave the list, commands stop waiting for them, and a send whose last packet is gone
drops its buffer reference (the transport sender is owner 0x1105). Those of a message that still waits are kept (R97). -/
def acked (s : State) (q : Nat) (f : TxPkt → Bool) : State :=
  match s.queue? q with
  | none => s
  | some x =>
    let gone := x.tx.filter f
    let left := x.tx.filter fun p => !f p
    let psns := gone.map (·.psn)
    let s := s.setQueue q { x with
      tx := left
      kept := (x.kept ++ gone).filter fun p => left.any fun y => y.send == p.send
      lastUse := if gone.isEmpty then x.lastUse else s.time
      cmds := x.cmds.map fun c => { c with awaiting := c.awaiting.filter fun a => !psns.contains a } }
    ((gone.filterMap fun p => p.buf.map fun b => (p.send, b)).eraseDups.filter fun e =>
      !left.any fun p => p.send == e.1 && p.buf == some e.2).foldl (fun t e => t.poolUnref e.2 0x1105 1) s

/-- RTO of a packet in ns (R90), before the first sample from RTO_MIN (DESIGN CHOICE); it doubles at each retry. -/
def rto (s : State) (x : Queue) (p : TxPkt) : Nat :=
  let (srtt, var) := x.rtt.getD (0, 0)
  Nat.min (1000 * s.f F.TP_BRAID_RTO_MAX) (Nat.max (1000 * s.f F.TP_BRAID_RTO_MIN) (srtt + 4 * var)) * 2 ^ (p.tries - 1)
/-- A packet as it goes again on a path: its source port, RETX, TS and way are new. -/
def resent (s : State) (q : Nat) (p : TxPkt) (path : Nat) : Msg :=
  { p.msg with args := ((((p.msg.args.take 14).set 2 (pathPort q path)).set 3 1).set 12 (s.time % 2 ^ 32)) ++
      s.braidWay q (s.pathTx q path) ect0 }
/-- A queue gives up on a packet (R91); the write of a completion entry goes on being attempted until the queue is FREE (R143). -/
def giveUp (s : State) (q psn : Nat) : State :=
  if s.qState q = QS.ready ∨ s.qState q = QS.frozen then (s.errorQueue q 1).event 0x0203 [s.dqn q, psn] else s

/-- Retransmit a packet on another path (R90), or give the queue up (R91). -/
def retransmit (s : State) (q psn nowUs : Nat) : State :=
  match (s.queue? q).bind fun x => x.tx.find? fun p => p.psn == psn with
  | none => s
  | some p =>
    let past := decide (s.f F.TP_BRAID_RETRY_MAX + 1 ≤ p.tries)
    let s := if past then s.giveUp q psn else s
    if past && !p.entry then s
    else match s.queue? q with
      | none => s
      | some x =>
        let alt := s.nextPath { x with lastPath := p.path }
        let m := s.resent q p alt
        let upd : TxPkt := { p with path := alt, tries := p.tries + 1, sentUs := nowUs, msg := m }
        ((s.setQueue q { x with tx := x.tx.map fun y => if y.psn = psn then upd else y }).emit m).bump F.TP_TX_STAT_RETX_PKTS

/-- A timeout on a path (R89): the second within PATH_HOLDOFF takes the path out of service, unless it is the only one. -/
def pathTimeout (s : State) (q path nowUs : Nat) : State :=
  match s.queue? q with
  | none => s
  | some x =>
    let p := x.paths.get ⟨none, none, false⟩ path
    let n := s.f F.TP_BRAID_NPATHS_M1 + 1
    let others := (List.range n).any fun i => i != path && !(x.paths.get ⟨none, none, false⟩ i).held
    let two := match p.last with
      | some t => decide (nowUs - t ≤ s.f F.TP_PATH_PATH_HOLDOFF)
      | none => false
    s.setQueue q { x with paths := x.paths.put path ⟨some nowUs, p.last, p.held || (two && others)⟩ }

/-- A packet that an invocation of queue `q` posted has a new PSN (R97, R200). -/
def renumberPosted (s : State) (q old new : Nat) : State :=
  { s with eng := { s.eng with threads := s.eng.threads.map fun (e : Nat × Thread) =>
    let mine := match e.2.start with
      | .invoke q' _ => q' == q
      | .fiddle q' _ _ => q' == q
      | _ => false
    if mine then (e.1, { e.2 with posted := e.2.posted.map fun a => if a = old then new else a }) else e } }

/-- A refused message goes again whole, with new PSNs (R97): packet by packet; what waited for one of its packets waits for all. -/
def sendAgain (s : State) (q nowUs : Nat) (ps : List TxPkt) : State :=
  let olds := ps.map (·.psn)
  ps.foldl (fun t p => match t.queue? q with
    | none => t
    | some y =>
      let m := { t.resent q p p.path with args := ((t.resent q p p.path).args.set 1 y.txNext).set 3 0 }
      let pkt : TxPkt := { p with psn := y.txNext, tries := 1, sentUs := nowUs, msg := m }
      let cmds := y.cmds.map fun c => if c.awaiting.any olds.contains then { c with awaiting := c.awaiting ++ [y.txNext] } else c
      ((t.setQueue q { y with tx := y.tx ++ [pkt], txNext := (y.txNext + 1) % 2 ^ 32, cmds := cmds }).renumberPosted q p.psn
        y.txNext).emit m) s
    |>.onQueue q fun x => { x with cmds := x.cmds.map fun c => { c with awaiting := c.awaiting.filter fun a => !olds.contains a } }

/-- RETRANSMIT_TIMEOUT (R89 to R91, R97): a packet whose RTO has passed is sent again; a message the host refused is sent again whole,
with new PSNs, once its time has passed. -/
def doRetransmit (s : State) (q psn nowUs : Nat) : State :=
  match s.queue? q with
  | none => s
  | some x =>
    match x.tx.find? fun p => p.psn == psn with
    | some p => if s.isBraid q ∧ 1000 * p.sentUs + s.rto x p ≤ 1000 * nowUs then (s.pathTimeout q p.path nowUs).retransmit q psn nowUs else s
    | none => match x.refused.find? fun e => e.2.psn == psn with
      | none => s
      | some (until_, p) =>
        if nowUs * 1000 < until_ then s
        else
          let same := (x.refused.filter fun e => e.2.send == p.send).map Prod.snd
          (s.setQueue q { x with refused := x.refused.filter fun e => e.2.send != p.send }).sendAgain q nowUs same

/-- BRAID_SACK (R86, R90): what it acknowledges leaves the flight, the round trip is sampled from TS_ECHO, and the packets that its BITMAP
shows missing, older than an acknowledged one by more than REORDER_TOL, are sent again. -/
def doSack (s : State) (q cum : Nat) (bitmap : U64) (tsEcho nowUs : Nat) : State :=
  match s.queue? q with
  | none => s
  | some x =>
    let far (p : TxPkt) : Nat := psnAfter 32 p.psn cum
    let got (p : TxPkt) : Bool := decide (2 ^ 31 ≤ far p) || (decide (1 ≤ far p ∧ far p ≤ 64) && bitmap.getLsbD (far p - 1))
    let gone := x.tx.filter got
    let late := (x.tx.filter fun p => !got p && decide (far p ≤ 64) &&
      gone.any fun a => decide (p.sentUs + s.f F.TP_PATH_REORDER_TOL < a.sentUs)).map (·.psn)
    let s := s.onQueue q fun x => { x with rtt := some (Config.smoothRtt x.rtt ((s.time + 2 ^ 32 - tsEcho % 2 ^ 32) % 2 ^ 32)) }
    late.foldl (fun t p => t.retransmit q p nowUs) (s.acked q got)

/-- BRAID_RNR (R97): all packets of the message, acknowledged ones too, leave the flight and wait for the retry time, in the order of
their offsets. -/
def doRnr (s : State) (q msn retryUs : Nat) : State :=
  s.onQueue q fun x =>
    let mine (p : TxPkt) : Bool := p.msg.arg 4 == msn
    let all : SMap TxPkt := ((x.kept ++ x.tx).filter mine).foldl (fun m p => SMap.put m (p.msg.arg 9) p) []
    { x with tx := x.tx.filter fun p => !mine p, kept := x.kept.filter fun p => !mine p,
             refused := x.refused ++ all.vals.map fun p => (s.time + 1000 * retryUs, p) }

/-! Congestion control (R99, R100). -/

/-- on_echo of R100. -/
def doEcho (s : State) (dest nowUs : Nat) : State :=
  let s := s.bump F.TP_TX_STAT_ECHO_RCVD
  if !s.flag F.TP_CC2_CC_EN then s
  else { s with rates := s.rates.map fun d =>
    if !d.serves dest then d
    else match d.lastCut with
      | some t => if nowUs - t < s.f F.TP_CC2_CUT_HOLD then d
        else { d with target := d.rate, rate := max ((s.f F.TP_CC_RATE_MIN : Rat) / 10) (d.rate * (1 - d.beta)), beta := min ((s.f F.TP_CC_BETA_MAX : Rat) / 256) (d.beta + (s.f F.TP_CC_BETA_STEP : Rat) / 256), lastCut := some nowUs, calm := 0 }
      | none => { d with target := d.rate, rate := max ((s.f F.TP_CC_RATE_MIN : Rat) / 10) (d.rate * (1 - d.beta)), beta := min ((s.f F.TP_CC_BETA_MAX : Rat) / 256) (d.beta + (s.f F.TP_CC_BETA_STEP : Rat) / 256), lastCut := some nowUs, calm := 0 } }

/-- The rise of one destination (R100). -/
def rise (s : State) (d : RateCtx) : RateCtx :=
  let line : Rat := d.line
  if d.rate < line then
    let calm := d.calm + 1
    let target := if 4 < calm then min line (d.target + (s.f F.TP_CC_RISE_STEP : Rat) / 10 * ((calm - 4 : Nat) : Rat)) else d.target
    let beta := if 8 ≤ calm then max ((s.f F.TP_CC_BETA_MIN : Rat) / 256) (d.beta / 2) else d.beta
    { d with calm := calm, target := target, rate := (d.rate + target) / 2, beta := beta }
  else d

/-- A CE-marked packet is echoed to its sender, at most once per flow, a source address and a source queue, per 4 µs (R99). -/
def ceEcho (s : State) (q src sq : Nat) : State :=
  let recent := s.tp.echoes.filter fun e => decide (s.time < e.2 + 4000)
  if recent.any fun e => e.1 == (src, sq) then s
  else
    let s : State := { s with tp := { s.tp with echoes := recent ++ [((src, sq), s.time)] } }
    (if s.isBraid q then s.sendCtl q sq [Pkt.echo] else s.sendCompat q [Roce.cnp, sq] []).bump F.TP_SIG_STAT_ECHO_SENT

/-! The eddy buffer (R101 to R104). -/

/-- Park a packet and ask for its queue's context. -/
def park (s : State) (q port first units : Nat) : State :=
  let s := (s.poolTake 2 units).bump F.TP_EDDY_STAT_EDDY_PARKED
  let used := ceilDiv (s.f F.POOL_STATUS_ALLOCATED 2) 4
  let s := if s.f F.TP_QUEUE_STAT_EDDY_PEAK < used then s.setF F.TP_QUEUE_STAT_EDDY_PEAK used else s
  let inFlight := (s.queues.filter fun e => e.2.fetching).length
  s.onQueue q fun x => { x with parked := x.parked ++ [(units, s.time, first, port)], fetching := x.fetching || decide (inFlight < 64) }
def eddyDrop (s : State) : State := (s.bump F.TP_EDDY_STAT_EDDY_DROPS).reachEvent 0x0201 0 []
/-- A packet for a queue of this device that is not resident (R101, R104). -/
def eddyPark (s : State) (q port first units : Nat) : State :=
  if s.isBraid q then (if s.eddyFree < units ∨ !s.poolOn 2 then s.eddyDrop else s.park q port first units)
  else if s.eddyFree < units ∨ !s.poolOn 2 then s.eddyDrop
  else if s.eddyFree ≤ s.f F.TP_EDDY_EDDY_HEADROOM * 4 then
    let s := s.park q port first units
    if s.portBit F.LNK_STATUS_EDDY_XOFF port ∨ s.flag F.LNK_CTL_PFC_EN (port / 8) = false then s
    else (s.sendPfc port true).event 0x0202 [port / 8, port % 8]
  else s.park q port first units

/-- A fetch slot is free (R101): the fetch of the packet parked longest, of those whose queue is not being fetched, begins. -/
def nextFetch (s : State) : State :=
  if 64 ≤ (s.queues.filter fun e => e.2.fetching).length then s
  else
    let oldest := s.queues.foldl (fun (b : Option (Nat × Nat)) e => match e.2.parked with
      | [] => b
      | x :: _ => if e.2.fetching then b else match b with
        | some (_, t) => if x.2.1 < t then some (e.1, x.2.1) else b
        | none => some (e.1, x.2.1)) none
    match oldest with
    | some (q, _) => s.onQueue q fun x => { x with fetching := true }
    | none => s

/-- A resident queue is idle (R102). -/
def qIdle (s : State) (q : Nat) (x : Queue) : Bool :=
  x.cmds.isEmpty && x.msgs.all (·.closed) && x.tx.isEmpty && x.refused.isEmpty && x.parked.isEmpty && s.armed q == 0
/-- The resident queue to evict: idle longest and not pinned. -/
def evictee (s : State) : Option Nat :=
  (s.queues.foldl (fun (b : Option (Nat × Nat)) e =>
    if s.flag F.Q_STATUS_RESIDENT e.1 && !s.flag F.Q_CTL_PIN e.1 && s.qIdle e.1 e.2 then
      match b with
      | some (_, t) => if e.2.lastUse < t then some (e.1, e.2.lastUse) else b
      | none => some (e.1, e.2.lastUse)
    else b) none).map Prod.fst

/-- CONTEXT_FETCH_COMPLETE (R101, R102): the context is resident, in the place of an evicted one if need be, and the parked
packets leave the eddy; the fetch waits while no queue can be evicted. -/
def doFetchComplete (s : State) (q : Nat) : State :=
  match s.queue? q with
  | none => s
  | some x =>
    if !x.fetching then s
    else
      let full := decide (8192 ≤ s.f F.TP_QUEUE_STAT_RESIDENT)
      match if full then s.evictee else some q with
      | none => s
      | some v =>
        let s := if full then s.setF F.Q_STATUS_RESIDENT 0 v else s.setF F.TP_QUEUE_STAT_RESIDENT (s.f F.TP_QUEUE_STAT_RESIDENT + 1)
        let units := x.parked.foldl (fun n e => n + e.1) 0
        let s := (s.setF F.Q_STATUS_RESIDENT 1 q).bump F.TP_QUEUE_STAT_CTX_FETCHES
        let s := x.parked.foldl (fun t e => t.histAdd 12 (t.time - e.2.1)) s
        let s := (s.onQueue q fun x => { x with fetching := false, parked := [], lastUse := s.time }).poolGive 2 units
        s.eddyXon.nextFetch

/-- EDDY_PARK_TIMEOUT (R103): the packet parked longest is removed; in compatible mode its message is refused with CAUSE 5 once, at its
first PSN, and all its parked packets are. -/
def doParkTimeout (s : State) (q : Nat) : State :=
  match s.queue? q with
  | none => s
  | some x => match x.parked with
    | [] => s
    | (units, since, first, port) :: rest =>
      let goes (e : Nat × Nat × Nat × Nat) : Bool := !s.isBraid q && e.2.2.1 == first
      let gone := (units, since, first, port) :: rest.filter goes
      let left := rest.filter fun e => !goes e
      let s := gone.foldl (fun t e => t.histAdd 12 (t.time - e.2.1)) s
      let s := (s.setQueue q { x with parked := left, fetching := x.fetching && !left.isEmpty, lastUse := s.time }).poolGive 2
        (gone.foldl (fun n e => n + e.1) 0)
      let s := if s.isBraid q then s.eddyDrop else s.refuse q 0 first 5 (s.f F.TP_ADMIT_RETRY_BUSY)
      s.eddyXon.nextFetch

/-! Host frames (R79, R80, R393). -/

/-- An IPv4 address in its IPv6 form. -/
def v4 (a : Nat) : Nat := 0xFFFF * 2 ^ 32 + a
/-- The stack identity and this device's own addresses, as far as a port answers for them (R393). -/
def ownAddr (s : State) (a : BitVec 128) : Bool :=
  let hi (x : Fld) : Nat := s.f x * 2 ^ 64 + s.f x 0 1
  let n := a.toNat
  n == hi F.STK_SID6_HI_SID6 || n == hi F.STK_DADDR6_HI_DADDR6_BASE + s.index ||
    (s.flag F.STK_CTL_IPV4_EN && (n == v4 (s.f F.STK_ADDR4_SID4) || n == v4 (s.f F.STK_ADDR4_DADDR4_BASE + s.index)))

/-- A transport packet for a queue of this device (R99, R101): it may be echoed and parked. -/
def ownPacket (s : State) (port q src first sq : Nat) (ce : Bool) (bytes : Nat) : State :=
  if s.qState q = QS.free then s
  else
    let s := if ce then s.ceEcho q src sq else s
    if s.flag F.Q_STATUS_RESIDENT q then s else s.eddyPark q port first (ceilDiv bytes 256)

/-- A transport packet goes to its home device (R80): an absent one's is dropped and counted, another's is relayed with the DURABLE_EN bit of
its port. -/
def transportPacket (s : State) (port src dport dq first sq : Nat) (ce : Bool) (bytes : Nat) : State :=
  let compat := decide (dport = 4791)
  let dev := if compat then dq / 2 ^ 18 % 64 else dq / 2 ^ 19 % 64
  if !s.hostOpen then s
  else if !s.present dev then s.discard.event 0x0207 [dev]
  else if dev = s.index then s.ownPacket port (if compat then dq % 2 ^ 18 else dq % 2 ^ 19) src first sq ce bytes
  else (s.sendCascade dev 0x10 [bytes, port, b2n (s.portBit F.LNK_CTL_DURABLE_EN port), src, dport, dq, first, sq, b2n ce]).bump
    F.STK_RELAY_RELAYED

/-- What the FEC of a port has found (R107, R109). -/
def fecCount (s : State) (h : HostFrame) : State :=
  let s := (s.bump F.LNK_FEC_FEC_CORR (h.port / 8) h.fecCorr).bump F.LNK_FEC_FEC_UNCORR (h.port / 8) h.fecUncorr
  if h.fecUncorr = 0 then s else s.reachEvent 0x0104 h.port [h.port / 8, h.port % 8] h.fecUncorr

/-- HOST_FRAME_RECEIVE (R79). -/
def doHostFrame (s : State) (h : HostFrame) : State :=
  if !s.portServes h.port then s
  else
    let s := s.fecCount h
    let drop := s.bump F.LNK_DROP_RX_FCS_ERR (h.port / 8)
    if h.noBuf then s.bump F.LNK_DROP_RX_NOBUF (h.port / 8)
    else if !h.fcsOk ∨ 9216 < h.bytes ∨ 1 < h.tags ∨ h.ipOptions ∨ h.fragment then drop
    else match h.payload with
      | .solicit a => if s.ownAddr a then
          s.emit ⟨.ether, h.port, [1, a.toNat, s.f F.LNK_MAC_MAC_BASE (h.port / 8) + h.port % 8], []⟩ else s
      | .echo a =>
        if !s.ownAddr a then s
        else
          let (t0, n) := s.icmp
          let (t0, n) := if t0 + 10 ^ 9 ≤ s.time then (s.time, 0) else (t0, n)
          if n < 1000 then { s with icmp := (t0, n + 1) }.emit ⟨.ether, h.port, [2, a.toNat], []⟩ else s
      | .icmpOther => s
      | .udp src dport dq first sq ce bytes =>
        if dport = s.f F.TP_BRAID_BRAID_UDP ∨ dport = 4791 then s.transportPacket h.port src.toNat dport dq first sq ce bytes else drop

end State

/-! The meanings. -/

def execHostFrameReceive (f : HostFrame) (s : State) : Host.Outcome State Fault Refusal := .next (s.doHostFrame f)

/-- HOST_RELAY (R80, R388): a frame that a port of this device has received is checked and goes to its home device; one that has come over
the cascade with the DURABLE_EN bit of its port is taken as if received, with no check. -/
def execHostRelay (f : HostFrame) (relayed : Option Bool) (s : State) : Host.Outcome State Fault Refusal :=
  .next (match relayed, f.payload with
    | none, _ => s.doHostFrame f
    | some _, .udp src dport dq first sq ce bytes => s.transportPacket f.port src.toNat dport dq first sq ce bytes
    | some _, _ => s)

/-- BRAID_WRITE (R84). -/
def execBraidWrite (h : BraidHdr) (data : List Byte) (s : State) : Host.Outcome State Fault Refusal :=
  .next (s.braidPacket h Pkt.write (fun s _ => s) fun s q =>
    s.braidFirst q h Pkt.write h.msgLen h.msgLen .write 0 0 fun s m => s.placeWrite q m h.pktOff data)
/-- BRAID_READ_REQ (R83): the payload is the reader's address and key, each little-endian (R3). -/
def execBraidReadReq (h : BraidHdr) (raddr rkey : List Byte) (s : State) : Host.Outcome State Fault Refusal :=
  .next (s.doReadReq h (raddr ++ rkey))
def execBraidCapsule (h : BraidHdr) (data : List Byte) (s : State) : Host.Outcome State Fault Refusal :=
  .next (s.doBraidCapsule h data)
/-- BRAID_ATOMIC (R83): the payload is two operands and the operation, each little-endian (R3). -/
def execBraidAtomic (h : BraidHdr) (a b op : List Byte) (s : State) : Host.Outcome State Fault Refusal :=
  .next (s.doBraidAtomic h (a ++ b ++ op))
/-- A control frame with a bad VER or BCRC is dropped and counted (R82, R86, R88); else its recipient takes it. -/
def State.onCtl (s : State) (c : CtlHdr) (k : Nat → State) : State :=
  if !c.crcOk || c.ver != 1 then s.discard
  else match s.homed c.rq with
    | some q => k q
    | none => s
def execBraidSack (c : CtlHdr) (cum : Nat) (bitmap : U64) (tsEcho nowUs : Nat) (s : State) : Host.Outcome State Fault Refusal :=
  .next (s.onCtl c fun q => s.doSack q cum bitmap tsEcho nowUs)
def execBraidEcho (f : EchoFrame) (nowUs : Nat) (s : State) : Host.Outcome State Fault Refusal :=
  .next (s.onCtl f.hdr fun _ => s.doEcho f.dest nowUs)
def execBraidRnr (c : CtlHdr) (msn retryUs : Nat) (s : State) : Host.Outcome State Fault Refusal :=
  .next (s.onCtl c fun q => s.doRnr q msn retryUs)
/-- SACK_TIMER (R87). -/
def execSackTimer (dq : Nat) (s : State) : Host.Outcome State Fault Refusal :=
  .next (match s.homed dq with
    | some q => if (match s.queue? q with
        | some x => decide (0 < x.sinceSack)
        | none => false) then s.sendSack q else s
    | none => s)
def execRetransmitTimeout (dq psn nowUs : Nat) (s : State) : Host.Outcome State Fault Refusal :=
  .next (match s.homed dq with
    | some q => s.doRetransmit q psn nowUs
    | none => s)
/-- PATH_HOLDOFF_EXPIRY (R89). -/
def execPathHoldoffExpiry (dq path : Nat) (s : State) : Host.Outcome State Fault Refusal :=
  .next (match s.homed dq with
    | some q => s.onQueue q fun x => { x with paths := x.paths.modify path fun p => { p with held := false } }
    | none => s)
/-- RATE_RISE_TIMER (R100). -/
def execRateRiseTimer (s : State) : Host.Outcome State Fault Refusal :=
  .next (if s.flag F.TP_CC2_CC_EN then { s with rates := s.rates.map s.rise } else s)
/-- RATE_CONTEXT_FREE (R100). -/
def execRateContextFree (dest : Nat) (s : State) : Host.Outcome State Fault Refusal :=
  .next { s with rates := s.rates.filter fun d => !(d.dest == dest && decide ((d.line : Rat) ≤ d.rate)) }
def execCompatSend (h : RoceHdr) (data : List Byte) (s : State) : Host.Outcome State Fault Refusal := .next (s.doCompatSend h data)
def execCompatRdmaWrite (h : RoceHdr) (data : List Byte) (s : State) : Host.Outcome State Fault Refusal :=
  .next (s.doRdmaWrite h data)
def execCompatRdmaRead (h : RoceHdr) (s : State) : Host.Outcome State Fault Refusal := .next (s.doRdmaRead h)
def execCompatCompareSwap (h : RoceHdr) (cmp swp : U64) (s : State) : Host.Outcome State Fault Refusal :=
  .next (s.doRoceAtomic h .compare cmp swp)
def execCompatFetchAdd (h : RoceHdr) (add : U64) (s : State) : Host.Outcome State Fault Refusal :=
  .next (s.doRoceAtomic h .fetchAdd add 0)
/-- COMPAT_ACK (R92): it covers every packet up to its PSN. -/
def execCompatAck (dq psn : Nat) (s : State) : Host.Outcome State Fault Refusal :=
  .next (match s.homed dq with
    | some q => if s.isBraid q then s else s.acked q fun p => decide (State.psnAfter 24 psn p.psn < 2 ^ 23)
    | none => s)
/-- COMPAT_NAK (R143 cause 4). -/
def execCompatNak (dq : Nat) (s : State) : Host.Outcome State Fault Refusal :=
  .next (match s.homed dq with
    | some q => if s.isBraid q then s else s.errorQueue q 4
    | none => s)
/-- COMPAT_ACK_TIMEOUT (R143): the device's own requests are sent again from the oldest, or the queue enters ERROR; there the writes of
completion entries go on until the queue is FREE. -/
def execCompatAckTimeout (dq : Nat) (s : State) : Host.Outcome State Fault Refusal :=
  .next (match s.homed dq with
    | some q => match s.queue? q with
      | none => s
      | some x =>
        if s.isBraid q ∨ x.tx.isEmpty then s
        else
          let past := x.tx.any fun p => decide (s.f F.TP_COMPAT_COMPAT_RETRY < p.tries)
          let s := if past then s.errorQueue q 4 else s
          let go := x.tx.filter fun p => !past || p.entry
          let tried (p : TxPkt) : TxPkt := if go.any (fun y => y.psn == p.psn) then { p with tries := p.tries + 1 } else p
          let s := s.onQueue q fun x => { x with tx := x.tx.map tried }
          (go.foldl (fun t p => t.sendRaw q p.msg) s).bump F.TP_TX_STAT_RETX_PKTS 0 go.length
    | none => s)
def execCnp (dest nowUs : Nat) (s : State) : Host.Outcome State Fault Refusal := .next (s.doEcho dest nowUs)
/-- PFC_PAUSE (R95, R109): counted; honoured on PFC_PRIO with PFC_EN set. -/
def execPfcPause (port prio : Nat) (on : Bool) (s : State) : Host.Outcome State Fault Refusal :=
  .next (if !s.portServes port then s
    else
      let s := s.bump F.LNK_PAUSE_PAUSE_RX (port / 8)
      if s.flag F.LNK_CTL_PFC_EN (port / 8) ∧ prio = s.f F.LNK_CTL_PFC_PRIO (port / 8) then (s.setPortBit F.LNK_STATUS_PORT_PAUSED port on).sendPaused
      else s)
/-- PAUSE_LONG (R107). -/
def execPauseLong (port : Nat) (s : State) : Host.Outcome State Fault Refusal :=
  .next (if s.portBit F.LNK_STATUS_PORT_PAUSED port then s.event 0x0105 [port / 8, port % 8] else s)
def execContextFetchComplete (q : Nat) (s : State) : Host.Outcome State Fault Refusal := .next (s.doFetchComplete q)
def execEddyParkTimeout (q : Nat) (s : State) : Host.Outcome State Fault Refusal := .next (s.doParkTimeout q)

end Sys2Proof.Machine
end

