-- ==== Sys2Proof/Machine/Links.lean ====
section
/-! DEFINITION. The link layer's lanes and ports (R75 to R78, R107, R109), the revocation of regions and the removal of mappings
(R24 to R29), and the reads that clear and the zeroing of the pools (R110, R257, R265). -/

namespace Sys2Proof.Machine

namespace State

/-- The port of a lane's place in its octet (R78). -/
def lanePort (s : State) (octet lane : Nat) : Nat := lane % 8 / (8 / s.portCount octet)

/-- A host port goes down (R107): its link and its pauses end. -/
def portDown (s : State) (octet port reason : Nat) : State :=
  if bit (s.f F.LNK_STATUS_PORT_UP octet) port then
    ((((s.setBitF F.LNK_STATUS_PORT_UP octet port false).setBitF F.LNK_STATUS_PORT_PAUSED octet port false).setBitF
      F.LNK_STATUS_EDDY_XOFF octet port false).dropPaused (8 * octet + port)).event 0x0102 [octet, port, reason]
  else s

/-- The twin link is up again: a pair whose order still stands goes on from the replay buffer (R52); otherwise both sides begin with all
their credits. What waits goes. -/
def linkAgain (s : State) : State :=
  let s := if s.inOrder then s.twin.replay.foldl (fun (t : State) e => t.emit e.2.2.2) s
    else s.onTwin fun x => { x with credits := Twin.credits0, owed := [0, 0, 0, 0], seqIn := [none, none, none, none], replay := [] }
  (List.range 4).foldl linkFlow s

/-- All lanes of a twin octet hold lock: it carries the twin link again (R48, R77). -/
def twinOctetUp (s : State) (octet : Nat) : State :=
  if s.f F.LNK_CTL_ROLE octet = 2 ∧ s.f F.LNK_STATUS_LANE_LOCK octet = 0xFF ∧ s.twin.octetsDown.contains octet then
    let was := s.twin.linkDown
    let s := s.onTwin fun x => { x with octetsDown := x.octetsDown.filter (· != octet), linkDown := false }
    let s := s.setF F.TWIN_STATUS_HALF_LINK (b2n (s.twinOctets.any s.twin.octetsDown.contains))
    if was then s.linkAgain else s
  else s

/-- Drop the bits of a mask from the staged values of a word (R109). -/
def unstageBits (s : State) (key mask : Nat) : State :=
  let drop (v : U64) : U64 := v &&& ~~~(BitVec.ofNat 64 mask)
  let fix (g : List Staged) : List Staged := g.map fun x => if x.key = key ∧ x.dev = some s.index then { x with v := drop x.v } else x
  let fixG (g : Group) : Group := { g with words := g.words.map fun w => if w.1 = key then (w.1, drop w.2) else w }
  { s with stage := { s.stage with opened := s.stage.opened.map fix, closing := s.stage.closing.map fix,
                                   groups := s.stage.groups.map fixG } }

/-- PORT_OFF for one port (R109): it stops at once, its enables clear, staged ones too. -/
def portOffOne (s : State) (octet port : Nat) : State :=
  let s := ((s.portDown octet port 1).setBitF F.LNK_CTL_PORT_EN octet port false).setBitF F.LNK_CTL_DURABLE_EN octet port false
  s.unstageBits (F.LNK_CTL_PORT_EN.key octet 0) (2 ^ (48 + port) + 2 ^ (40 + port))

/-- DUR_ANY shows whether any port has DURABLE_EN (R212). -/
def durSync (s : State) : State :=
  s.setF F.MGW_STATUS_DUR_ANY (b2n ((List.range 12).any fun o => s.flag F.LNK_CTL_DURABLE_EN o))

/-- PORT_OFF of an octet: the ports of a mask (R109). -/
def portOffOp (s : State) (octet mask : Nat) : State :=
  ((bitsOf 8 mask).foldl (fun (t : State) p => t.portOffOne octet p) s).durSync

/-- Set a region REVOKING on this device (R24, R25). -/
def markRevoked (s : State) (r : Nat) : State :=
  if s.f F.REG_STATE_REVOKE_STATE r = 0 then s.setF F.REG_STATE_REVOKE_STATE 1 r else s

/-- REVOKE = 1 on a record (R24): none if it is refused with code 3. -/
def revokeOp (s : State) (r : Nat) : Option State :=
  if !s.regionValid r then none
  else if s.f F.REG_STATE_REVOKE_STATE r = 0 then some ((s.markRevoked r).notice 255 1 [r])
  else some s

/-- A handle is bound to a region; it was bound under a mapping. -/
def handleOn (x : Handle) (r : Nat) : Bool := match x with
  | .region _ g _ _ _ _ _ => g == r
  | .stream _ g _ => g == r
  | _ => false
def handleUnder (x : Handle) (dom : Nat) (maps : List Nat) : Bool := match x with
  | .region (some (d, m)) _ _ _ _ _ _ | .stream (some (d, m)) _ _ => d == dom && maps.contains m
  | _ => false

/-- An access part that passed check 5 for a region has not completed on this device (R26, R27). -/
def partRuns (p : Part) (r : Nat) : Bool :=
  p.region == r && (match p.st with
    | .heldRead | .heldSeal | .heldFull | .heldHeal _ | .admitted => true
    | .waiting => p.passed
    | _ => false)

/-- Nothing that passed its check before the mark is left on this device (R27): no part, no program with a handle on the region,
nothing applied and not settled. -/
def regionDrained (s : State) (r : Nat) : Bool :=
  !(s.parts.any fun e => partRuns e.2 r) &&
  !(s.eng.threads.any fun e => e.2.h.toList.any fun x => handleOn x r) &&
  !(s.queuedInvs.any fun i => handleOn i.h0 r) &&
  !(s.dram.unsettled.any fun u => s.regionOfGran u.gran == some r)

/-- Nothing checked under the removed mappings of a domain is left on this device (R29). -/
def mappingsDrained (s : State) (dom : Nat) : Bool :=
  let maps := s.drains.get [] dom
  let under (q : Nat) (t : Option Tgt) : Bool := s.qDomain q == dom && (match t with
    | some x => maps.contains x.map
    | none => false)
  !(s.queues.any fun e => (e.2.cmds.any fun c => c.outcome.isNone && under e.1 c.tgt) ||
      (e.2.msgs.any fun m => !m.closed && under e.1 m.tgt)) &&
  !(s.eng.threads.any fun e => e.2.h.toList.any fun x => handleUnder x dom maps) &&
  !(s.queuedInvs.any fun i => handleUnder i.h0 dom maps)

end State

open State

/-- LANE_LOCK (R77). -/
def execLaneLock (lane : Nat) (s : State) : Host.Outcome State Fault Refusal :=
  .next (if 96 ≤ lane ∨ s.f F.LNK_CTL_ROLE (lane / 8) = 0 ∨ (s.f F.LNK_CTL_ROLE (lane / 8) = 2 ∧ s.twinOn = false) then s
    else (s.setBitF F.LNK_STATUS_LANE_LOCK (lane / 8) (lane % 8) true).twinOctetUp (lane / 8))

/-- LANE_LOCK_LOSS (R107). -/
def execLaneLockLoss (lane : Nat) (s : State) : Host.Outcome State Fault Refusal :=
  .next (if 96 ≤ lane ∨ bit (s.f F.LNK_STATUS_LANE_LOCK (lane / 8)) (lane % 8) = false then s
    else
      let s := (s.setBitF F.LNK_STATUS_LANE_LOCK (lane / 8) (lane % 8) false).event 0x0103 [lane]
      if s.f F.LNK_CTL_ROLE (lane / 8) = 1 then s.portDown (lane / 8) (s.lanePort (lane / 8) lane) 0 else s)

/-- PORT_LINK_UP (R78, R107): its octet is ready, all eight lanes hold lock (R77). -/
def execPortLinkUp (octet port : Nat) (s : State) : Host.Outcome State Fault Refusal :=
  .next (if 12 ≤ octet ∨ s.f F.LNK_CTL_ROLE octet ≠ 1 ∨ s.f F.LNK_STATUS_LANE_LOCK octet ≠ 0xFF ∨ s.portCount octet ≤ port ∨
      bit (s.f F.LNK_CTL_PORT_EN octet) port = false ∨ bit (s.f F.LNK_STATUS_PORT_UP octet) port then s
    else (s.setBitF F.LNK_STATUS_PORT_UP octet port true).event 0x0101 [octet, port, 1600 / s.portCount octet])

/-- PORT_LINK_DOWN (R107): a port that is up loses its link, or a port that is enabled fails training. -/
def execPortLinkDown (octet port reason : Nat) (s : State) : Host.Outcome State Fault Refusal :=
  .next (if 12 ≤ octet ∨ 8 ≤ port ∨ s.f F.LNK_CTL_ROLE octet ≠ 1 then s
    else if bit (s.f F.LNK_STATUS_PORT_UP octet) port then s.portDown octet port reason
    else if reason = 2 ∧ bit (s.f F.LNK_CTL_PORT_EN octet) port then s.event 0x0102 [octet, port, 2]
    else s)

/-- PORT_OFF (R109). -/
def execPortOff (octet : Nat) (mask : BitVec 8) (s : State) : Host.Outcome State Fault Refusal :=
  .next (if 12 ≤ octet then s else s.portOffOp octet mask.toNat)

/-- REVOKE (R24). -/
def execRevoke (region : Nat) (s : State) : Host.Outcome State Fault Refusal :=
  .next ((s.revokeOp region).getD s)

/-- REVOCATION_MARK (R25). -/
def execRevocationMark (region : Nat) (s : State) : Host.Outcome State Fault Refusal := .next (s.markRevoked region)

/-- REVOKE_DRAIN_COMPLETE (R27): the other holding devices' accesses are theirs; this device's own must be complete. -/
def execRevokeDrainComplete (region : Nat) (s : State) : Host.Outcome State Fault Refusal :=
  .next (if s.f F.REG_STATE_REVOKE_STATE region = 1 ∧ s.regionDrained region then s.setF F.REG_STATE_REVOKE_STATE 2 region else s)

/-- MAPPING_DRAIN_COMPLETE (R29). -/
def execMappingDrainComplete (dom : Nat) (s : State) : Host.Outcome State Fault Refusal :=
  .next (if s.flag F.DOM_CTL_DRAIN_PENDING dom ∧ s.mappingsDrained dom then
    { s with drains := s.drains.del dom }.setF F.DOM_CTL_DRAIN_PENDING 0 dom else s)

/-- EDDY_PEAK_READ (R110). -/
def execEddyPeakRead (s : State) : Host.Outcome State Fault Refusal :=
  .next ((s.readback [F.TP_QUEUE_STAT_EDDY_PEAK.key 0 0, (s.word (F.TP_QUEUE_STAT_EDDY_PEAK.key 0 0)).toNat]).setF
    F.TP_QUEUE_STAT_EDDY_PEAK 0)

/-- LOW_FREE_READ (R265). -/
def execLowFreeRead (pool : Nat) (s : State) : Host.Outcome State Fault Refusal :=
  .next (if 16 ≤ pool then s
    else (s.readback [F.POOL_STATUS_LOW_FREE.key pool 0, (s.word (F.POOL_STATUS_LOW_FREE.key pool 0)).toNat]).setF
      F.POOL_STATUS_LOW_FREE (s.poolFree pool) pool)

/-- ZEROING_DONE (R257): the buffer is free again. -/
def execZeroingDone (pool idx : Nat) (s : State) : Host.Outcome State Fault Refusal :=
  let h := pool * 2 ^ 20 + idx
  .next (match s.buf? h with
    | some b => if b.st = .zeroing then { s with bufs := s.bufs.del h }.poolDrained pool else s
    | none => s)

end Sys2Proof.Machine
end

