-- ==== Sys2Proof/Machine/Dram.lean ====
section
/-! DEFINITION. The DRAM channels (R302 to R319): line ECC and erasure marks, the patrol scrub, the client ports and the choice
of a command slot, refresh, calibration and power-down. The contents of a line as the fabric sees them are `Dram.mem` already
when a write is applied; a request at a controller carries the line it moves and changes only when it moves. -/

namespace Sys2Proof.Machine

/-- A channel with nothing queued, every rank awake. -/
def Chan.empty : Chan := ⟨[], [], [], [], [], [], [], [], false, 0, false, false, 0, false, false, none, 0, []⟩

namespace State

def chan (s : State) (c : Nat) : Chan := s.chans.get .empty c
def onChan (s : State) (c : Nat) (f : Chan → Chan) : State := { s with chans := s.chans.put c (f (s.chan c)) }
/-- A channel in use (R315). -/
def trained (s : State) (c : Nat) : Bool := decide (c < 16) && s.flag F.CH_STATUS_TRAINED c
/-- The number of a rank of a channel. -/
def rankNo (sub rank : Nat) : Nat := sub * 8 + rank

/-! Corrections and lost lines (R302 to R307). -/

/-- The module of a channel that a rank belongs to (R302). -/
def moduleOf (s : State) (c rank : Nat) : Nat :=
  rank / Nat.max 1 (s.f F.CH_STATUS_RANKS c / Nat.max 1 (s.f F.DRM_CTL_MODS_PER_CH))
/-- The health item of a module whose rank has an erasure mark is REACHED (R436). -/
def markedItem (s : State) (c rank : Nat) : State :=
  let i := 17 + 2 * c + s.moduleOf c rank
  let old := s.f F.HL_STATE_STATE i
  let s := (s.setF F.HL_STATE_STATE 4 i).setF F.HL_STATE_REMAIN_PCT 0 i
  let s := ((s.setF F.HL_EOL_EOL_DAYS 0 i).setF F.HL_EOL_EARLY_DAYS 0 i).setF F.HL_EOL_LATE_DAYS 0 i
  if old = 4 then s else s.event 0x0F07 [i, 4, 0]
/-- Count a correction at a device position (R303, R304, R436). -/
def corrected (s : State) (c sub rank pos : Nat) : State :=
  let s := (s.bump F.CH_ECC_CORR c).reachEvent 0x0802 c [c]
  let item := 17 + 2 * c + s.moduleOf c rank
  let s := { s with recd := { s.recd with lines := s.recd.lines.put item (s.recd.lines.get 0 item + 1) } }
  let k := rankNo sub rank * 16 + pos
  let n := (s.chan c).hits.get 0 k + 1
  let s := s.onChan c fun x => { x with hits := x.hits.put k n }
  if n < s.f F.DRM_ECC_ERASE_THRESH ∨ (s.chan c).reached.contains k then s
  else
    let s := s.onChan c fun x => { x with reached := k :: x.reached }
    let held := if sub = 0 then s.flag F.CH_ERASE_EVALID0 c else s.flag F.CH_ERASE_EVALID1 c
    let s := s.event 0x0804 [c, sub <<< 12 ||| rank <<< 8 ||| pos <<< 4 ||| b2n (!held)]
    if held then s
    else if sub = 0 then
      (((s.setF F.CH_ERASE_EVALID0 1 c).setF F.CH_ERASE_ERANK0 rank c).setF F.CH_ERASE_EPOS0 pos c).markedItem c rank
    else (((s.setF F.CH_ERASE_EVALID1 1 c).setF F.CH_ERASE_ERANK1 rank c).setF F.CH_ERASE_EPOS1 pos c).markedItem c rank

/-- The erasure mark of a subchannel: its rank and position (R304). -/
def erasure (s : State) (c sub : Nat) : Option (Nat × Nat) :=
  if sub = 0 then (if s.flag F.CH_ERASE_EVALID0 c then some (s.f F.CH_ERASE_ERANK0 c, s.f F.CH_ERASE_EPOS0 c) else none)
  else if s.flag F.CH_ERASE_EVALID1 c then some (s.f F.CH_ERASE_ERANK1 c, s.f F.CH_ERASE_EPOS1 c) else none
/-- What a rank's decoder makes of a line (R302, R304): with a position erased, an error at another one is detected, not corrected. -/
def decoded (s : State) (c sub rank : Nat) : EccResult → EccResult
  | .corrected pos => match s.erasure c sub with
    | some (r, p) => if r = rank ∧ p ≠ pos then .uncorrectable else .corrected pos
    | none => .corrected pos
  | e => e

/-- A line that reads as poisoned, by the class of its region (R41, R42, R240, R293): a durable one is healed from a cached copy
or asked of the twin, a stream's tile is not resident, a volatile one stays as it is. -/
def lostLine (s : State) (line : Nat) : State :=
  match s.regionOfGran (line / 1024) with
  | none => s
  | some r =>
    if s.isDurable r then
      let s := s.healFromCache line
      if s.isPoisoned line then s.askHeal line else s
    else if s.regionClass r = Cls.stream then s.tileLost line
    else s

/-- An uncorrectable line is rewritten poisoned (R305). -/
def uncorrectable (s : State) (c line source : Nat) : State :=
  (((s.bump F.CH_ECC_UNCORR c).event 0x0803 ([c] ++ w64 (64 * line) ++ [source])).setPoison line).lostLine line

/-! The command slot (R308 to R310). -/

/-- A port's target in ns (R308, R319). -/
def portNs (s : State) (port : Nat) : Nat :=
  if port % 2 = 0 then s.f F.DRM_TARGET_TARGET_A 0 (port / 2) else s.f F.DRM_TARGET_TARGET_B 0 (port / 2)

/-- The urgency level of a request by its age; while a save runs, a save request is at level 3 (R308). The device's own
write-backs have no target. -/
def level (s : State) (q : DReq) : Nat :=
  if q.port ≥ 7 then 0
  else if q.port = 6 ∧ s.flash.run.isSome then 3
  else
    let t := s.portNs q.port
    if q.age ≥ t then 3 else if 4 * q.age ≥ 3 * t then 2 else if 2 * q.age ≥ t then 1 else 0

/-- Count a request once when it reaches level 3. -/
def countLate (s : State) (q : DReq) : State :=
  if q.late ∨ s.level q < 3 then s
  else
    let s := if q.port % 2 = 0 then s.bump F.DRM_LATE_LATE_A 0 1 (q.port / 2) else s.bump F.DRM_LATE_LATE_B 0 1 (q.port / 2)
    s.reachEvent 0x0808 q.port [q.port]
def markLate (s : State) (q : DReq) : DReq := { q with late := q.late || decide (3 ≤ s.level q) }

/-- A request's level with those that wait behind it for its line (R310), of the requests `rs`, oldest first. -/
def raised (s : State) (rs : List DReq) (q : DReq) : Nat :=
  ((rs.dropWhile fun x => x.id != q.id).filter fun x => x.line == q.line).foldl (fun n x => Nat.max n (s.level x)) (s.level q)
/-- No older request to its line waits (R310). -/
def frontOfLine (rs : List DReq) (q : DReq) : Bool := (rs.find? fun x => x.line == q.line).map (·.id) == some q.id

/-- The write batch after R309's fourth point. -/
def batchAfter (s : State) (now : Nat) (rs : List DReq) : Nat :=
  let rds := rs.filter fun q => !q.isWrite
  let wrs := rs.filter fun q => q.isWrite
  let top (l : List DReq) := l.foldl (fun n q => Nat.max n (s.raised rs q)) 0
  let r := top rds
  let w := top wrs
  let kept :=
    if now = 0 then 0
    else if 2 ≤ r then 0
    else if now = 1 then (if wrs.length ≤ 16 then 0 else 1)
    else if wrs.isEmpty ∨ (!rds.isEmpty ∧ w = 0) then 0 else 2
  if kept ≠ 0 then kept
  else if 2 ≤ r ∧ w ≤ r then 0
  else if 48 ≤ wrs.length then 1
  else if 1 ≤ w then 2
  else if !wrs.isEmpty ∧ rds.isEmpty then 2
  else 0

/-- The first of the highest level; at level 0 a request to an open row before the others. -/
def pick (s : State) (c : Nat) (rs pool : List DReq) : Option DReq :=
  let ok := pool.filter (frontOfLine rs)
  let top := ok.foldl (fun n q => Nat.max n (s.raised rs q)) 0
  let best := ok.filter fun q => s.raised rs q == top
  if top = 0 then
    match best.find? fun q => (s.chan c).rows.at? (rankNo q.sub q.rank) == some q.row with
    | some q => some q
    | none => best.head?
  else best.head?

/-- One command slot of a subchannel (R309): its requests age, and one issues unless a command of the refresh goes first or the
channel is throttled and skips it. -/
def slotTurn (s : State) (c sub ageNs : Nat) : State :=
  let older (q : DReq) : DReq := if q.sub = sub then { q with age := q.age + ageNs } else q
  let s := s.onChan c fun x => { x with reqs := x.reqs.map older }
  let s := (s.chan c).reqs.foldl countLate s
  let s := s.onChan c fun x => { x with reqs := x.reqs.map s.markLate }
  let x := s.chan c
  if x.calRun = 1 ∨ x.zqRun then s
  else if s.flag F.CH_STATUS_THROTTLED c ∧ x.skip.contains sub then
    s.onChan c fun x => { x with skip := x.skip.filter (· != sub) }
  else
    let rs := x.reqs.filter fun q => q.sub == sub
    let rds := rs.filter fun q => !q.isWrite
    let wrs := rs.filter fun q => q.isWrite
    let b := s.batchAfter (x.batch.get 0 sub) rs
    let s := s.onChan c fun x => { x with batch := x.batch.set 0 sub b }
    let chosen : Option DReq := match s.pick c rs (if b = 0 then rds else wrs) with
      | some q => some q
      | none => s.pick c rs rs
    match chosen with
    | none => s
    | some q => (if q.port < 7 then s.histAdd (3 + q.port) q.age else s).onChan c fun x =>
      { x with reqs := x.reqs.filter fun y => y.id != q.id
               issued := if q.isWrite then x.issued else x.issued ++ [(q, false)]
               rows := x.rows.put (rankNo q.sub q.rank) q.row
               skip := if s.flag F.CH_STATUS_THROTTLED c then sub :: x.skip else x.skip }

/-- A request joins a channel (R308, R310): it wakes its rank; a read of a line whose write is queued is served from the newest
such data; the write queue of a subchannel holds 64. -/
def enqueue (s : State) (c : Nat) (q : DReq) : State :=
  let x := s.chan c
  let w := x.reqs.filter fun y => y.isWrite && y.line == q.line
  if q.isWrite ∧ 64 ≤ (x.reqs.filter fun y => y.isWrite && y.sub == q.sub).length then s
  else match q.isWrite, w.getLast? with
    | false, some y => s.onChan c fun x => { x with last := some (q.id, y.data) }
    | _, _ =>
      let mark (e : DReq × Bool) : DReq × Bool := if q.isWrite ∧ q.port < 7 ∧ e.1.line = q.line then (e.1, true) else e
      s.onChan c fun x => { x with reqs := x.reqs ++ [q], issued := x.issued.map mark
                                   asleep := x.asleep.filter (· != rankNo q.sub q.rank) }

/-- Read data arrive (R302 to R305): the line is delivered; a corrected one is written back unless a client write to it has
entered the queue since. -/
def readData (s : State) (c : Nat) (e : DReq × Bool) (ecc : EccResult) : State :=
  let q := e.1
  let data := s.readDram (64 * q.line) 64
  let s := s.onChan c fun x => { x with issued := x.issued.filter fun y => y.1.id != q.id, last := some (q.id, data) }
  match s.decoded c q.sub q.rank ecc with
  | .clean => s
  | .corrected pos =>
    let s := s.corrected c q.sub q.rank pos
    if e.2 then s else s.enqueue c { q with port := 7, isWrite := true, data := data, age := 0, late := false }
  | .uncorrectable => s.uncorrectable c q.line (if q.port = 3 ∨ q.port = 6 then 2 else 0)
  | .poisonMark => s.lostLine q.line

/-! Refresh, temperature and calibration (R311 to R317). -/

/-- HOT and THROTTLED follow the reports, and a change posts its event (R312). -/
def heatUpdate (s : State) (c : Nat) : State :=
  let x := s.chan c
  let failed := x.temps.any fun e => e.2.isNone
  let hot := x.mr4Hot || failed
  let thr := x.tooHot || failed
  let s := if hot = s.flag F.CH_STATUS_HOT c then s else (s.setF F.CH_STATUS_HOT (b2n hot) c).event 0x0806 [c, b2n hot]
  if thr = s.flag F.CH_STATUS_THROTTLED c then s
  else (s.setF F.CH_STATUS_THROTTLED (b2n thr) c).event 0x0807 [c, b2n thr, s.f F.CH_STATUS_TEMP_C c]

/-- The refresh of a channel (R311, R314, R316): all ranks wake and close their rows; mode register 4 is read at every 32nd. -/
def refreshTurn (s : State) (c : Nat) (hot : Option Bool) : State :=
  let s := s.bump F.CH_REFRESH_REFRESHES c
  let n := s.f F.CH_REFRESH_REFRESHES c
  let calNow := (s.chan c).calDue || n % s.f F.DRM_CAL_CAL_EVERY == 0
  let zqStart := n % s.f F.DRM_CAL_ZQ_EVERY == 0
  let s := s.onChan c fun x =>
    { x with rows := [], asleep := [], zqRun := x.zqDue, zqDue := zqStart
             calDue := calNow && x.zqDue, calRun := b2n (calNow && !x.zqDue) }
  match hot with
  | none => s
  | some b =>
    if n % 32 ≠ 0 then s
    else if b then (s.onChan c fun x => { x with mr4Hot := true, normals := 0 }).heatUpdate c
    else (s.onChan c fun x => { x with mr4Hot := x.mr4Hot && x.normals == 0, normals := x.normals + 1 }).heatUpdate c

/-- A module's temperature (R312, R441). -/
def sensorRead (s : State) (c m : Nat) (temp : Option Nat) : State :=
  let s := s.onChan c fun x => { x with temps := x.temps.put m temp }
  let temps := (s.chan c).temps.vals
  let limit := s.f F.DRM_CAL_THROTTLE_C
  let s := match temp with
    | some v => (s.setF F.CH_STATUS_TEMP_C ((temps.filterMap id).foldl Nat.max 0) c).extreme (1 + 2 * c + m) v
    | none => s.event 0x080A [c, m]
  let above := temps.any fun t => match t with
    | some v => decide (limit ≤ v)
    | none => false
  let cool := temps.all fun t => match t with
    | some v => decide (v + 5 ≤ limit)
    | none => false
  (s.onChan c fun x => { x with tooHot := above || (x.tooHot && !cool) }).heatUpdate c

/-- A drift correction of one lane in a calibration refresh (R316, R317). -/
def calibrate (s : State) (c sub lane : Nat) (drift : Int) : State :=
  let lim : Int := s.f F.DRM_CAL_CAL_LIMIT
  let d := if drift > lim then lim else if drift < -lim then -lim else drift
  let s := if d = drift then s
    else s.event 0x0805 [c, sub, lane, (BitVec.ofInt 32 drift).toNat]
  let first := (s.chan c).calRun == 1
  let s := if first then s.bump F.CH_CAL_CAL_RUNS c else s
  let last := (BitVec.ofNat 16 (s.f F.CH_CAL_LAST_DRIFT_PS c)).toInt
  let s := if first ∨ last.natAbs < d.natAbs then s.setF F.CH_CAL_LAST_DRIFT_PS (BitVec.ofInt 16 d).toNat c else s
  let s := if s.f F.CH_CAL_MAX_DRIFT_PS c < d.natAbs then s.setF F.CH_CAL_MAX_DRIFT_PS d.natAbs c else s
  s.onChan c fun x => { x with calRun := 2 }

/-! Patrol scrub (R307). -/

/-- Lines of all modules, and the populated channels. -/
def moduleLines (s : State) : Nat := (s.f F.DRM_CAP_CAP_GIB + 4) * 2 ^ 24
def chanCount (s : State) : Nat := if s.f F.DRM_CTL_CH_MASK = 0xFF then 8 else 16

/-- A scrub read is done: the channel's progress, and the end of the pass. -/
def scrubNext (s : State) (c uncorr : Nat) : State :=
  let s := s.onChan c fun x => { x with scrubbed := x.scrubbed + 1 }
  let s := s.setF F.CH_SCRUB_PROGRESS (Nat.min 100 ((s.chan c).scrubbed * s.chanCount * 100 / s.moduleLines)) c
  let s := { s with scrub := (s.scrub.1 + 1, s.scrub.2 + uncorr) }
  if s.scrub.1 < s.moduleLines then s
  else
    let corr := ((List.range 16).map fun i => s.f F.CH_SCRUB_SCRUB_CORR i).foldl (· + ·) 0
    let s := (s.event 0x0809 (w64 s.scrub.1 ++ [corr, s.scrub.2])).bump F.DRM_ECC_SCRUB_PASSES
    let s := (List.range 16).foldl (fun (t : State) i =>
      ((t.setF F.CH_SCRUB_PROGRESS 0 i).setF F.CH_SCRUB_SCRUB_CORR 0 i)) s
    { s with scrub := (0, 0), chans := s.chans.map fun (e : Nat × Chan) => (e.1, { e.2 with scrubbed := 0 }) }

/-- What a scrub read finds (R307): in the reserved area a line is rewritten from its other copy, unless that is lost too. -/
def scrubFind (s : State) (c line sub rank : Nat) (ecc : EccResult) (otherLost : Bool) : State :=
  let reserved := decide (s.f F.DRM_CAP_CAP_GIB * 2 ^ 24 ≤ line)
  match s.decoded c sub rank ecc with
  | .clean => s
  | .corrected pos => (s.corrected c sub rank pos).bump F.CH_SCRUB_SCRUB_CORR c
  | .uncorrectable =>
    if !reserved then s.uncorrectable c line 1
    else
      let s := (s.bump F.CH_ECC_UNCORR c).event 0x0803 ([c] ++ w64 (64 * line) ++ [1])
      if otherLost then { s with tablesLost := line :: s.tablesLost }.event 0x080B [c, sub] else s
  | .poisonMark => if reserved then s else s.lostLine line

end State

open State

/-- REFRESH (R311, R312). -/
def execRefresh (chan : Nat) (hotReported : Option Bool) (s : State) : Host.Outcome State Fault Refusal :=
  .next (if s.trained chan then s.refreshTurn chan hotReported else s)

/-- CALIBRATION_REFRESH (R316, R317): the correction of a lane in the calibration refresh under way. -/
def execCalibrationRefresh (chan sub lane : Nat) (driftPs : Int) (s : State) : Host.Outcome State Fault Refusal :=
  .next (if s.trained chan ∧ (s.chan chan).calRun ≠ 0 then s.calibrate chan sub lane driftPs else s)

/-- ZQ_LATCH_REFRESH (R316, R319). -/
def execZqLatchRefresh (chan : Nat) (s : State) : Host.Outcome State Fault Refusal :=
  .next (if s.trained chan ∧ (s.chan chan).zqRun then
    (s.bump F.CH_REFRESH_ZQ_RUNS chan).onChan chan fun x => { x with zqRun := false } else s)

/-- ZQ_RUNS_READ (R319). -/
def execZqRunsRead (chan : Nat) (s : State) : Host.Outcome State Fault Refusal :=
  .next (if 16 ≤ chan then s
    else (s.readback [F.CH_REFRESH_ZQ_RUNS.key chan 0, (s.word (F.CH_REFRESH_ZQ_RUNS.key chan 0)).toNat]).setF
      F.CH_REFRESH_ZQ_RUNS 0 chan)

/-- MODULE_SENSOR_READ (R312). -/
def execModuleSensorRead (chan module : Nat) (temp : Option Nat) (s : State) : Host.Outcome State Fault Refusal :=
  .next (if s.trained chan ∧ module < s.f F.DRM_CTL_MODS_PER_CH then s.sensorRead chan module temp else s)

/-- POWER_DOWN_ENTRY (R314). -/
def execPowerDownEntry (chan sub rank : Nat) (s : State) : Host.Outcome State Fault Refusal :=
  let x := s.chan chan
  .next (if s.trained chan ∧ sub < 2 ∧ rank < s.f F.CH_STATUS_RANKS chan ∧ s.flag F.DRM_CTL_PD_EN ∧
      !(x.reqs.any fun q => q.sub == sub && q.rank == rank) ∧ !x.calDue ∧ x.calRun ≠ 1 ∧ !x.zqDue ∧ !x.zqRun ∧
      !x.asleep.contains (rankNo sub rank) then
    s.onChan chan fun x => { x with asleep := rankNo sub rank :: x.asleep, rows := x.rows.del (rankNo sub rank) }
  else s)

/-- DRAM_REQUEST (R308, R310). -/
def execDramRequest (chan port id line sub rank row : Nat) (isWrite : Bool) (data : List Byte) (s : State) :
    Host.Outcome State Fault Refusal :=
  let x := s.chan chan
  .next (if s.trained chan ∧ port ≤ 6 ∧ sub < 2 ∧ rank < s.f F.CH_STATUS_RANKS chan ∧
      !(x.reqs.any fun q => q.id == id) ∧ !(x.issued.any fun e => e.1.id == id) then
    s.enqueue chan ⟨port, id, line, sub, rank, row, isWrite, data, 0, false⟩
  else s)

/-- DRAM_COMMAND_SLOT (R308, R309). -/
def execDramCommandSlot (chan sub ageNs : Nat) (s : State) : Host.Outcome State Fault Refusal :=
  .next (if s.trained chan ∧ sub < 2 then s.slotTurn chan sub ageNs else s)

/-- DRAM_READ_DATA (R303). -/
def execDramReadData (chan id : Nat) (ecc : EccResult) (s : State) : Host.Outcome State Fault Refusal :=
  .next (match (s.chan chan).issued.find? fun e => e.1.id == id with
    | some e => s.readData chan e ecc
    | none => s)

/-- DRAM_WRITE_ON_MEDIUM (R30, R310). -/
def execDramWriteOnMedium (line : Nat) (s : State) : Host.Outcome State Fault Refusal := .next (s.onMedium line).retrySealed

/-- PATROL_SCRUB_READ (R307). -/
def execPatrolScrubRead (chan line sub rank : Nat) (ecc : EccResult) (otherLost : Bool) (s : State) :
    Host.Outcome State Fault Refusal :=
  .next (if s.trained chan ∧ s.flag F.DRM_ECC_SCRUB_EN ∧ line < s.moduleLines then
    (s.scrubFind chan line sub rank ecc otherLost).scrubNext chan (b2n (s.decoded chan sub rank ecc == .uncorrectable)) else s)

end Sys2Proof.Machine
end

