-- ==== Sys2Proof/Machine/Stack.lean ====
section
/-! DEFINITION. The stack as one device of it sees it (R385 to R408): routes over the link map and the cascade's hops, stack time,
master and deputy, joining and exclusion. Kinds of the 64 B messages (R389): MASTER 1 CLAIM, 2 CLAIM_ACK, 3 CLAIM_NAK, 4 STEP_DOWN;
MEMBER 1 JOIN, 2 JOIN_REFUSE, 3 EXCLUDE, 4 membership and link map; WEIR 1 PREP, 2 PREP_ACK, 3 GO, 4 NOGO, 5 query, 6 outcome; of
WORDS 0 stack-wide words copied, 1 words of a group (its GROUP_SEQ, 0 before the master has given one; then key and value), 2 the
answer of a device's checks, 3 the master's answer to a close (GROUP_SEQ, 0 refused), 4 a group discarded. -/

namespace Sys2Proof.Machine

/-- The bits of a word that are stack-wide (R219, R45, R46, R183, R236, R298, R408). -/
def wideMask (k : Nat) : Nat :=
  let all := 2 ^ 64 - 1
  let w := keyWord k
  match keySpace k with
  | 2 => if w = 0 then all else 0
  | 5 => if w = 0 then all - 2 ^ 61 else if w = 4 then 0 else all
  | 6 => if w = 6 then 3 * 2 ^ 62 else all
  | 8 => if keyRec k < 1024 ∧ (w ≤ 2 ∨ (8 ≤ w ∧ w ≤ 15) ∨ 64 ≤ w) then all else 0
  | 11 => if w ≤ 5 ∨ (16 ≤ w ∧ w ≤ 4111) then all else 0
  | 18 => if w ≤ 6 then all else 0
  | _ => 0

namespace State

def onStk (s : State) (f : Stk → Stk) : State := { s with stk := f s.stk }
def memberState (s : State) : Nat := s.f F.STK_STATUS_MEMBER_STATE
def setMember (s : State) (d : Nat) (b : Bool) : State := s.setBitF F.STK_MEMBERS_MEMBERS 0 d b
def stackEpoch (s : State) : Nat := s.f F.STK_STATUS_MASTER_EPOCH
/-- Send a 64 B message of a cascade type: its kind, then its items (R389). -/
def message (s : State) (dst type kind : Nat) (items : List Nat) : State := s.sendCascade dst type (kind :: items)

/-! The torus (R385, R386). -/

/-- The indices of a shape. -/
def shapeOf (w h : Nat) : List Nat := (List.range h).flatMap fun y => (List.range w).map fun x => 8 * y + x
/-- The CASCADE octet that faces a direction. -/
def octetOf (s : State) (dir : Nat) : Option Nat :=
  let octets := (List.range 12).filter fun o => s.f F.LNK_CTL_ROLE o == 3
  let dirs := (List.range 4).filter fun k => (s.neighbour s.index k).isSome
  (dirs.findIdx? (· == dir)).bind fun i => octets[i]?
/-- The field of a direction in STK_LINKS. -/
def linkField : Nat → Fld
  | 0 => F.STK_LINKS_LINK_PX
  | 1 => F.STK_LINKS_LINK_MX
  | 2 => F.STK_LINKS_LINK_PY
  | _ => F.STK_LINKS_LINK_MY

/-! Routes (R391). -/

def distance (s : State) (a b : Nat) : Option Nat := ((s.distances b).find? fun e => e.1 == a).map Prod.snd
/-- The direction in which this device forwards a frame. -/
def route (s : State) (dst : Nat) : Option Nat :=
  match s.distance s.index dst with
  | none => none
  | some n => (List.range 4).find? fun k => match s.neighbour s.index k with
    | some d => s.linked s.index d && s.distance d dst == some (n - 1) &&
        (s.stk.links.isNone || bit (s.f (linkField k)) 15)
    | none => false

/-- The link in a direction crosses the dateline of its ring (R390): between the last and the first position, either way. -/
def crosses (s : State) (dir : Nat) : Bool :=
  match dir with
  | 0 => s.index % 8 == s.shapeW - 1
  | 1 => s.index % 8 == 0
  | 2 => s.index / 8 == s.shapeH - 1
  | _ => s.index / 8 == 0
/-- The hops of a frame once it has made one more in a direction: beyond the dateline it is in the second buffer class. -/
def nextHop (s : State) (dir : Nat) (h : Hop) : Hop := ⟨h.hops + 1, h.second || s.crosses dir⟩
/-- Pass a frame on, or hold it in pool 3 for want of a link; `again`: it has been sent before. -/
def passFrame (s : State) (x : Nat × Nat × Nat × Nat × Hop × Nat) (again : Bool) : State :=
  let (type, vc, src, dst, hops, seq) := x
  match s.route dst with
  | some k =>
    let h := s.nextHop k hops
    (if again then s.bump F.STK_RELAY_REROUTES else s).emit
      ⟨.hop, ((s.neighbour s.index k).getD 0), [type, vc, src, dst, h.hops, seq, b2n h.second], []⟩
  | none => (s.onStk fun t => { t with heldFrames := t.heldFrames ++ [x] }).poolTake 3 1

/-- Deliver what is in order from a source on a channel (R391). -/
def drainAhead : Nat → Stk → Nat → Stk
  | 0, x, _ => x
  | n + 1, x, k =>
    let next := x.nextIn.get 0 k
    if x.ahead.contains (k, next) then
      drainAhead n { x with nextIn := x.nextIn.put k (next + 1), ahead := x.ahead.filter (· != (k, next)) } k
    else x
/-- A frame for this device (R391): one ahead of its order waits in a buffer of pool 3 (R253). -/
def deliver (s : State) (src vc seq : Nat) : State :=
  let k := src * 4 + vc
  let before := s.stk.ahead.length
  let s := s.onStk fun x =>
    if seq < x.nextIn.get 0 k ∨ x.ahead.contains (k, seq) then x
    else drainAhead (x.ahead.length + 1) { x with ahead := x.ahead ++ [(k, seq)] } k
  let after := s.stk.ahead.length
  if before < after then s.poolTake 3 (after - before) else if after < before then s.poolGive 3 (before - after) else s

/-- A new link map (R391): held frames go, and the frames of the replay buffer of a link that went down go again; they are discarded
where their destination is out of reach. -/
def newMap (s : State) (links : List (Nat × Nat)) : State :=
  let waiting := s.stk.heldFrames
  let lost := s.stk.again
  let s := s.onStk fun x => { x with links := some links, heldFrames := [], again := [] }
  let s := waiting.foldl (fun (t : State) f =>
    if (t.distance t.index f.2.2.2.1).isNone then t.poolGive 3 1
    else match t.route f.2.2.2.1 with
      | some _ => (t.poolGive 3 1).passFrame f false
      | none => t.onStk fun x => { x with heldFrames := x.heldFrames ++ [f] }) s
  lost.foldl (fun (t : State) f => if (t.distance t.index f.2.2.2.1).isNone then t else t.passFrame f true) s

/-! Exclusion (R404, R405). -/

/-- The deputy (R396, R400): of device 0 and device 2 the one that is not master, while it is in service. -/
def deputySync (s : State) : State :=
  let cand : Option Nat := if s.devices ≤ 2 then none else if s.master = 0 then some 2 else if s.master = 2 then some 0 else none
  match cand with
  | some d =>
    if s.inService d && s.isMember d then (s.setF F.STK_STATUS_DEPUTY_IDX d).setF F.STK_STATUS_DEPUTY_NONE 0
    else s.setF F.STK_STATUS_DEPUTY_NONE 1
  | none => s.setF F.STK_STATUS_DEPUTY_NONE 1

/-- This device is excluded (R405): it completes what is not on the medium with UNAVAILABLE, and its host ports and twin octets go
down. -/
def leaveStack (s : State) : State :=
  let s := s.setF F.STK_STATUS_MEMBER_STATE 3
  let s := (s.parts.filter fun e => match e.2.st with
    | .waiting | .heldRead | .heldSeal | .heldFull | .heldHeal _ => true
    | _ => false).foldl (fun (t : State) e => t.partDone e.1 Code.unavailable) s
  let s := s.failUnsettled Code.unavailable
  let s := (List.range 12).foldl (fun (t : State) o =>
    if t.f F.LNK_CTL_ROLE o = 1 then
      ((List.range 8).foldl (fun (u : State) p => u.portDown o p 0) t).setF F.LNK_STATUS_LANE_LOCK 0 o
    else t) s
  s.linkReset

/-- A change of the devices in service (R282, R292): the releases of this device that have not completed go to a stream's new
controller, a device that is no longer first gives the duty up, and recoveries end with the twin. -/
def serviceChange (s : State) (f : State → State) : State :=
  let before := s.strAll.map fun r => (r, s.strController r)
  before.foldl (fun (t : State) e =>
    if t.strController e.1 = e.2 ∨ t.strController e.1 = some t.index then t else t.resendReleases e.1)
    (f s).streamsCtlSync.recoveriesFail

/-- A device leaves the stack, as this device learns it (R404, R405): parts sent to it for VOLATILE granules and tiles end
UNAVAILABLE. -/
def excluded (s : State) (dev cause : Nat) : State :=
  let s := (((s.serviceChange fun t => t.setMember dev false).setF F.STK_EXCL_LAST_EXCL dev).setF F.STK_EXCL_LAST_CAUSE cause).event 0x0D02 [dev, cause]
  let s := { s with spates := s.spates.filter (· != dev), stage := { s.stage with asked := s.stage.asked.filter (· != dev) } }
  let s := s.onStk fun x => { x with joiners := x.joiners.filter (· != dev), beats := x.beats.del dev }
  let s := (s.parts.filter fun e => e.2.st == .forwarded && e.2.dev == dev && !s.isDurable e.2.region).foldl
    (fun (t : State) e => t.partDone e.1 Code.unavailable) s
  if dev = s.index then s.leaveStack else s.deputySync

/-- The master excludes a member and broadcasts it (R404). -/
def excludeDev (s : State) (dev cause : Nat) : State := (s.message 255 0x16 3 [dev, cause]).excluded dev cause

/-- A master steps down and excludes itself (R398): with STEP_DOWN where it can still be heard. -/
def stepDownMaster (s : State) (tell : Bool) : State :=
  (if tell then s.message 255 0x15 4 [s.stackEpoch] else s).excluded s.index 4
/-- The master's save or reset begins (R398): with a deputy in service, it steps down. -/
def masterLeaves (s : State) : State :=
  if s.isMaster && s.memberState == 2 && (s.deputy).isSome then s.stepDownMaster true else s

/-! Takeover (R398, R399). -/

/-- C: the in-service members other than master and deputy. -/
def voters (s : State) : List Nat := s.members.filter fun d => s.inService d && d != s.master && s.deputy != some d

/-- Counts of words by device, joined: the higher of two stands. -/
def joinCounts (a b : List (Nat × Nat)) : List (Nat × Nat) :=
  (a.map fun c => (c.1, (b.filter fun d => d.1 == c.1).foldl (fun n d => Nat.max n d.2) c.2)) ++
    b.filter fun c => !(a.any fun d => d.1 == c.1)
/-- Put a group into the list in GROUP_SEQ order; of one that is there, the counts of the devices that hold words are joined. -/
def putGroup : List Group → Group → List Group
  | [], g => [g]
  | x :: t, g =>
    if g.seq < x.seq then g :: x :: t
    else if g.seq = x.seq then { x with counts := joinCounts x.counts g.counts } :: t
    else x :: putGroup t g
/-- The stack-wide words of a group. -/
def wideOf (ws : List (Nat × U64)) : List (Nat × U64) := ws.filter fun w => wideMask w.1 != 0
/-- How many words of a group that device `dev` holds each device has to apply: itself all, every other member the stack-wide ones. -/
def countsAt (s : State) (dev : Nat) (ws : List (Nat × U64)) : List (Nat × Nat) :=
  let n := (wideOf ws).length
  (dev, ws.length) :: if n = 0 then [] else (s.members.filter (· != dev)).map fun d => (d, n)
/-- Groups that a member holds and the new master may not (R399): of their words the stack-wide ones are this device's too. The counts
of the new master's own groups are taken with them (R225, R226). -/
def mergeGroups (s : State) (dev : Nat) (gs : List (Nat × List (Nat × U64))) : State :=
  let own := s.stage.groups.map fun g => { g with counts := joinCounts g.counts (s.countsAt s.index g.words) }
  let all := gs.foldl (fun l g => putGroup l ⟨g.1, wideOf g.2, false, s.countsAt dev g.2⟩) own
  let top := all.foldl (fun n g => Nat.max n g.seq) s.stage.maxSeq
  { s with stage := { s.stage with groups := all, maxSeq := top, nextSeq := Nat.max s.stage.nextSeq (top + 1) } }

/-- TIME to every member (R395). -/
def sendTime (s : State) : State := s.sendCascade 255 0x12 [s.time, 0, s.stackEpoch]

/-- The claim has its majority (R398): this device is master, excludes the old one, and tells its standby its grants (R397). -/
def becomeMaster (s : State) : State :=
  let old := s.master
  let s := s.onStk fun x => { x with claim := none, beats := [] }
  let cause := if s.stk.stepped then 4 else 5
  let s := ((s.setF F.STK_STATUS_MASTER_IDX s.index).setF F.STK_STATUS_MASTER_EPOCH (s.stackEpoch + 1)).bump F.STK_EXCL_TAKEOVERS
  let s := (s.excludeDev old cause).sendTime
  let s := { s with stage := { s.stage with nextSeq := Nat.max s.stage.nextSeq (s.stage.maxSeq + 1), round := none, asked := [], acked := [] } }
  let s := (s.onStk fun x => { x with stepped := false }).event 0x0D08 [s.index, s.stackEpoch]
  match s.standbyOf s.index with
  | some d => s.twin.arbiter.foldl (fun (t : State) g => t.notice d 0x07 [g.1, g.2.1, g.2.2]) s
  | none => s

/-- The deputy claims (R398). -/
def claimNow (s : State) : State :=
  if s.memberState = 2 ∧ s.deputy = some s.index ∧ !s.isMaster ∧ s.stk.claim.isNone then
    (s.onStk fun x => { x with claim := some ([], []) }).message 255 0x15 1 [s.stackEpoch + 1]
  else s

/-- The answer of a member to a CLAIM, with its closed groups (R398, R399). -/
def answerClaim (s : State) (src epoch : Nat) (quietHalf : Bool) : State :=
  if s.memberState ≠ 2 ∨ epoch ≤ s.stackEpoch ∨ s.index = src then s
  else if s.voters.contains s.index ∧ (quietHalf ∨ s.stk.stepped) then
    let s := ((s.setF F.STK_STATUS_MASTER_EPOCH epoch).onStk fun x => { x with stepped := false }).message src 0x15 2 [epoch]
    s.stage.groups.foldl (fun (t : State) g =>
      t.sendCascade src 0x17 (1 :: g.seq :: g.words.flatMap fun w => [w.1, w.2.toNat])) s
  else s.message src 0x15 3 [epoch]

/-- A claim's acknowledgement (R398): more than half of C decides. -/
def claimAcked (s : State) (dev : Nat) (groups : List (Nat × List (Nat × U64))) : State :=
  match s.stk.claim with
  | none => s
  | some (acks, naks) =>
    if !s.voters.contains dev ∨ acks.contains dev then s
    else
      let s := (s.mergeGroups dev groups).onStk fun x => { x with claim := some (dev :: acks, naks) }
      if s.voters.length < 2 * (acks.length + 1) then s.becomeMaster else s

/-! Stack time (R395). -/

/-- After a takeover a CFGC that waits sends its group to the new master (R221). -/
def resendClose (s : State) (src : Nat) : State :=
  if s.master = src ∨ s.stage.closing.isNone then s
  else s.message src 0x17 1 (0 :: s.stage.closeWords.flatMap fun w => [w.1, w.2.toNat])
/-- A TIME frame of the current master or a higher epoch: the count steps or slews, and BEAT_ACK answers. -/
def timeIn (s : State) (src masterNs : Nat) (corr : Int) (epoch : Nat) : State :=
  let s := s.resendClose src
  let target : Int := (masterNs : Int) + corr
  let err : Int := target - s.time
  let s := if s.stackEpoch < epoch ∧ s.stackEpoch ≠ 0 then s.bump F.STK_EXCL_TAKEOVERS else s
  let s := (s.setF F.STK_STATUS_MASTER_EPOCH epoch).setF F.STK_STATUS_MASTER_IDX src
  let shown : Int := if err > 32767 then 32767 else if err < -32768 then -32768 else err
  let s := s.setF F.STK_TIME_TIME_ERR (BitVec.ofInt 16 shown).toNat
  let mag := Nat.min err.natAbs 65535
  let s := if s.f F.STK_TIME_TIME_ERR_MAX < mag then s.setF F.STK_TIME_TIME_ERR_MAX mag else s
  let s := s.extreme 111 err
  let s := if 20 < err.natAbs then s.event 0x0D0A [(BitVec.ofInt 32 err).toNat] else s
  let s := if 1000 < err.natAbs then (s.setTime target.toNat).onStk fun x => { x with unsync := true, slew := 0 }
    else s.onStk fun x => { x with slew := err, unsync := x.unsync && decide (20 < err.natAbs) }
  let s := s.onStk fun x => { x with lastTime := s.time, heardTime := true, stepped := false }
  (s.sendCascade src 0x13 [epoch]).deputySync

/-- No VALID record in the REGION, DOMAIN, PROGRAM or STREAM space (R402). -/
def emptyTables (s : State) : Bool :=
  !(s.ctl.any fun e => ([5, 6, 8, 11] : List Nat).contains (keySpace e.1) && keyWord e.1 == 0 && e.2.toNat.testBit 63)
/-- Ask to join, once a CASCADE octet is up (R402). -/
def askJoin (s : State) : State :=
  if (List.range 12).any fun o => s.f F.LNK_CTL_ROLE o == 3 && s.f F.LNK_STATUS_LANE_LOCK o == 0xFF then
    s.message s.master 0x16 1 [s.index, 0xB0, b2n s.emptyTables]
  else s

/-- Every stack-wide word that is not at its After reset value (R232, R402). -/
def wideWords (s : State) : List (Nat × U64) :=
  s.ctl.filterMap fun e =>
    if wideMask e.1 = 0 then none else some (e.1, e.2 &&& BitVec.ofNat 64 (wideMask e.1))
/-- Take over the stack-wide bits of words. -/
def copyWords (s : State) (ws : List (Nat × U64)) : State :=
  ws.foldl (fun (t : State) w =>
    let m := BitVec.ofNat 64 (wideMask w.1)
    t.setWord w.1 ((t.word w.1 &&& ~~~m) ||| (w.2 &&& m))) s

/-- A JOIN at the master (R402). -/
def joinIn (s : State) (dev stepping : Nat) (empty : Bool) : State :=
  let no (r : Nat) : State := (s.message dev 0x16 2 [r]).event 0x0D04 [dev, r]
  if !empty then no 1
  else if stepping ≠ 0xB0 then no 2
  else if s.isMember dev then no 3
  else if s.stk.joiners.contains dev then s
  else
    let s := s.sendCascade dev 0x17 (0 :: s.wideWords.flatMap fun w => [w.1, w.2.toNat])
    s.onStk fun x => { x with joiners := x.joiners ++ [dev] }

/-- The joiners inside the committed shape become members at a weir (R402). -/
def admitJoiners (s : State) : State :=
  let inside := shapeOf s.shapeW s.shapeH
  let new := s.stk.joiners.filter inside.contains
  let s := s.serviceChange fun s => new.foldl (fun (t : State) d => (t.setMember d true).event 0x0D03 [d]) s
  let s := s.onStk fun x => { x with joiners := x.joiners.filter fun d => !new.contains d }
  let s := if new.isEmpty then s else s.message 255 0x16 4 (w64 (s.f F.STK_MEMBERS_MEMBERS))
  s.deputySync

/-- A lead device issues request-channel credits to an entry device, once (R98): an equal share (DESIGN CHOICE) of the bytes that it can
apply and mirror within ACK_DEADLINE less 420 ns at 400 GB/s, in CREDIT frames of at most 4,095 units of 64 B. -/
def issueCredits (s : State) (d : Nat) : State :=
  if d = s.index ∨ (s.tp.issued.at? d).isSome = true then s
  else
    let total := (s.f F.TP_COMPAT_ACK_DEADLINE - 420) * 400 / 64
    let share := Nat.min (total / Nat.max 1 s.others.length) (total - s.tp.issued.foldl (fun n e => n + e.2) 0)
    let frames := (List.range (share / 4095 + 1)).map fun i => Nat.min 4095 (share - 4095 * i)
    let s := (frames.filter (· != 0)).foldl (fun (t : State) n => t.sendCascade d 0x0B [0, n]) s
    { s with tp := { s.tp with issued := s.tp.issued.put d share } }
/-- A device goes out of service: what it was lent and what it lent is gone. -/
def dropCredits (s : State) (d : Nat) : State :=
  { s with tp := { s.tp with issued := s.tp.issued.del d, lent := s.tp.lent.del d } }

/-- This device, JOINING, becomes a member at the weir (R402). -/
def becomeMember (s : State) : State :=
  if s.memberState = 1 ∧ (shapeOf s.shapeW s.shapeH).contains s.index then
    let s := (s.setF F.STK_STATUS_MEMBER_STATE 2).setMember s.index true
    s.others.foldl issueCredits s
  else s

/-- The link list after one link of the torus, named from its + end, has gone up or down; where an extent is 2, two links join the same
devices (R386). -/
def changeLink (s : State) (l : Nat × Nat) (up : Bool) : List (Nat × Nat) :=
  let l := if s.linkList.contains l then l else if s.linkList.contains (l.2, l.1) then (l.2, l.1) else l
  if up then (if s.linkList.contains l then s.linkList else s.linkList ++ [l]) else s.linkList.erase l

/-- A cascade link goes up, once its octet is ready (R77), or down (R391, R407): the device tells the master; the master broadcasts the new map and excludes whom it no longer
reaches (R404). The frames of its replay buffer wait for the new map. -/
def linkChange (s : State) (dir : Nat) (up : Bool) (replay : List (Nat × Nat × Nat × Nat × Hop × Nat) := []) : State :=
  match s.neighbour s.index dir, s.octetOf dir with
    | some d, some o =>
      if 4 ≤ dir ∨ (up = true ∧ s.f F.LNK_STATUS_LANE_LOCK o ≠ 0xFF) then s
      else
        let s := (s.setF (linkField dir) (b2n up <<< 15 ||| o <<< 8 ||| d)).event 0x0D06 [dir, d, b2n up]
        let s := if up then s else s.onStk fun x => { x with again := x.again ++ replay }
        if !s.isMaster then s.notice s.master 0x0B [s.index, dir, d, b2n up]
        else
          let links := s.changeLink (if dir % 2 = 0 then (s.index, d) else (d, s.index)) up
          let torus := (shapeOf s.shapeW s.shapeH).flatMap fun a => ([0, 2] : List Nat).filterMap fun k => s.neighbour a k
          let s := ((s.newMap links).message 255 0x16 4 (links.flatMap fun l => [l.1, l.2])).event 0x0D07
            [torus.length - links.length]
          (s.members.filter fun m => (s.distance m s.index).isNone).foldl (fun (t : State) m => t.excludeDev m 3) s
    | _, _ => s

end State

open State

/-- TIME_BROADCAST (R395). -/
def execTimeBroadcast (s : State) : Host.Outcome State Fault Refusal :=
  .next (if s.isMaster ∧ s.memberState = 2 then s.sendTime else s)

/-- TIME_FRAME (R395, R398, R402). -/
def execTimeFrame (src masterNs : Nat) (corr : Int) (epoch : Nat) (s : State) : Host.Outcome State Fault Refusal :=
  .next (if s.memberState = 3 ∨ epoch < s.stackEpoch ∨ src = s.index ∨ (s.isMaster ∧ s.memberState = 2 ∧ epoch = s.stackEpoch) then s
    else
      let s := s.timeIn src masterNs corr epoch
      if s.memberState = 0 then s.askJoin else s)

/-- BEAT_ACK (R398). -/
def execBeatAck (dev epoch : Nat) (s : State) : Host.Outcome State Fault Refusal :=
  .next (if s.isMaster ∧ s.memberState = 2 ∧ epoch = s.stackEpoch ∧ s.isMember dev then
    s.onStk fun x => { x with beats := x.beats.put dev s.time } else s)

/-- BEAT_ACK_TIMEOUT (R404). -/
def execBeatAckTimeout (dev : Nat) (s : State) : Host.Outcome State Fault Refusal :=
  .next (if s.isMaster ∧ s.memberState = 2 ∧ s.isMember dev ∧ dev ≠ s.index then s.excludeDev dev 5 else s)

/-- MASTER_STEP_DOWN (R398, R401): no BEAT_ACK of the deputy for TAKEOVER_US ÷ 4, and of at most half of C. -/
def execMasterStepDown (s : State) : Host.Outcome State Fault Refusal :=
  let win := s.f F.STK_CTL_TAKEOVER_US * 250
  let recent (d : Nat) : Bool := match s.stk.beats.at? d with
    | some t => decide (s.time < t + win)
    | none => false
  let deputyQuiet : Bool := match s.deputy with
    | some d => !recent d
    | none => true
  .next (if s.isMaster ∧ s.memberState = 2 ∧ 2 < s.devices ∧ deputyQuiet ∧
      2 * (s.voters.filter recent).length ≤ s.voters.length then s.stepDownMaster false else s)

/-- DEPUTY_CLAIM (R398). -/
def execDeputyClaim (s : State) : Host.Outcome State Fault Refusal := .next s.claimNow

/-- STEP_DOWN (R398). -/
def execStepDown (epoch : Nat) (s : State) : Host.Outcome State Fault Refusal :=
  .next (if epoch = s.stackEpoch ∧ !s.isMaster then (s.onStk fun x => { x with stepped := true }).claimNow else s)

/-- CLAIM (R398, R399). -/
def execClaim (src epoch : Nat) (quietHalf : Bool) (s : State) : Host.Outcome State Fault Refusal :=
  .next (s.answerClaim src epoch quietHalf)

/-- CLAIM_ACK (R398, R399). -/
def execClaimAck (dev : Nat) (groups : List (Nat × List (Nat × U64))) (s : State) : Host.Outcome State Fault Refusal :=
  .next (s.claimAcked dev groups)

/-- CLAIM_NAK (R398). -/
def execClaimNak (dev : Nat) (s : State) : Host.Outcome State Fault Refusal :=
  .next (match s.stk.claim with
    | some (acks, naks) => if naks.contains dev then s else s.onStk fun x => { x with claim := some (acks, dev :: naks) }
    | none => s)

/-- CLAIM_TIMEOUT (R398). -/
def execClaimTimeout (s : State) : Host.Outcome State Fault Refusal :=
  .next (match s.stk.claim with
    | some (acks, _) => ((s.onStk fun x => { x with claim := none }).bump F.STK_EXCL_CLAIMS_FAILED).event 0x0D09
        [acks.length, s.voters.length / 2 + 1]
    | none => s)

/-- SELF_EXCLUSION (R401). -/
def execSelfExclusion (s : State) : Host.Outcome State Fault Refusal :=
  .next (if s.memberState = 2 ∧ !s.isMaster then s.excluded s.index 4 else s)

/-- STACK_FORM_TIMEOUT (R402). -/
def execStackFormTimeout (s : State) : Host.Outcome State Fault Refusal :=
  .next (if s.index = 0 ∧ s.memberState = 0 ∧ s.stk.heardTime = false ∧ s.f F.MGW_STATUS_PHASE = 1 then
    ((((((s.setF F.STK_STATUS_MEMBER_STATE 2).setMember 0 true).setF F.STK_STATUS_MASTER_IDX 0).setF F.STK_STATUS_MASTER_EPOCH
      1).setF F.STK_STATUS_DEPUTY_NONE 1).setF F.STK_STATUS_DEVICES 1).setF F.STK_STATUS_LARGE 0
  else s)

/-- JOIN (R402). -/
def execJoin (dev stepping : Nat) (empty : Bool) (s : State) : Host.Outcome State Fault Refusal :=
  .next (if s.isMaster ∧ s.memberState = 2 then s.joinIn dev stepping empty else s)

/-- JOIN_REFUSE (R402): the device stays out of the stack. -/
def execJoinRefuse (_reason : Nat) (s : State) : Host.Outcome State Fault Refusal :=
  .next (if s.memberState = 1 then s.setF F.STK_STATUS_MEMBER_STATE 0 else s)

/-- EXCLUDE (R404, R405). -/
def execExclude (dev cause : Nat) (s : State) : Host.Outcome State Fault Refusal :=
  .next (if s.memberState = 2 ∧ (s.isMember dev ∨ dev = s.index) then s.excluded dev cause else s)

/-- CASCADE_LINK_CHANGE (R391). -/
def execCascadeLinkChange (dir : Nat) (x : LinkChange) (s : State) : Host.Outcome State Fault Refusal :=
  .next (s.linkChange dir x.up x.replay)

/-- LINK_MAP (R391). -/
def execLinkMap (links : List (Nat × Nat)) (s : State) : Host.Outcome State Fault Refusal :=
  .next (if s.memberState = 2 then s.newMap links else s)

/-- A frame of the cascade is discarded (R388): a reserved type, or its hops are used up. -/
def State.discardFrame (s : State) (type src why : Nat) : State :=
  (s.onStk fun x => { x with discarded := x.discarded + 1 }).event 0x0D0B [type, src, why]
/-- CASCADE_FRAME_HOP (R388, R390, R391). -/
def execCascadeFrameHop (type vc src dst : Nat) (hops : Hop) (seq : Nat) (s : State) : Host.Outcome State Fault Refusal :=
  .next (if !([0x01, 0x02, 0x0B, 0x10, 0x11, 0x12, 0x13, 0x14, 0x15, 0x16, 0x17, 0x18] : List Nat).contains type then
      s.discardFrame type src 0
    else if 15 ≤ hops.hops then s.discardFrame type src 1
    else if dst = s.index then s.deliver src vc seq
    else s.passFrame (type, vc, src, dst, hops, seq) false)

/-- IN_SERVICE_CHANGE (R282): the releases of this device that have not completed go to a stream's new controller. With it comes the
device's twin state (R23); one that has stopped, or was excluded in sequencing, the master excludes (R404). -/
def execInServiceChange (dev : Nat) (x : Service) (s : State) : Host.Outcome State Fault Refusal :=
  .next (if dev = s.index then s
    else if x.stopped && s.isMaster && s.memberState == 2 then s.excludeDev dev 6
    else s.serviceChange fun s =>
      let s := { s with peers := s.peers.put dev x.twin
                        absent := if x.up then s.absent.filter (· != dev)
                                  else if s.absent.contains dev then s.absent else dev :: s.absent }
      let s := if x.up ∧ (shapeOf s.shapeW s.shapeH).contains dev then s.setMember dev true else s
      (if x.up then s.issueCredits dev else s.dropCredits dev).deputySync)

/-- TIME_ERR_MAX_READ (R408). -/
def execTimeErrMaxRead (s : State) : Host.Outcome State Fault Refusal :=
  let age := Nat.min (2 ^ 32 - 1) ((s.time - s.stk.lastTime) / 1000)
  let w := setBits (s.word (F.STK_TIME_TIME_ERR_MAX.key 0 0)).toNat F.STK_TIME_TIME_AGE_US.hi F.STK_TIME_TIME_AGE_US.lo age
  .next ((s.readback [F.STK_TIME_TIME_ERR_MAX.key 0 0, w]).setF F.STK_TIME_TIME_ERR_MAX 0)

end Sys2Proof.Machine
end

