-- ==== Sys2Proof/Machine/Supply.lean ====
section
/-! DEFINITION. The moss domain (R355 to R384): the sequence table, stepping through the states, rails and their supervision, the
hold-up gauge and its discharge test, clock and power gating. A power-down's last step stands with the resets. -/

namespace Sys2Proof.Machine

/-! The sequence table (R357, R358, R361). -/

/-- Quadword `i` of a table; rail `n` has quadwords 8 + 4n on, state `s` quadword 136 + s. -/
def tq (t : List Byte) (i : Nat) : Nat := ofBytes ((t.drop (8 * i)).take 8)
def tRail (t : List Byte) (n j : Nat) : Nat := tq t (8 + 4 * n + j)
def tUsed (t : List Byte) (n : Nat) : Bool := bit (tq t 2) (32 + n)
def tStateOn (t : List Byte) (n : Nat) : Nat := bits (tRail t n 0) 63 60
def tGoodSrc (t : List Byte) (n : Nat) : Nat := bits (tRail t n 0) 59 58
def tLevels (t : List Byte) (n : Nat) : Bool := bit (tRail t n 0) 57
def tCritical (t : List Byte) (n : Nat) : Bool := bit (tRail t n 0) 56
def tSense (t : List Byte) (n : Nat) : Nat := bits (tRail t n 0) 55 52
def tDeps (t : List Byte) (n : Nat) : List Nat := bitsOf 32 (bits (tRail t n 2) 63 32)
def tDomains (t : List Byte) (n : Nat) : Nat := bits (tRail t n 3) 23 0

/-- The checks of R361 on a header. -/
def tableHeaderOk (t : List Byte) : Bool :=
  decide (t.length = 1330 ∧ bits (tq t 0) 63 32 = 0x53514D31 ∧ bits (tq t 0) 31 16 = 1330 ∧ bits (tq t 0) 15 8 = 1 ∧
    bits (tq t 0) 7 0 = 0 ∧ bits (tq t 2) 31 0 = 0 ∧ bits (tq t 3) 15 10 = 0 ∧ tq t 6 = 0 ∧ tq t 7 = 0 ∧
    bits (tq t 5) 63 54 < bits (tq t 5) 53 44 ∧ 1 ≤ bits (tq t 5) 31 16 ∧ 1 ≤ bits (tq t 5) 15 0 ∧
    bits (tq t 3) 47 32 < bits (tq t 3) 31 16)
/-- The reserved bits of a rail record, and of those that a WINDOW rail does not use. -/
def railReservedOk (t : List Byte) (n : Nat) : Bool :=
  decide (bits (tRail t n 1) 63 60 = 0 ∧ bits (tRail t n 1) 9 0 = 0 ∧ bits (tRail t n 2) 15 0 = 0 ∧ bits (tRail t n 3) 63 24 = 0 ∧
    (tLevels t n ∨ (bits (tRail t n 0) 39 28 = 0 ∧ bits (tRail t n 1) 49 40 = 0 ∧ bits (tRail t n 1) 39 30 = 0)))
/-- The checks of R361 on a used rail. -/
def railOk (t : List Byte) (n : Nat) : Bool :=
  let others := (List.range 32).filter fun m => m != n && tUsed t m
  let lo := bits (tRail t n 1) 59 50
  let hi := bits (tRail t n 1) 29 20
  let dwell := bits (tRail t n 0) 27 14
  let limit := bits (tRail t n 0) 13 0
  decide (1 ≤ tStateOn t n ∧ 1 ≤ dwell ∧ 1 ≤ limit ∧ dwell < 10 * limit) &&
  (tGoodSrc t n < 2 || others.all fun m => tSense t m != tSense t n) &&
  (if tLevels t n then decide (lo < bits (tRail t n 1) 49 40 ∧ bits (tRail t n 1) 49 40 < bits (tRail t n 1) 39 30 ∧
      bits (tRail t n 1) 39 30 < hi)
    else decide (lo < hi)) &&
  ((tDeps t n).all fun m => m != n && tUsed t m && decide (tStateOn t n ≤ tStateOn t m) &&
    (tDeps t m).all fun k => (tDeps t n).contains k) &&
  (tCritical t n || (tDomains t n &&& (2 ^ 24 - 1 - 0xFFF00)) == 0)
/-- A copy verifies (R357): its signature, then the checks of R361. -/
def tableOk (t : List Byte) : Bool :=
  Config.ed448Verify Config.tableKey (t.take 1216) (t.drop 1216) && tableHeaderOk t &&
    ((List.range 32).all fun n => railReservedOk t n && (!tUsed t n || railOk t n)) &&
    (List.range 16).all fun s => bits (tq t (136 + s)) 63 32 == 0

namespace State

def onSupply (s : State) (f : Supply → Supply) : State := { s with supply := f s.supply }
def table (s : State) : List Byte := s.supply.table
def railUsed (s : State) (n : Nat) : Bool := tUsed s.table n
def seqState (s : State) : Nat := s.f F.SUP_SEQ_SEQ_STATE
def rstate (s : State) (n : Nat) : Nat := s.f F.RL_STATUS_RSTATE n
def setR (s : State) (n st : Nat) : State := s.setF F.RL_STATUS_RSTATE st n
def railOn (s : State) (n : Nat) : Bool := bit (s.f F.SUP_RAILS_RAILS_ON) n
def enableRail (s : State) (n : Nat) (b : Bool) : State := s.setBitF F.SUP_RAILS_RAILS_ON 0 n b
def isExcluded (s : State) : Bool := s.flag F.SUP_SEQ_EXCLUDED
/-- RUN. -/
def inRun (s : State) : Bool := s.seqState == 16

/-! The discharge test's end (R376). -/

/-- HOLDUP_TEST_EN is released and the test is aborted: 1 by a save, 2 by an input failure, none by a critical stop. -/
def abortTest (s : State) (result : Option Nat) : State :=
  match s.supply.test with
  | none => s
  | some _ =>
    let s := ((s.onSupply fun x => { x with test := none, endTest := some (s.time : Int) }).setF F.HU_GAUGE_TESTING 0).bump
      F.HU_TESTS_TESTS_ABORTED
    let s := match result with
      | some r => s.setF F.HU_TESTS_LAST_RESULT r
      | none => s
    s.event 0x0B0B [s.f F.HU_TESTS_LAST_RESULT]

/-! Power-down (R372). -/

/-- Switch off the rails of the power-down's state; those that were on are awaited. -/
def downState (s : State) : State :=
  let mine := (List.range 32).filter fun n => s.railOn n && tStateOn s.table n == s.supply.down
  let s := mine.foldl (fun (t : State) n =>
    let t := t.enableRail n false
    if t.rstate n = 3 ∨ t.rstate n = 4 then t else t.setR n 0) s
  s.onSupply fun x => { x with offDue := mine }
/-- A power-down begins: 0 a halt, 1 a warm reset, 2 a critical stop, 3 an exclusion. -/
def powerDown (s : State) (why : Nat) : State :=
  ((s.onSupply fun x => { x with down := 15, downFor := why, chainOut := false }).setF F.SUP_SEQ_SEQ_STATE 17).downState

/-! Failures (R370, R371). -/

/-- The device is excluded in sequencing or stops (R371, R382): cause and rail. -/
def markExcluded (s : State) (cause rail : Nat) : State :=
  (((s.setF F.SUP_SEQ_EXCLUDED 1).setF F.SUP_SEQ_EXCL_CAUSE cause).setF F.SUP_SEQ_EXCL_RAIL rail).event 0x0B07 [cause, rail]
/-- The device reports that it has stopped or is excluded in sequencing (R404): the in-service notice with a fourth item. -/
def reportStop (s : State) : State := s.notice 255 0x0C [s.index, 0, s.tstate, 1]
/-- The critical stop (R370): without saving; a master says so if it can (R398). -/
def criticalStop (s : State) (rail : Nat) : State :=
  let s := (s.abortTest none).masterLeaves
  ((s.markExcluded 3 rail).reportStop).powerDown 2

/-- An octet whose rails are gone loses all its lanes (R370). -/
def octetDark (s : State) (o : Nat) : State :=
  let s := s.setF F.LNK_STATUS_LANE_LOCK 0 o
  match s.f F.LNK_CTL_ROLE o with
  | 1 => (List.range 8).foldl (fun (t : State) p => t.portDown o p 0) s
  | 2 => (s.twinOctetLoss o).recoveriesFail
  | 3 => match (List.range 4).find? fun k => s.octetOf k == some o with
    | some k => s.linkChange k false
    | none => s
  | _ => s

/-- The turn of a state ends (R363): SEQ_CHAIN_OUT is asserted. -/
def endTurn (s : State) : State := s.onSupply fun x => { x with turn := 3, chainOut := true }
/-- The turn ends once every rail of the state is GOOD or FAILED. -/
def turnCheck (s : State) : State :=
  if s.supply.turn = 2 ∧ ((List.range 32).all fun n => !s.railUsed n || tStateOn s.table n != s.seqState || s.rstate n != 1) then
    s.endTurn
  else s

/-- A rail fails (R370): it and its dependants go off, and what follows from it. -/
def railFail (s : State) (n : Nat) : State :=
  let s := ((s.enableRail n false).setR n 3).setBitF F.SUP_RAILS_RAILS_FAILED 0 n true
  let s := s.bump F.RL_EDGES_FAULTS n
  let deps := (tDeps s.table n).filter s.railOn
  let s := deps.foldl (fun (t : State) m => (t.enableRail m false).setR m 4) s
  let s := s.turnCheck
  if s.inRun then
    if tCritical s.table n || (tDeps s.table n).any fun m => tCritical s.table m then s.criticalStop n
    else
      let dark := (n :: deps).foldl (fun a m => a ||| tDomains s.table m) 0
      ((List.range 12).filter fun o => bit dark (8 + o)).foldl octetDark s
  else if s.seqState < 16 ∧ !s.isExcluded then
    let s := s.markExcluded 2 n
    if s.supply.turn = 1 then s.endTurn else s
  else s

/-! The states (R362 to R365). -/

/-- SEQ_SYNC is released: in state 0 once the table has verified and the input is good, or the device is out; in the others once
the turn has ended, at device 0 with SEQ_CHAIN_RET; in RUN always. -/
def syncReleased (s : State) : Bool :=
  if s.seqState = 0 then s.isExcluded || (!s.table.isEmpty && s.flag F.SUP_INPUT_IN_GOOD_NOW)
  else if s.seqState < 16 then
    s.supply.turn == 3 && (s.index != 0 || s.supply.chainRet || s.supply.retGiven)
  else s.inRun

/-- A turn begins (R363): its gap runs, or it ends at once with no rail to enable. -/
def beginTurn (s : State) : State :=
  let due := (List.range 32).any fun n => s.railUsed n && tStateOn s.table n == s.seqState && s.rstate n == 0
  if s.isExcluded || !due then s.endTurn else s.onSupply fun x => { x with turn := 1 }

/-- Enter RUN (R362, R371, R374, R382): the PLLs are locked and the core's domains powered; an excluded device powers down and its
boot stops. -/
def enterRun (s : State) : State :=
  if s.isExcluded then
    let s := s.setF F.MGW_STATUS_PHASE 5
    let s := if s.f F.SUP_SEQ_EXCL_CAUSE = 2 then
      (s.setF F.MGW_BOOT_ERROR 2).setF F.MGW_BOOT_ERR_DETAIL (s.f F.SUP_SEQ_EXCL_RAIL) else s
    s.reportStop.powerDown 3
  else
    let ms := (s.time - s.supply.seqStart) / 1000000
    let s := ((s.setF F.SUP_SEQ_SEQ_STATE 16).setF F.MGW_BOOT_STAGE 3).setF F.SUP_TIMING_SEQ_MS ms
    let s := s.onSupply fun x => { x with chainOut := decide (s.index = 0) || x.chainIn }
    let core := 0x7000FF
    let s := ((s.setF F.CLK_PLL_PLL_LOCK 0x1F).setF F.CLK_STATUS_POWERED core).setF F.CLK_STATUS_CLOCKED core
    s.event 0x0B01 [ms]
/-- A rising edge of SEQ_SYNC, or its limit, takes the device on (R362, R363). -/
def nextState (s : State) : State :=
  if s.seqState = 15 then s.enterRun
  else
    let s := s.setF F.SUP_SEQ_SEQ_STATE (s.seqState + 1)
    s.onSupply fun x => { x with guard := true, turn := 0, chainOut := false, retGiven := false,
                                 seqStart := if s.seqState = 1 then s.time else x.seqStart }

/-- The stages 0x01 and 0x02 (R357, R371): the copy that verifies with the higher TABLE_SEQ, copy A when they are equal. -/
def tableRead (s : State) (a b : List Byte) : State :=
  let okA := tableOk a
  let okB := tableOk b
  if !okA && !okB then
    (((((s.setF F.MGW_BOOT_STAGE 1).setF F.MGW_BOOT_ERROR 1).setF F.MGW_BOOT_ERR_DETAIL 3).setF F.MGW_STATUS_PHASE 5).markExcluded 1
      0)
  else
    let useA := okA && (!okB || decide (tq b 1 ≤ tq a 1))
    let t := if useA then a else b
    let s := (s.onSupply fun x => { x with table := t }).setF F.MGW_BOOT_STAGE 2
    let s := (s.setF F.SUP_SEQ_TABLE_COPY (if useA then 1 else 2)).setF F.SUP_SEQ_TABLE_SEQ (tq t 1)
    let s := (List.range 32).foldl (fun (u : State) n => (List.range 4).foldl (fun (v : State) j =>
      v.setWord (wkey 15 n j) (BitVec.ofNat 64 (tRail t n j))) u) s
    s.setF F.HU_CTL_HU_MIN_J (bits (tq t 4) 31 0)

/-! The hold-up gauge (R375 to R377). -/

def huVmin (s : State) : Nat := bits (tq s.table 3) 47 32
def huReady (s : State) : Nat := bits (tq s.table 3) 31 16
def huEff (s : State) : Nat := bits (tq s.table 3) 9 0
def huTestMa (s : State) : Nat := bits (tq s.table 4) 63 48
def huTestDv (s : State) : Nat := bits (tq s.table 4) 47 32
/-- The usable energy in J at a bank voltage in mV (R375). -/
def usableJ (s : State) (mv : Nat) : Nat :=
  if s.flag F.HU_GAUGE_GAUGE_VALID ∧ s.huVmin < mv then
    s.huEff * s.f F.HU_CAP_CAP_MF * (mv * mv - s.huVmin * s.huVmin) / (2048 * 10 ^ 9)
  else 0
/-- The gauge at a weir (R375, R377): voltage, energy, and whether it is above its minimum. -/
def gaugeWeir (s : State) (mv : Nat) : State :=
  let e := s.usableJ mv
  let ok := s.flag F.HU_GAUGE_GAUGE_VALID && decide (s.f F.HU_CTL_HU_MIN_J ≤ e)
  let was := s.flag F.HU_GAUGE_GAUGE_OK
  let s := ((s.setF F.HU_GAUGE_V_MV mv).setF F.HU_GAUGE_E_USABLE_J e).setF F.SV_INPUTS_E_USABLE_J e
  let s := (s.setF F.HU_GAUGE_GAUGE_OK (b2n ok)).extreme 97 mv
  let age (t : Option Int) : Nat := match t with
    | some t => Nat.min 0xFFFF (((s.time : Int) - t) / 3600000000000).toNat
    | none => 0xFFFF
  let s := s.setF F.HU_CAP_TEST_AGE_H (age s.supply.lastTest)
  -- a test is due again so long after the last one, however that ended (R376)
  let s := if s.supply.endTest.isSome ∧ s.f F.HU_CTL_HU_TEST_HOURS ≤ age s.supply.endTest ∧ s.supply.test.isNone then
    s.onSupply fun x => { x with testDue := true } else s
  if ok = was then s else s.event 0x0B0C [b2n ok, e]

/-- The own budget computed for a voltage lower by the test's fall (R376). -/
def budgetAfterTest (s : State) (mv : Nat) : Nat :=
  (s.setF F.SV_INPUTS_E_USABLE_J (s.usableJ (mv - s.huTestDv))).ownBudget
/-- A due test at a weir: it starts or is deferred (R376). -/
def testStart (s : State) (mv : Nat) (steady : Bool) : State :=
  let defer (r : Option Nat) : State :=
    let s := s.bump F.HU_TESTS_TESTS_DEFERRED
    let s := match r with
      | some c => s.setF F.HU_TESTS_LAST_RESULT c
      | none => s
    s.event 0x0B0B [s.f F.HU_TESTS_LAST_RESULT]
  if !s.supply.testDue ∨ s.supply.test.isSome ∨ !s.inRun then s
  else if s.flash.run.isSome ∨ s.f F.CLK_STATUS_STANDBY_STATE = 2 then defer none
  else if mv < s.huReady ∨ !steady then defer (some 5)
  else if 9 * s.budgetAfterTest mv < 10 * s.dirtyBytes then defer (some 4)
  else ((s.onSupply fun x => { x with test := some ⟨0, mv, 0, 0⟩, testDue := false }).setF F.HU_GAUGE_TESTING 1)

/-- A test's fall is reached: C is accepted (R376, R433). -/
def testAccept (s : State) (x : BankTest) (mv us : Nat) : State :=
  -- with no fall at all the quotient has no stated value
  let (v, s) := s.fresh
  let c := if x.v1 ≤ mv then v.toNat % 2 ^ 32 else s.huTestMa * us / ((x.v1 - mv) * 1000)
  let old := s.f F.HU_CAP_CAP_MF
  let known := decide (old ≠ 0)
  let s := (s.onSupply fun y => { y with test := none, lastTest := some (s.time : Int), endTest := some (s.time : Int) }).setF F.HU_GAUGE_TESTING 0
  let s := ((((s.setF F.HU_CAP_CAP_MF c).setF F.HU_CAP_ESR x.esr).setF F.HU_CAP_TEST_AGE_H 0).setF F.HU_GAUGE_GAUGE_VALID
    1).bump F.HU_TESTS_TESTS_DONE
  let s := ((s.setF F.HU_TESTS_LAST_RESULT 0).event 0x0B0A [c, x.esr])
  let s := { s with recd := { s.recd with v0 := x.v0 } }
  if known ∧ 100 * c < 95 * old then s.event 0x0B0D [old, c] else s

/-! Gating (R379 to R381). -/

/-- Engine threads in use of an engine. -/
def engineBusy (s : State) (e : Nat) : Bool := s.eng.threads.any fun t => t.1 / 16 == e
/-- A domain is gated: neither powered nor clocked. -/
def gate (s : State) (k : Nat) : State :=
  ((s.onSupply fun x => { x with gated := k :: x.gated.filter (· != k) }).setBitF F.CLK_STATUS_POWERED 0 k false).setBitF
    F.CLK_STATUS_CLOCKED 0 k false
def ungate (s : State) (k : Nat) : State :=
  let s := s.onSupply fun x => { x with gated := x.gated.filter (· != k)
                                        gatedEngines := x.gatedEngines.filter fun e => !(k < 8 && e / 8 == k) }
  (s.setBitF F.CLK_STATUS_POWERED 0 k true).setBitF F.CLK_STATUS_CLOCKED 0 k true
/-- A domain counts as gated no more; the last one ends the wake from standby (R381). -/
def leaveGate (s : State) (k : Nat) : State :=
  let s := s.onSupply fun x => { x with gated := x.gated.filter (· != k) }
  if s.f F.CLK_STATUS_STANDBY_STATE = 3 ∧ s.supply.gated = [] then s.setF F.CLK_STATUS_STANDBY_STATE 0 else s
/-- A block of R379 has no work: the cipher no GCM work, the stream block no window that runs and no load, the flash block no
dirty data, stream work, or discharge test. -/
def blockIdle (s : State) (k : Nat) : Bool :=
  let streams := s.strAll.any fun r => s.strRunning r || s.flag F.STR_STATUS_LOAD_BUSY r
  match k with
  | 20 => s.flash.inFlight.isEmpty && s.flash.run.isNone
  | 21 => !streams
  | 22 => s.dram.dirty.isEmpty && !streams && s.supply.test.isNone && !s.supply.testDue && s.flash.run.isNone && !s.recd.loading
  | _ => false
/-- The wake time of a domain in ns (R379, R381). -/
def wakeNs (k : Nat) : Nat := if k < 8 then 2000 else if k < 22 then 5000 else if k = 22 then 20000 else 50000

/-- A gated domain is awake (R380, R384); the last one ends the wake from standby (R381). -/
def woken (s : State) (k ns : Nat) : State :=
  let s := s.ungate k
  let s := if k < 8 then
      let s := s.bump F.CLK_WAKES_CLUSTER_WAKES
      if s.f F.CLK_WAKE_MAX_CLUSTER_WAKE_MAX_NS < ns then s.setF F.CLK_WAKE_MAX_CLUSTER_WAKE_MAX_NS (Nat.min ns 65535) else s
    else if 20 ≤ k ∧ k ≤ 22 then
      let s := s.bump F.CLK_WAKES_BLOCK_WAKES
      if s.f F.CLK_WAKE_MAX_BLOCK_WAKE_MAX_NS < ns then s.setF F.CLK_WAKE_MAX_BLOCK_WAKE_MAX_NS (Nat.min ns 65535) else s
    else s
  let s := if wakeNs k < ns then s.event 0x0B0E [k, ns] else s
  if s.f F.CLK_STATUS_STANDBY_STATE = 3 then
    let s := if s.f F.CLK_WAKE_MAX_STANDBY_WAKE_MAX_NS < ns then s.setF F.CLK_WAKE_MAX_STANDBY_WAKE_MAX_NS ns else s
    if s.supply.gated.isEmpty then s.setF F.CLK_STATUS_STANDBY_STATE 0 else s
  else s
/-- The DRAM block is awake again (R381): the copies of the twin and the parts that waited for it go on. -/
def dramAwake (s : State) : State := s.takeLate.retryParts fun p => p.st == .waiting || p.st == .heldRead

/-- STANDBY_EN commits 1 or 0 (R381). -/
def standby (s : State) (on : Bool) : State :=
  if on then
    let hosts := (List.range 12).filter fun o => s.f F.LNK_CTL_ROLE o == 1
    let s := (List.range 8 ++ hosts.map (8 + ·) ++ [20, 21, 22, 23]).foldl gate s
    (s.setF F.CLK_STATUS_STANDBY_STATE 2).event 0x0B0F [1]
  else (s.setF F.CLK_STATUS_STANDBY_STATE 3).event 0x0B0F [0]

end State

open State

/-- BOOT_SEQUENCE_TABLE_READ (R357, R361, R213). -/
def execBootSequenceTableRead (a b : TableCopy) (s : State) : Host.Outcome State Fault Refusal :=
  .next (if s.seqState = 0 ∧ s.f F.MGW_BOOT_STAGE = 0 ∧ s.f F.MGW_STATUS_PHASE = 0 then s.tableRead a b else s)

/-- SEQ_SYNC_RISE (R362): in RUN the edges are ignored. -/
def execSeqSyncRise (s : State) : Host.Outcome State Fault Refusal :=
  .next (if s.seqState < 16 ∧ s.syncReleased then s.nextState else s)

/-- SEQ_GUARD_END (R363). -/
def execSeqGuardEnd (s : State) : Host.Outcome State Fault Refusal :=
  .next (if s.seqState = 0 ∨ 16 ≤ s.seqState ∨ s.supply.guard = false then s
    else
      let s := s.onSupply fun x => { x with guard := false }
      if s.index = 0 ∨ s.supply.chainIn then s.beginTurn else s)

/-- SEQ_CHAIN_IN (R363, R365). -/
def execSeqChainIn (level : Bool) (s : State) : Host.Outcome State Fault Refusal :=
  let s := s.onSupply fun x => { x with chainIn := level }
  .next (if s.inRun then (if s.index = 0 then s else s.onSupply fun x => { x with chainOut := level })
    else if 1 ≤ s.seqState ∧ s.seqState < 16 ∧ s.supply.guard = false ∧ s.supply.turn = 0 ∧ level ∧ s.index ≠ 0 then s.beginTurn
    else s)

/-- SEQ_CHAIN_RET (R362, R363). -/
def execSeqChainRet (level : Bool) (s : State) : Host.Outcome State Fault Refusal :=
  .next (s.onSupply fun x => { x with chainRet := level })

/-- RAIL_ENABLE_GAP (R363, R369). -/
def execRailEnableGap (s : State) : Host.Outcome State Fault Refusal :=
  .next (if s.supply.turn = 1 ∧ s.seqState < 16 then
    let due := (List.range 32).filter fun n => s.railUsed n && tStateOn s.table n == s.seqState && s.rstate n == 0
    let s := due.foldl (fun (t : State) n => ((t.enableRail n true).setR n 1).setF F.RL_EDGES_CHATTER_LAST 0 n) s
    (s.onSupply fun x => { x with turn := 2 }).turnCheck
  else s)

/-- CHAIN_LIMIT (R364). -/
def execChainLimit (s : State) : Host.Outcome State Fault Refusal :=
  .next (if s.seqState = 0 ∨ 16 ≤ s.seqState ∨ s.supply.guard then s
    else if s.index ≠ 0 ∧ s.supply.turn = 0 then
      ((s.bump F.SUP_TIMING_CHAIN_TIMEOUTS).event 0x0B05 [s.seqState, 0]).beginTurn
    else if s.index = 0 ∧ s.supply.turn = 3 ∧ s.supply.chainRet = false ∧ s.supply.retGiven = false then
      ((s.bump F.SUP_TIMING_CHAIN_TIMEOUTS).event 0x0B05 [s.seqState, 1]).onSupply fun x => { x with retGiven := true }
    else s)

/-- SYNC_LIMIT (R364). -/
def execSyncLimit (s : State) : Host.Outcome State Fault Refusal :=
  .next (if s.seqState < 16 ∧ s.syncReleased ∧ s.table ≠ [] then
    ((s.bump F.SUP_TIMING_SYNC_TIMEOUTS).event 0x0B06 [s.seqState]).nextState else s)

/-- CHATTER_EDGE (R368): an edge is counted, and the rail's greatest count kept. -/
def execChatterEdge (rail : Nat) (s : State) : Host.Outcome State Fault Refusal :=
  .next (if 32 ≤ rail ∨ s.rstate rail ≠ 1 then s
    else
      let s := s.bump F.RL_EDGES_CHATTER_LAST rail
      let n := s.f F.RL_EDGES_CHATTER_LAST rail
      (if s.f F.RL_EDGES_CHATTER_MAX rail < n then s.setF F.RL_EDGES_CHATTER_MAX n rail else s).setF F.RL_STATUS_GOOD_IN 0 rail)

/-- RAIL_SETTLE_DWELL (R368, R369): GOOD; the recorder takes the settle's edges (R441). -/
def execRailSettleDwell (rail : Nat) (s : State) : Host.Outcome State Fault Refusal :=
  .next (if 32 ≤ rail ∨ s.rstate rail ≠ 1 then s
    else (((s.setR rail 2).setF F.RL_STATUS_GOOD_IN 1 rail).extreme (65 + rail) (s.f F.RL_EDGES_CHATTER_LAST rail)).turnCheck)

/-- RAIL_SETTLE_LIMIT (R368, R369). -/
def execRailSettleLimit (rail : Nat) (s : State) : Host.Outcome State Fault Refusal :=
  .next (if 32 ≤ rail ∨ s.rstate rail ≠ 1 then s
    else ((s.event 0x0B04 [rail, s.f F.RL_EDGES_CHATTER_LAST rail]).extreme (65 + rail) (s.f F.RL_EDGES_CHATTER_LAST
      rail)).railFail rail)

/-- A sample of a good rail's SENSE input (R383, R441). -/
def State.senseSample (s : State) (rail code : Nat) : State :=
  let s := (s.setF F.RL_STATUS_SENSE_CODE code rail).extreme (33 + rail) code
  let s := if code < s.f F.RL_EXTREMES_MIN_CODE rail then s.setF F.RL_EXTREMES_MIN_CODE code rail else s
  if s.f F.RL_EXTREMES_MAX_CODE rail < code then s.setF F.RL_EXTREMES_MAX_CODE code rail else s

/-- RAIL_FAULT (R367, R370). -/
def execRailFault (rail code : Nat) (s : State) : Host.Outcome State Fault Refusal :=
  .next (if 32 ≤ rail ∨ s.rstate rail ≠ 2 then s
    else ((s.senseSample rail code).event 0x0B03 [rail, code, maskOf ((tDeps s.table rail).filter s.railOn)]).railFail rail)

/-- RAIL_WARNING (R367): of a LEVELS rail, once until it has been inside its warning levels again. -/
def execRailWarning (rail code : Nat) (s : State) : Host.Outcome State Fault Refusal :=
  .next (if 32 ≤ rail ∨ s.rstate rail ≠ 2 ∨ tLevels s.table rail = false ∨ s.flag F.RL_STATUS_WARN_NOW rail then s
    else
      let high := decide (bits (tRail s.table rail 1) 49 40 < code)
      (((s.senseSample rail code).setF F.RL_STATUS_WARN_NOW 1 rail).bump F.RL_EDGES_WARNINGS rail).event 0x0B02
        [rail, code, b2n high])

/-- RAIL_WARNING_CLEAR (R367). -/
def execRailWarningClear (rail : Nat) (s : State) : Host.Outcome State Fault Refusal :=
  .next (if 32 ≤ rail ∨ s.flag F.RL_STATUS_WARN_NOW rail = false then s else s.setF F.RL_STATUS_WARN_NOW 0 rail)

/-- RAIL_OFF_CONFIRMED (R372): a rail that is still above OFF_LEVEL at its limit counts as a fault. -/
def execRailOffConfirmed (rail : Nat) (off : Bool) (s : State) : Host.Outcome State Fault Refusal :=
  .next (if s.seqState = 17 ∧ s.supply.offDue.contains rail then
    (if off then s else s.bump F.RL_EDGES_FAULTS rail).onSupply fun x => { x with offDue := x.offDue.filter (· != rail) }
  else s)

/-- DISCHARGE_TEST_START (R376): `steady`: V has been at or above HU_VREADY_MV and changed by less than 0.2 % for 1 s. -/
def execDischargeTestStart (mv : Nat) (steady : Bool) (s : State) : Host.Outcome State Fault Refusal :=
  .next (s.testStart mv steady)

/-- DISCHARGE_TEST_ESR (R376): (v0 − v) ÷ i, in 0.1 mΩ. -/
def execDischargeTestEsr (mv : Nat) (s : State) : Host.Outcome State Fault Refusal :=
  let (v, s) := s.fresh
  .next (match s.supply.test with
    | some x =>
      -- with no test current the quotient has no stated value
      let y : BankTest := { x with stage := 1, esr := if s.huTestMa = 0 then v.toNat % 2 ^ 16 else (x.v0 - mv) * 10000 / s.huTestMa }
      if x.stage = 0 then s.onSupply fun z => { z with test := some y } else s
    | none => s)

/-- DISCHARGE_TEST_V1 (R376). -/
def execDischargeTestV1 (mv : Nat) (s : State) : Host.Outcome State Fault Refusal :=
  .next (match s.supply.test with
    | some x =>
      let y : BankTest := { x with stage := 2, v1 := mv }
      if x.stage = 1 then s.onSupply fun z => { z with test := some y } else s
    | none => s)

/-- ENGINE_CLOCK_GATE (R379). -/
def execEngineClockGate (engine : Nat) (s : State) : Host.Outcome State Fault Refusal :=
  .next (if 64 ≤ engine ∨ s.flag F.CLK_CTL_ENG_GATE_EN = false ∨ s.engineBusy engine ∨ s.supply.gatedEngines.contains engine ∨
      s.supply.gated.contains (engine / 8) then s
    else
      let s := s.onSupply fun x => { x with gatedEngines := engine :: x.gatedEngines }
      if (List.range 8).all fun i => s.supply.gatedEngines.contains (engine / 8 * 8 + i) then
        s.setBitF F.CLK_STATUS_CLOCKED 0 (engine / 8) false else s)

/-- CLUSTER_POWER_GATE (R379, R380). -/
def execClusterPowerGate (cluster : Nat) (s : State) : Host.Outcome State Fault Refusal :=
  .next (if 8 ≤ cluster ∨ s.flag F.CLK_CTL_CLUSTER_PG_EN = false ∨ s.supply.gated.contains cluster ∨
      !((List.range 8).all fun i => s.supply.gatedEngines.contains (cluster * 8 + i)) ∨
      (s.queuedInvs.any fun i => i.cluster == cluster) then s
    else s.gate cluster)

/-- BLOCK_POWER_GATE (R379). -/
def execBlockPowerGate (domain : Nat) (s : State) : Host.Outcome State Fault Refusal :=
  .next (if domain < 20 ∨ 22 < domain ∨ s.flag F.CLK_CTL_BLOCK_PG_EN = false ∨ s.supply.gated.contains domain ∨
      s.blockIdle domain = false then s
    else s.gate domain)

/-- DOMAIN_WAKE_DONE (R379 to R381). -/
def execDomainWakeDone (domain ns : Nat) (s : State) : Host.Outcome State Fault Refusal :=
  .next (if s.supply.gated.contains domain then (if domain = 23 then (s.woken domain ns).dramAwake else s.woken domain ns) else s)

/-- PLL_LOCK_LOSS (R370, R378): of the fabric, engine, DRAM or flash PLL in RUN it stops the device; which rail the stop names the
spec does not say. -/
def execPllLockLoss (pll : Nat) (s : State) : Host.Outcome State Fault Refusal :=
  .next (if 5 ≤ pll ∨ bit (s.f F.CLK_PLL_PLL_LOCK) pll = false then s
    else
      let s := ((s.setBitF F.CLK_PLL_PLL_LOCK 0 pll false).bump F.CLK_PLL_PLL_LOSSES).event 0x0B10 [2 ^ pll]
      if pll < 4 ∧ s.inRun then
        let (v, s) := s.fresh
        s.criticalStop (v.toNat % 32)
      else s)

end Sys2Proof.Machine
end

