-- ==== Sys2Proof/Machine/Security.lean ====
section
/-! DEFINITION. The security core (R409 to R423), seals and their records (R207, R427), the random source (R410), and CAL (R210). -/

namespace Sys2Proof.Machine

namespace State

/-- SEAL (R207): a request that the keeper answers when the seal is on the medium of both twins. -/
def sealOp (s : State) (t : Nat) (d : GReg) (hr : HReg) : State :=
  s.issue t (iword 0x8B d.toNat 0 0 hr.toNat 0 0) fun h =>
    match h.rh hr with
    | .region _ r _ _ rd _ _ =>
      if s.regionClass r ≠ Cls.log ∨ rd = false then s.fault t h 0x03
      else
        s.request t h (newPart (.thread t) .seal (s.leadDev r (s.frontier r)) r 0 0 [] []) fun p h s =>
          s.setThread t ((h.wg d p.result).adv 4)
    | _ => s.fault t h 0x04

/-- SCHEDULED_SEAL (R427): the keeper orders the seal that the last interval weir asked for. -/
def scheduledSeal (s : State) (j : Nat) : State :=
  if s.isKeeper j = false ∨ s.flash.run.isSome then s else s.orderMarked j

/-- SEAL_RECORD_WRITE (R427): the oldest seal ordered, once every append it covers has its MIRROR_ACK, one record at a time. -/
def sealRecordWrite (s : State) (j : Nat) : State :=
  let l := s.logSt j
  let r := s.logRegion j
  match l.due with
  | d :: _ =>
    let waits := s.dram.unsettled.any fun u => u.mirror.isSome && s.regionOfGran u.gran == some r
    let busy := s.parts.any fun e => match e.2.org with
      | .seal i _ => i == j
      | _ => false
    if !s.logValid j ∨ waits ∨ busy ∨ s.flash.run.isSome then s
    else
      let off := 256 * (d.seq % (s.regionLen (s.sealRegion j) * 256))
      let p := newPart (.seal j d.seq) .unit (s.leadDev (s.sealRegion j) off) (s.sealRegion j) off 256 (s.sealRecord j d) []
      let pid := s.nextPart
      let s := s.addPart p
      s.admission pid
  | [] => s

/-- IDKEY_ID of this device (R409). -/
def idkeyId (_ : State) : Nat := shakeId Config.identityKey
/-- OWNER_ID: 0 if unowned (R417). -/
def ownerId (s : State) : Nat := if s.flag F.SEC_STATUS_OWNED then shakeId s.sec.ownerKey else 0

/-- The attestation report (R417). -/
def attestReport (s : State) : List Byte :=
  let nonce := (List.range 8).map fun i => (s.word (F.ATT_NONCE.key 0 i)).toNat
  signedRecord ([(0x4154 <<< 48) ||| (1 <<< 40) ||| (s.sec.reports % 2 ^ 32), s.ident.toNat, s.idkeyId, s.sec.fwDigest.toNat,
    (s.f F.SEC_STATUS_FW_SVN <<< 58) ||| (s.f F.SEC_STATUS_FLOOR <<< 52) ||| (s.f F.SEC_STATUS_FW_COPY <<< 50) |||
      (s.f F.SEC_STATUS_OWNED <<< 49) ||| (b2n s.calValid <<< 48) ||| (s.f F.SEC_STATUS_FLASH_KEY_GEN <<< 32),
    tq s.table 1, s.digest, s.ownerId] ++ nonce ++ [s.calNow])

/-- A draw of the random source (R410). -/
def draw (s : State) : U64 × State := s.fresh

/-- CAL (R210). -/
def calOp (s : State) (t : Nat) (d : GReg) : State :=
  s.issue t (iword 0x9A d.toNat 0 0 0 0 0) fun h => s.setThread t ((h.wg d (BitVec.ofNat 64 s.calNow)).adv 4)

end State

/-- SEAL (R207). -/
def execSeal (t : Nat) (d : GReg) (h : HReg) (s : State) : Host.Outcome State Fault Refusal := .next (s.sealOp t d h)
/-- SCHEDULED_SEAL (R427). -/
def execScheduledSeal (slot : Nat) (s : State) : Host.Outcome State Fault Refusal :=
  .next (if 256 ≤ slot then s else s.scheduledSeal slot)
/-- SEAL_RECORD_WRITE (R427, R428). -/
def execSealRecordWrite (slot : Nat) (s : State) : Host.Outcome State Fault Refusal :=
  .next (if 256 ≤ slot then s else s.sealRecordWrite slot)
/-- RNG_HEALTH_FAIL (R410). -/
def execRngHealthFail (test : Nat) (s : State) : Host.Outcome State Fault Refusal :=
  .next ((s.setF F.SEC_STATUS_RNG_OK 0).event 0x0E0B [test])
/-- RNG_HEALTH_PASS (R410). -/
def execRngHealthPass (s : State) : Host.Outcome State Fault Refusal := .next (s.setF F.SEC_STATUS_RNG_OK 1)
/-- Every home is written again under the current flash key, with a value of the IV counter of its own (R423, R330). -/
def State.rewriteHomes (s : State) : State :=
  let n := s.f F.SEC_STATUS_FLASH_KEY_GEN
  let old := s.flash.homes.filter fun e => e.2.keyGen != n
  let s := (List.range old.length).foldl (fun (t : State) k => t.onFlash fun x =>
    { x with homes := x.homes.modify (old.getD k (0, ⟨0, 0, [], [], 0, 0, 0, 0, 0⟩)).1 fun r => { r with keyGen := n, iv := x.iv + 1 + k } }) s
  s.useIv old.length

/-- FLASH_KEY_ROTATION_DONE (R423): no block under an older key remains. -/
def execFlashKeyRotationDone (s : State) : Host.Outcome State Fault Refusal :=
  .next (if s.flag F.SEC_STATUS_ROTATING then
    (s.rewriteHomes.setF F.SEC_STATUS_ROTATING 0).event 0x0E07 [s.f F.SEC_STATUS_FLASH_KEY_GEN, 1] else s)
/-- ATTEST_REPORT_READY (R417): the report counts those before it; the count then goes on. -/
def execAttestReportReady (s : State) : Host.Outcome State Fault Refusal :=
  .next (if s.sec.attest then
    let r := s.attestReport
    { s with sec := { s.sec with report := r, attest := false, reports := s.sec.reports + 1 } }.event 0x0E0C [s.sec.reports + 1]
  else s)
/-- CAL (R210). -/
def execCal (t : Nat) (d : GReg) (s : State) : Host.Outcome State Fault Refusal := .next (s.calOp t d)

end Sys2Proof.Machine
end

