-- ==== Sys2Proof/Machine/Recorder.lean ====
section
/-! DEFINITION. The event recorder and the health items (R433 to R449): frames, their ring and lifetime totals, the clear log, the
predictions, and the junction sensors (R437, R468). -/

namespace Sys2Proof.Machine

/-! Frames (R438 to R443). -/

/-- Bin by bin addition, saturating. -/
def addBins (a b : SMap Nat) : SMap Nat := b.foldl (fun m e => m.set 0 e.1 (satAdd 32 (m.get 0 e.1) e.2)) a
/-- Extremes widened (R443). -/
def widenExtremes (a b : SMap (Int × Int)) : SMap (Int × Int) :=
  b.foldl (fun m e => m.put e.1 (match m.at? e.1 with
    | some (x, y) => (max x e.2.1, min y e.2.2)
    | none => e.2)) a
/-- The program histograms of a frame added to a lifetime frame's, pair by pair; the samples of a pair that finds no room are
dropped (R442, R443). -/
def addProg (a x : Frame) : Frame :=
  (x.index.zip (List.range x.index.length)).foldl (fun (y : Frame) e =>
    let mine := x.prog.filter fun b => b.1 / 64 == e.2
    let total := (mine.map Prod.snd).foldl (· + ·) 0
    match y.index.findIdx? (· == e.1), decide (y.index.length < 32) with
    | some i, _ => { y with prog := addBins y.prog (mine.map fun b => (64 * i + b.1 % 64, b.2)) }
    | none, true => { y with index := y.index ++ [e.1]
                             prog := addBins y.prog (mine.map fun b => (64 * y.index.length + b.1 % 64, b.2)) }
    | none, false => { y with dropped := satAdd 32 y.dropped total }) a

/-- A lifetime frame after one more hourly frame (R443). -/
def addFrame (kind : Nat) (a : Option Frame) (x : Frame) : Frame :=
  let y := a.getD { Frame.empty with calStart := x.calStart, powerStart := x.powerStart, calValid := x.calValid, kind := kind }
  let z : Frame := { y with
    seq := x.seq, seconds := satAdd 32 y.seconds x.seconds, resets := satAdd 16 y.resets x.resets,
    lostHours := satAdd 16 y.lostHours x.lostHours, events := satAdd 32 y.events x.events,
    eventsLost := satAdd 32 y.eventsLost x.eventsLost, dropped := satAdd 32 y.dropped x.dropped,
    extremes := widenExtremes y.extremes x.extremes, dev := addBins y.dev x.dev }
  addProg z x

namespace Frame

/-- Flags [3:0] of the header (R439). -/
def flags (x : Frame) : Nat := (b2n x.cleared <<< 3) ||| (b2n x.gap <<< 2) ||| (b2n x.partial_ <<< 1) ||| b2n x.calValid

/-- Word `j` of the frame's 2,048 (R439, R441). -/
def word (x : Frame) (j : Nat) : Nat :=
  if j < 8 then
    match j with
    | 0 => (x.seq <<< 32) ||| (x.kind <<< 4) ||| x.flags
    | 1 => x.calStart
    | 2 => x.powerStart
    | 3 => (x.seconds <<< 32) ||| (x.resets <<< 16) ||| x.lostHours
    | 4 => (x.events <<< 32) ||| x.eventsLost
    | 5 => x.dropped <<< 32
    | _ => 0
  else if j < 16 then
    (List.range 4).foldl (fun a i => a ||| ((match x.index[4 * (j - 8) + i]? with
      | some (slot, n) => 0x8000 ||| (n <<< 10) ||| slot
      | none => 0) <<< (16 * i))) 0
  else if j < 256 then
    match x.extremes.at? (j - 16) with
    | some (a, b) => ((BitVec.ofInt 32 a).toNat <<< 32) ||| (BitVec.ofInt 32 b).toNat
    | none => 0x800000007FFFFFFF
  else if j < 768 then x.dev.get 0 (2 * (j - 256)) ||| (x.dev.get 0 (2 * (j - 256) + 1) <<< 32)
  else if j < 1792 then x.prog.get 0 (2 * (j - 768)) ||| (x.prog.get 0 (2 * (j - 768) + 1) <<< 32)
  else 0

end Frame

namespace State

def onRec (s : State) (f : Recorder → Recorder) : State := { s with recd := f s.recd }

/-- Powered seconds as the open frame's age gives them (R433, R443). -/
def powerTo (s : State) (openSecs : Nat) : State :=
  let p := s.recd.frame.powerStart + openSecs
  (s.onRec fun x => { x with powered := p, frame := { x.frame with seconds := openSecs } }).setF F.HL_LIFE_POWER_HOURS (p / 3600)

/-- Open the next frame (R438, R439). -/
def openFrame (s : State) (cleared gap : Bool) (lost : Nat) : State :=
  let f : Frame := { Frame.empty with cleared := cleared, gap := gap, lostHours := Nat.min 0xFFFF lost, calValid := s.calValid
                                      calStart := s.calNow, powerStart := s.recd.powered }
  s.onRec fun x => { x with frame := f }

/-- The oldest frame in the ring; the open one's number with none (R443). -/
def ringBounds (s : State) : State :=
  s.setF F.REC_RING_OLDEST_SEQ (match s.recd.ring with
    | e :: _ => e.1
    | [] => s.f F.REC_RING_NEXT_SEQ)

/-- A frame is written to the ring, and added to the lifetime frames (R438, R443): its powered hour names its year. -/
def storeFrame (s : State) (x : Frame) : State :=
  let n := s.f F.REC_RING_NEXT_SEQ
  let x : Frame := { x with seq := n }
  let year := Nat.min 32 (x.powerStart / 3600 / 8760 + 1)
  let s := (s.useIv 1).onRec fun y => { y with
    ring := (y.ring.put n x).filter fun e => decide (n < e.1 + 8760)
    checkpoint := none
    life := (y.life.put 0 (addFrame 1 (y.life.at? 0) x)).put year (addFrame 2 (y.life.at? year) x) }
  ((s.setF F.REC_RING_NEXT_SEQ (n + 1)).ringBounds).event 0x0F01 [n, x.flags]
/-- A frame that cannot be written is lost and counted (R438): its number is used up, and the next frame tells of the gap. -/
def loseFrame (s : State) (x : Frame) : State :=
  let n := s.f F.REC_RING_NEXT_SEQ
  let hours := (x.seconds + 3599) / 3600
  let s := (((s.onRec fun y => { y with checkpoint := none }).setF F.REC_RING_NEXT_SEQ (n + 1)).ringBounds).bump F.REC_STATS_FRAMES_LOST
  (s.event 0x0F02 [n, hours]).openFrame false true (x.lostHours + hours)

/-- A checkpoint left by a cold reset is closed as a partial frame at the next boot, and the hours between it and the new frame
are lost (R438); with none, the frame is. Without the calendar the hours are not known. -/
def recorderBoot (s : State) : State :=
  match s.recd.checkpoint with
  | some c =>
    if !c.partial_ then s
    else
      let last := c.calStart + c.seconds * 1000000
      let (v, s) := s.fresh
      let hours := if s.recd.rtcSet ∧ c.calStart ≠ 0 then (s.calNow - last) / 3600000000 else v.toNat % 65536
      let s := (s.storeFrame c).bump F.REC_STATS_FRAMES_LOST
      (s.onFrame fun f => { f with gap := true, lostHours := Nat.min 0xFFFF hours }).event 0x0F02 [s.f F.REC_RING_NEXT_SEQ - 1, hours]
  | none => s

/-! Predictions (R433 to R436). -/

/-- The module of an item, and whether a rank of it carries an erasure mark (R304, R436). -/
def moduleMarked (s : State) (c m : Nat) : Bool :=
  (s.flag F.CH_ERASE_EVALID0 c && s.moduleOf c (s.f F.CH_ERASE_ERANK0 c) == m) ||
    (s.flag F.CH_ERASE_EVALID1 c && s.moduleOf c (s.f F.CH_ERASE_ERANK1 c) == m)
/-- A DRAM module's item that R436 forces. -/
def itemForced (s : State) (i : Nat) : Bool := decide (17 ≤ i) && s.moduleMarked ((i - 17) / 2) ((i - 17) % 2)

/-- C_MIN in mF (R436), rounded down: `free` where the divisor is not above 0, where the spec states none. -/
def cMin (s : State) (free : Nat) : Nat :=
  let d := s.huEff * (s.recd.v0 * s.recd.v0 - s.huVmin * s.huVmin)
  if d = 0 then free else s.f F.HU_CTL_HU_MIN_J * 2048 * 10 ^ 9 / d

/-- An item's limit (R433). -/
def healthLimit (s : State) (i free : Nat) : Nat :=
  match i with
  | 0 => 30000
  | 1 => s.f F.FL_WEAR_PE_LIMIT
  | 2 => 5000000
  | 3 => Nat.max ((s.recd.bank0.getD (0, 0)).1 * 8 / 10) (s.cMin free)
  | 4 => 2 * (s.recd.bank0.getD (0, 0)).2
  | _ => if i ≤ 16 then s.f F.HL_CTL_EYE_MIN_MUI else s.f F.HL_LIMITS_CORR_DAY_LIMIT
/-- The metric falls toward its limit: bank capacitance and eye margins. -/
def healthFalls (i : Nat) : Bool := i == 3 || decide (5 ≤ i ∧ i ≤ 16)
/-- The transform of a metric and of its limit, and the fit axis of an item (R433). -/
def healthY (i m : Nat) : Rat := if i = 0 then Config.ln m else if i = 2 ∨ 17 ≤ i then Config.ln (m + 1) else m
def healthX (i t : Nat) : Rat := if i = 0 then Config.ln t else t
def healthHours (i : Nat) (x : Rat) : Rat := if i = 0 then Config.exp x else x

/-- The fit of R434: intercept, slope and the slope's standard error; of samples that all lie at one point of the axis the slope
and its error are not stated. -/
def leastSquares (ps : List (Rat × Rat)) : Rat × Rat × Rat :=
  let n : Rat := ps.length
  let mx := (ps.map Prod.fst).sum / n
  let my := (ps.map Prod.snd).sum / n
  let sxx := (ps.map fun p => (p.1 - mx) * (p.1 - mx)).sum
  let sxy := (ps.map fun p => (p.1 - mx) * (p.2 - my)).sum
  let b := if sxx = 0 then Config.fitSlope ps else sxy / sxx
  let a := my - b * mx
  let res := (ps.map fun p => (p.2 - a - b * p.1) * (p.2 - a - b * p.1)).sum
  (a, b, if sxx = 0 then Config.fitError ps else Config.sqrt (res / (n - 2) / sxx))

/-- HORIZON as the day fields report it (R434). -/
def horizon : Nat := 0xFFFFF

/-- What predict returns (R434): 0 INSUFFICIENT, 4 REACHED, else 2 with the days to the limit, the early and the late edge. -/
def predict (i limit now : Nat) (ps : List (Nat × Nat)) : Nat × Nat × Nat × Nat :=
  let need := if i = 3 ∨ i = 4 then 5 else 336
  if ps.length < need then (0, 0, 0, 0)
  else
    let dir : Rat := if healthFalls i then -1 else 1
    let (a, b, se) := leastSquares (ps.map fun p => (healthX i p.1, healthY i p.2))
    let x := healthX i now
    let y := a + b * x
    let lim := healthY i limit
    let m : Rat := ((ps.getLast?.map Prod.snd).getD 0 : Nat)
    if 0 ≤ dir * (y - lim) ∨ 0 ≤ dir * (m - (limit : Rat)) then (4, 0, 0, 0)
    else
      let days (k : Rat) : Nat :=
        if 0 < dir * k then
          let d := ((healthHours i (x + (lim - y) / k) - now) / 24).floor.toNat
          if 36500 < d then horizon else d
        else horizon
      let e := days b
      let u := days (b - 1645 / 1000 * se)
      let v := days (b + 1645 / 1000 * se)
      (2, e, Nat.min e (Nat.min u v), Nat.max e (Nat.max u v))

/-- An item is populated (R433). -/
def healthPopulated (s : State) (i : Nat) : Bool :=
  if i < 17 then true
  else s.flag F.CH_STATUS_TRAINED ((i - 17) / 2) && decide ((i - 17) % 2 < s.f F.DRM_CTL_MODS_PER_CH)

/-- The samples of an item within WINDOW_DAYS (R434). -/
def healthWindow (s : State) (i : Nat) : List (Nat × Nat) :=
  let now := s.recd.powered / 3600
  ((s.recd.samples.get [] i)).filter fun p => decide (now < p.1 + 24 * s.f F.HL_CTL_WINDOW_DAYS)

/-- Recompute an item (R434, R435, R436). -/
def healthItem (s : State) (i : Nat) : State :=
  let ps := s.healthWindow i
  let (w, s) := s.fresh
  let limit := s.healthLimit i (w.toNat % 2 ^ 32)
  let m := (ps.getLast?.map Prod.snd).getD 0
  let base := s.f F.HL_BASE_BASELINE i
  let (r, eol, early, late) := predict i limit (s.recd.powered / 3600) ps
  let marked := s.itemForced i
  let st := if marked then 4 else if r = 0 ∨ r = 4 then r
    else if early ≤ s.f F.HL_CTL_WARN_DAYS then 3 else if eol = horizon then 1 else 2
  let (eol, early, late) := if marked then (0, 0, 0) else (eol, early, late)
  -- with the limit equal to the baseline the quotient of R435 is not stated
  let (v, s) := s.fresh
  let q : Int := ((limit : Int) - base)
  let pct : Nat := if marked then 0 else if ps.isEmpty then 0
    else if q = 0 then v.toNat % 101 else (min 100 (max 0 ((100 * ((limit : Int) - m)).fdiv q))).toNat
  let old := s.f F.HL_STATE_STATE i
  let s := ((s.setF F.HL_STATE_STATE st i).setF F.HL_STATE_REMAIN_PCT pct i).setF F.HL_STATE_SAMPLES ps.length i
  let s := ((s.setF F.HL_EOL_EOL_DAYS eol i).setF F.HL_EOL_EARLY_DAYS early i).setF F.HL_EOL_LATE_DAYS late i
  let s := ((s.setF F.HL_METRIC_METRIC m i).setF F.HL_METRIC_LIMIT (if ps.isEmpty then 0 else limit) i).setF F.HL_PRED_CAL_PRED_CAL
    s.calNow i
  if st = old then s else s.event 0x0F07 [i, st, early]

/-- Take a sample of an item (R433); the first is its baseline (R435). -/
def healthSample (s : State) (i m : Nat) : State :=
  let now := s.recd.powered / 3600
  let old := s.recd.samples.get [] i
  let s := if old.isEmpty then s.setF F.HL_BASE_BASELINE m i else s
  s.onRec fun x => { x with samples := x.samples.put i ((old.filter fun p => decide (now < p.1 + 24 * 365)) ++ [(now, m)]) }

/-- The lines corrected in a module over the last 24 h are its hourly sample (R433). -/
def moduleSample (s : State) (i : Nat) : State :=
  if !s.healthPopulated i then s
  else
    let hours := (s.recd.lines.get 0 i :: s.recd.hours.get [] i).take 24
    (s.onRec fun x => { x with lines := x.lines.del i, hours := x.hours.put i hours }).healthSample i (hours.foldl (· + ·) 0)
/-- The hourly samples of the items that are taken (R433, R441): item 1 from PE_AVG, the modules from the device's own corrections; an
octet while its role is not OFF. -/
def hourlySamples (s : State) (xs : List (Nat × Nat)) : State :=
  let s := ((List.range 32).map (17 + ·)).foldl moduleSample (s.healthSample 1 (s.f F.FL_WEAR_PE_AVG))
  xs.foldl (fun (t : State) e =>
    let (i, m) := e
    if i = 0 ∨ i = 2 then t.healthSample i m
    else if 5 ≤ i ∧ i ≤ 16 then
      if t.f F.LNK_CTL_ROLE (i - 5) = 0 then t else (t.healthSample i m).extreme (99 + (i - 5)) m
    else t) s

/-- The frame closes (R438): the items are recomputed, it is stored or lost, the next one opens. -/
def closeFrame (s : State) (openSecs : Nat) (y : FrameInput) : State :=
  let s := (s.powerTo openSecs).hourlySamples y.samples
  let items := (List.range 49).filter fun i => i != 3 && i != 4 && s.healthPopulated i &&
    (s.itemForced i || !(s.recd.samples.get [] i).isEmpty)
  let s := items.foldl healthItem s
  if y.written then (s.storeFrame s.recd.frame).openFrame false false 0 else s.loseFrame s.recd.frame

/-- The bank items at an accepted test (R433, R434): the first after the bank was declared new gives C0 and ESR0. -/
def bankSamples (s : State) : State :=
  let c := s.f F.HU_CAP_CAP_MF
  let e := s.f F.HU_CAP_ESR
  let s := if s.recd.bank0.isNone then s.onRec fun x => { x with bank0 := some (c, e) } else s
  (((s.healthSample 3 c).healthSample 4 e).healthItem 3).healthItem 4

/-- A bank declared new (R436). -/
def newBank (s : State) : State :=
  let s := s.onRec fun x => { x with bank0 := none, samples := (x.samples.del 3).del 4 }
  (s.healthItem 3).healthItem 4

/-! Clearing and loading (R445, R446, R448). -/

/-- The recorder is cleared (R445): `sel` bit 0 HOURLY, bit 1 OPEN; the lifetime frames keep the discarded hours. -/
def clearRecorder (s : State) (sel : Nat) : State :=
  let hourly := sel.testBit 0
  let n := s.f F.REC_RING_NEXT_SEQ
  let f := s.recd.frame
  let x : Frame := { f with seq := n }
  let year := Nat.min 32 (x.powerStart / 3600 / 8760 + 1)
  let first := if hourly then s.f F.REC_RING_OLDEST_SEQ else n
  let gone := (if hourly then s.recd.ring.length else 0) + 1
  let entry := s.recd.clears.length
  let e : List U64 := [BitVec.ofNat 64 s.calNow, BitVec.ofNat 64 ((first <<< 32) ||| n), BitVec.ofNat 64 s.ownerId,
    BitVec.ofNat 64 ((sel <<< 56) ||| (b2n s.calValid <<< 8) ||| entry)]
  let s := s.onRec fun y => { y with
    ring := if hourly then [] else y.ring, clears := y.clears ++ [e], checkpoint := none
    life := (y.life.put 0 (addFrame 1 (y.life.at? 0) x)).put year (addFrame 2 (y.life.at? year) x) }
  let s := ((s.setF F.REC_RING_NEXT_SEQ (n + 1)).setF F.REC_STATS_CLEARS (entry + 1)).ringBounds
  (s.openFrame true false 0).event 0x0F03 [entry, gone]

/-- REC_SEL commits (R448): the selected frame is loaded. -/
def selectFrame (s : State) : State :=
  ((s.onRec fun x => { x with loading := true, loaded := none }).setF F.REC_SEL_LOADED 0).setF F.REC_SEL_MISSING 0
/-- The selected frame has been read (R448). -/
def frameLoaded (s : State) : State :=
  let n := s.f F.REC_SEL_FRAME
  let x := if s.flag F.REC_SEL_LIFE then s.recd.life.at? n else s.recd.ring.at? n
  let s := s.onRec fun y => { y with loading := false, loaded := x }
  (s.setF F.REC_SEL_LOADED (b2n x.isSome)).setF F.REC_SEL_MISSING (b2n x.isNone)

/-! Calendar trims (R444). -/

/-- A signed 32-bit field. -/
def signed32 (v : Nat) : Int := (BitVec.ofNat 32 v).toInt
/-- TRIM_STACK commits a value other than 0 (R444); `token`: a SET_CALENDAR token commits at the same weir. -/
def trim (s : State) (token : Bool) : State :=
  let at_ := s.f F.REC_TRIM_AT_TRIM_STACK
  let off : Int := (s.f F.REC_TRIM_CAL_TRIM_CAL : Int) + ((s.time : Int) - at_) / 1000 - s.calNow
  let s := s.setF F.REC_TRIM_AT_TRIM_STACK 0
  if !s.calValid then s.event 0x0F06 [1]
  else if 2000000 < off.natAbs then s.event 0x0F06 [2]
  else if token then s.event 0x0F06 [3]
  else
    let now := s.calNow
    let old := signed32 (s.f F.REC_TRIMSTAT_RATE_PPB)
    let rate := match s.recd.lastTrim with
      | some t => if t + 3600000000 ≤ now then max (-100000) (min 100000 (old + off * 1000000000 / ((now : Int) - t))) else old
      | none => old
    let s := s.onRec fun x => { x with slew := off * 10 ^ 12, lastTrim := some now }
    let s := (s.setF F.REC_TRIMSTAT_RATE_PPB (BitVec.ofInt 32 rate).toNat).setF F.REC_TRIMSTAT_LAST_OFFSET_US (BitVec.ofInt 32 off).toNat
    s.event 0x0F05 [(BitVec.ofInt 32 off).toNat, (BitVec.ofInt 32 rate).toNat]
/-- A SET_CALENDAR token's action (R415): the RTC is ARG0 plus the stack time since ARG1; the time since the last accepted trim
stays what it was (R444). -/
def setCalendar (s : State) (cal at_ : Nat) : State :=
  let us : Int := (cal : Int) + ((s.time : Int) - at_) / 1000
  let old := s.calNow
  let s := (s.onRec fun x => { x with rtc := (us * 10 ^ 12).toNat, rtcSet := true, slew := 0
                                      lastTrim := x.lastTrim.map fun t => t + us - old }).setF F.SEC_STATUS_CAL_VALID 1
  s.event 0x0E06 (w64 s.calNow)
/-- The RTC over one nanosecond of the moss crystal: 10⁹ units, RATE_PPB of them more, and at most 200 ppm of the slew (R444). -/
def rtcTick (s : State) : State :=
  let lim : Int := 200000
  let d : Int := max (-lim) (min lim s.recd.slew)
  s.onRec fun x => { x with rtc := (x.rtc + 1000000000 + signed32 (s.f F.REC_TRIMSTAT_RATE_PPB) + d).toNat, slew := x.slew - d }

/-! The junction sensors (R437, R440, R441, R468). -/

/-- A junction temperature of more than 105 °C in the reach: the highest is kept (R437, R471). -/
def hotReach (s : State) (v : Nat) : State :=
  let old := match s.reach.find? fun e => e.code == 0x0F09 with
    | some e => e.dat.headD 0
    | none => 0
  s.reachEvent 0x0F09 0 [Nat.max old v]
/-- The hottest junction sensor is read (R437). -/
def junctionRead (s : State) (v : Int) : State :=
  let t : Rat := v / 8
  let r : Rat := 81235 / 10 * (1 / (35315 / 100) - 1 / (t + 27315 / 100))
  let eq := s.recd.eq80 + Config.exp r / 3600
  let s := s.onRec fun x => { x with eq80 := eq }
  let old := s.f F.HL_LIFE_PCT_LIFE_USED_PCT
  let pct := Nat.min 255 (100 * eq / 219000).floor.toNat
  let s := (s.setF F.HL_LIFE_EQ80_HOURS eq.floor.toNat).setF F.HL_LIFE_PCT_LIFE_USED_PCT pct
  let s := if old / 10 < pct / 10 then s.event 0x0F08 [pct] else s
  let c := Nat.min 255 (v / 8).toNat
  let s := if s.f F.HL_LIFE_PCT_TJ_MAX_C < c then s.setF F.HL_LIFE_PCT_TJ_MAX_C c else s
  let s := (s.histBin 13 (Nat.min 63 (v / 16).toNat)).extreme 0 v
  if 105 * 8 < v then s.hotReach v.toNat else s

/-- HIST (R210, R442). -/
def histOp (s : State) (t : Nat) (a : GReg) (imm : Imm) : State :=
  s.issue t (iword 0x9B 0 a.toNat 0 0 0 imm) fun h =>
    (s.progSample (if h.ctl then 0x3FF else h.slot) imm.toNat (h.rg a).toNat).setThread t (h.adv 4)

/-- The flash tier serves the recorder: the boot is past stage 0x06 and no save runs (R438). -/
def recorderFlash (s : State) : Bool := decide (6 ≤ s.f F.MGW_BOOT_STAGE) && s.flash.run.isNone

end State

open State

/-- HIST (R210). -/
def execHist (t : Nat) (a : GReg) (imm : Imm) (s : State) : Host.Outcome State Fault Refusal := .next (s.histOp t a imm)
/-- FRAME_CLOSE (R438): at a weir with the frame open for 3,600 s. -/
def execFrameClose (openSecs : Nat) (samples : FrameInput) (s : State) : Host.Outcome State Fault Refusal :=
  .next (if 3600 ≤ openSecs ∧ s.recorderFlash then s.closeFrame openSecs samples else s)
/-- RECORDER_CHECKPOINT (R438). -/
def execRecorderCheckpoint (openSecs : Nat) (s : State) : Host.Outcome State Fault Refusal :=
  .next (if s.recorderFlash then
    let s := s.powerTo openSecs
    let f := s.recd.frame
    (s.useIv 1).onRec fun x => { x with checkpoint := some f }
  else s)
/-- FRAME_LOAD_DONE (R448). -/
def execFrameLoadDone (s : State) : Host.Outcome State Fault Refusal := .next (if s.recd.loading then s.frameLoaded else s)
/-- JUNCTION_SENSOR_READ (R437): in units of 0.125 °C. -/
def execJunctionSensorRead (eighths : Int) (s : State) : Host.Outcome State Fault Refusal := .next (s.junctionRead eighths)
/-- THERM_TRIP (R468). -/
def execThermTrip (s : State) : Host.Outcome State Fault Refusal := .next { s with pins := { s.pins with thermTrip := true } }
/-- THERM_TRIP_RELEASE (R468). -/
def execThermTripRelease (s : State) : Host.Outcome State Fault Refusal := .next { s with pins := { s.pins with thermTrip := false } }

/-- DISCHARGE_TEST_END (R376): the voltage, and the microseconds since v1. -/
def execDischargeTestEnd (mv us : Nat) (s : State) : Host.Outcome State Fault Refusal :=
  .next (match s.supply.test with
    | some x => if x.stage = 2 ∧ mv + s.huTestDv ≤ x.v1 then (s.testAccept x mv us).bankSamples else s
    | none => s)
/-- DISCHARGE_TEST_TIMEOUT (R376): NO_DROP; C and ESR stay. -/
def execDischargeTestTimeout (s : State) : Host.Outcome State Fault Refusal :=
  .next (match s.supply.test with
    | some x =>
      if x.stage ≠ 2 then s
      else
        let s := ((s.onSupply fun y => { y with test := none, endTest := some (s.time : Int) }).setF F.HU_GAUGE_TESTING 0).bump
          F.HU_TESTS_TESTS_ABORTED
        (s.setF F.HU_TESTS_LAST_RESULT 3).event 0x0B0B [3]
    | none => s)

end Sys2Proof.Machine
end

