-- ==== Sys2Proof/Machine/Control.lean ====
section
/-! DEFINITION. Control words as programs reach them (R208, R209, R218 to R223): addresses, the fields of a word, what a read
returns, the pending image, and the checks of CFGS and CFGI on a word. -/

namespace Sys2Proof.Machine

/-- The words of a record of a space; 0 where the record does not exist (R219). -/
def recordWords (sp r : Nat) : Nat :=
  match sp with
  | 1 | 2 | 16 | 17 => if r = 0 then 8 else 0
  | 3 => if r < 12 then 8 else 0
  | 4 | 14 | 18 => if r = 0 then 16 else 0
  | 5 => if r < 65536 then 3080 else 0
  | 6 => if r < 65536 then 8 else 0
  | 7 => if r < 270336 then 16 else 0
  | 8 => if r < 1024 then 4160 else if r = 1024 then 8 else 0
  | 9 => if r < 8 then 8 else 0
  | 10 => if r < 16 then 8 else 0
  | 11 => if r < 256 then 4368 else 0
  | 12 => if r < 16 then 8 else if r = 16 then 16 else 0
  | 13 => if r < 33 then 8 else 0
  | 15 => if r < 32 then 8 else if r = 32 then 16 else 0
  | 19 => if r = 0 then 80 else if r = 1 then 32 else if r < 258 then 8 else 0
  | 20 => if r = 0 then 8 else if r = 1 then 2048 else if r = 2 then 1024 else 0
  | 21 => if r < 50 then 8 else 0
  | _ => 0

/-- The word of a key exists. -/
def wordExists (k : Nat) : Bool := decide (keyWord k < recordWords (keySpace k) (keyRec k))

/-- The fields of a word. -/
def fieldsOfWord (k : Nat) : List FRow :=
  let r := keyRec k
  let w := keyWord k
  (spaceRows (keySpace k)).filter fun x => decide (x.rl ≤ r ∧ r ≤ x.rh ∧ x.wl ≤ w ∧ w ≤ x.wh ∧ (w - x.wl) % x.stride = 0)
/-- The bits of a field. -/
def FRow.mask (x : FRow) : Nat := (2 ^ (x.hi + 1 - x.lo) - 1) <<< x.lo
/-- The bits of a word's fields of an access code; the bits of all its fields. -/
def accMask (a : Acc) (k : Nat) : Nat := (fieldsOfWord k).foldl (fun m x => if x.acc = a then m ||| x.mask else m) 0
def definedMask (k : Nat) : Nat := (fieldsOfWord k).foldl (fun m x => m ||| x.mask) 0
def stMask (k : Nat) : Nat := accMask .st k
/-- The bits of `new` under a mask over `old`. -/
def mergeBits (old new : U64) (mask : Nat) : U64 := (old &&& ~~~(BitVec.ofNat 64 mask)) ||| (new &&& BitVec.ofNat 64 mask)
/-- Every bit of a mask is stack-wide in the word (R219). -/
def isWide (k mask : Nat) : Bool := mask != 0 && (mask &&& wideMask k) == mask

/-- The encodings and the range of the fields of an access code in a value (R4, R220): code 2, 3, or 0. -/
def rangeCode (k : Nat) (a : Acc) (v : U64) : Nat :=
  let fs := (fieldsOfWord k).filter fun x => x.acc == a
  let val (x : FRow) : Nat := bits v.toNat x.hi x.lo
  if fs.any fun x => x.resv != 0 && decide (x.resv ≤ val x) then 2
  else if fs.all fun x => (x.ok.isEmpty || x.ok.any fun i => decide (i.1 ≤ val x ∧ val x ≤ i.2)) && val x % x.align == 0 then 0
  else 3

/-- The bits that a group's word changes as it commits: the ST fields, and of a domain and of a slot also what the close adds to
the group (R172, R410): the secrets, and the proof. -/
def commitMask (k : Nat) : Nat :=
  if keySpace k = 5 ∧ keyWord k = 1 then 2 ^ 48 - 1
  else if keySpace k = 5 ∧ keyWord k = 2 then 2 ^ 16 - 1
  else if keySpace k = 8 ∧ keyRec k < 1024 ∧ keyWord k = 2 then 2 ^ 53 - 1
  else stMask k

namespace State

/-! Addresses (R218). -/

/-- A control address: the device named, if REMOTE is set, and the key; none where it names no word. -/
def ctlTarget (s : State) (a : U64) : Option (Option Nat × Nat) :=
  let n := a.toNat
  let k := n % 2 ^ 48
  let dev := bits n 55 50
  if bits n 63 57 ≠ 0 ∨ bits n 49 48 ≠ 0 ∨ !wordExists k then none
  else if bits n 56 56 = 0 then some (none, k)
  else if isWide k (definedMask k) || isWide k (stMask k) then some (none, k)
  else if s.present dev then some (some dev, k)
  else none
/-- The address of a per-device word of a device. -/
def devAddr (dev k : Nat) : Nat := 2 ^ 56 + dev * 2 ^ 50 + k

/-! What a read returns (R208): the committed word, and what is computed as it is read. -/

/-- A word with a field in it replaced. -/
def putField (v : U64) (x : Fld) (n : Nat) : U64 := BitVec.ofNat 64 (setBits v.toNat x.hi x.lo n)

/-- The committed value of a word as CFGR gives it. -/
def readWord (s : State) (k : Nat) : U64 :=
  let v := s.word k
  let r := keyRec k
  let w := keyWord k
  match keySpace k with
  | 1 => if w = 0 then s.ident else v
  | 7 => if w = 13 then s.elogSlot r (s.f F.Q_CMD_ELOG_SEL r) (s.f F.Q_CMD_ELOG_WORD r) else v
  | 9 =>
    if w = 1 then
      putField (putField (putField v F.CCH_STATUS_LOCKED (s.cache r).locked) F.CCH_STATUS_SCRATCH (s.cache r).scratches)
        F.CCH_STATUS_DIRTY (s.cache r).dirties
    else v
  | 11 => if w = 8 then putField v F.STR_ERR_WAIT_NOW (Nat.min 65535 (s.waiters r).length) else v
  | 14 => if w = 3 then putField v F.SV_BUDGET_DIRTY_MIB (mib s.dirtyBytes) else v
  | 17 => if w = 1 then putField v F.TWIN_STATUS_SIDE s.side else v
  | 18 =>
    if w = 6 then BitVec.ofNat 64 s.digest
    else if w = 11 then putField v F.STK_TIME_TIME_AGE_US (Nat.min (2 ^ 32 - 1) ((s.time - s.stk.lastTime) / 1000))
    else v
  | 19 =>
    if r = 1 then BitVec.ofNat 64 (ofBytes ((s.sec.report.drop (8 * w)).take 8))
    else if 2 ≤ r then (if w = 5 then putField v F.LOG_STAT_KEEPER (b2n (s.isKeeper (r - 2))) else v)
    else if 4 ≤ w ∧ w ≤ 11 then BitVec.ofNat 64 (ofBytes ((Config.identityKey.drop (8 * (w - 4))).take 8))
    else if 12 ≤ w ∧ w ≤ 26 then BitVec.ofNat 64 (ofBytes ((Config.identityCert.drop (8 * (w - 12))).take 8))
    else v
  | 20 =>
    if r = 0 then (if w = 2 then BitVec.ofNat 64 s.calNow else v)
    else if r = 1 then (match s.recd.loaded with
      | some f => BitVec.ofNat 64 (f.word w)
      | none => 0)
    else (s.recd.clears.getD (w / 4) []).getD (w % 4) 0
  | _ => v

/-- The reads that change a word (R110, R265, R298, R319, R408): the peaks, the lowest free count, the ZQ runs, the largest time error. -/
def afterRead (s : State) (k : Nat) : State :=
  let r := keyRec k
  match keySpace k, keyWord k with
  | 4, 10 => s.setF F.TP_QUEUE_STAT_EDDY_PEAK 0
  | 10, 1 => s.setF F.POOL_STATUS_LOW_FREE (s.poolFree r) r
  | 11, 8 => s.setF F.STR_ERR_WAIT_PEAK 0 r
  | 12, 5 => if r < 16 then s.setF F.CH_REFRESH_ZQ_RUNS 0 r else s
  | 18, 11 => s.setF F.STK_TIME_TIME_ERR_MAX 0
  | _, _ => s

/-! The pending image (R220). -/

/-- The words of a group over the control words. -/
def withWords (s : State) (ws : List (Nat × U64)) : State :=
  ws.foldl (fun (t : State) w => t.setWord w.1 (mergeBits (t.word w.1) w.2 (commitMask w.1))) s
/-- The committed state with every closed group that has not committed, in close order. -/
def pendingImage (s : State) : State := s.stage.groups.foldl (fun (t : State) g => t.withWords g.words) s
/-- The words of staged words that this device will hold. -/
def ownWords (s : State) (g : List Staged) : List (Nat × U64) :=
  g.filterMap fun x => if x.dev = none ∨ x.dev = some s.index then some (x.key, x.v) else none
/-- The staged words of this device, open and closed (R220). -/
def stagedCount (s : State) : Nat :=
  (s.stage.opened.getD []).length + (s.stage.closing.getD []).length +
    s.stage.groups.foldl (fun n g => n + g.words.length) 0

/-! The interlocks of DURABLE_EN (R235). -/

/-- Conditions 1 to 4. -/
def durableGood (s : State) : Bool :=
  s.flag F.SV_STATUS_ARMED && s.flag F.HU_GAUGE_GAUGE_OK && !s.flag F.SV_STATUS_IMAGE &&
    ((s.f F.TWIN_CTL_PAIR_MODE == 1 && s.tstate == TS.mirrored) || s.f F.TWIN_CTL_PAIR_MODE == 2)
/-- A value of LNK_CTL sets DURABLE_EN only as the interlocks allow: of ports that the same value enables. -/
def durableAllowed (s : State) (octet : Nat) (v : U64) : Bool :=
  let new := (bitsOf 8 (bits v.toNat 47 40)).filter fun p => !bit (s.f F.LNK_CTL_DURABLE_EN octet) p
  new.isEmpty || (s.durableGood && new.all fun p => bit (bits v.toNat 55 48) p)

/-! State rules of CFGS, by space: `i` is the pending image, `own` the words of the open group. A rule holds or the code is 3. -/

/-- The field of a value of its word. -/
def fld (v : U64) (x : Fld) : Nat := bits v.toNat x.hi x.lo
/-- The group gives a word's field the value `n`. -/
def groupSays (own : List (Nat × U64)) (x : Fld) (r n : Nat) : Bool := own.any fun w => w.1 == x.key r 0 && fld w.2 x == n
/-- The ST fields of a value are those of the image, but for a mask. -/
def sameBut (i : State) (k : Nat) (v : U64) (free : Nat) : Bool :=
  let m := stMask k &&& (2 ^ 64 - 1 - free)
  (v.toNat &&& m) == ((i.word k).toNat &&& m)

/-- STANDBY_EN is 1 in the committed state or the image (R381). -/
def standbyOn (s i : State) : Bool := s.flag F.CLK_CTL_STANDBY_EN || i.flag F.CLK_CTL_STANDBY_EN

/-- REGION (R18, R28, R45). -/
def ruleRegion (s i : State) (k : Nat) (v : U64) : Bool :=
  let r := keyRec k
  if keyWord k = 7 then fld v F.REG_CMD_REOPEN == 0 || s.f F.REG_STATE_REVOKE_STATE r == 2
  else if !i.regionValid r then true
  else i.sameBut k v (if keyWord k = 0 then 2 ^ 63 else 0) &&
    (keyWord k != 0 || fld v F.REG_SHAPE_VALID == 1 || s.f F.REG_STATE_REVOKE_STATE r == 2)
/-- DOMAIN (R29, R46). -/
def ruleDomain (s i : State) (k : Nat) (v : U64) : Bool :=
  let r := keyRec k
  let w := keyWord k
  if w = 0 then
    fld v F.DOM_CTL_VALID == 1 || !i.flag F.DOM_CTL_VALID r ||
      (!s.flag F.DOM_CTL_DRAIN_PENDING r && !(s.queues.any fun e => s.qDomain e.1 == r))
  else if 8 ≤ w ∧ w % 3 = 2 then
    !(v.toNat.testBit 63) || (i.word k).toNat.testBit 63 || !s.flag F.DOM_CTL_DRAIN_PENDING r
  else true
/-- LINK (R76, R235, R381). -/
def ruleLink (s i : State) (k : Nat) (v : U64) : Bool :=
  let o := keyRec k
  if keyWord k ≠ 0 then true
  else
    let role := i.f F.LNK_CTL_ROLE o
    (fld v F.LNK_CTL_ROLE == role ||
      (i.f F.LNK_CTL_PORT_EN o == 0 && (role != 2 || i.f F.TWIN_CTL_PAIR_MODE == 0))) &&
    s.durableAllowed o v &&
    !(standbyOn s i && (bitsOf 8 (fld v F.LNK_CTL_PORT_EN)).any fun p => !bit (i.f F.LNK_CTL_PORT_EN o) p)
/-- TWIN (R57): NONE, and SOLO from PAIRED, not while a durable region lies on the pair. -/
def ruleTwin (i : State) (k : Nat) (v : U64) : Bool :=
  let old := i.f F.TWIN_CTL_PAIR_MODE
  let new := fld v F.TWIN_CTL_PAIR_MODE
  keyWord k != 0 || new == old || !(new == 0 || (old == 1 && new == 2)) || i.durableHere.isEmpty
/-- QUEUE (R145). -/
def ruleQueue (s i : State) (k : Nat) (v : U64) : Bool :=
  let q := keyRec k
  let w := keyWord k
  let valid := i.flag F.Q_CTL_QVALID q
  if w = 0 then (!valid || i.sameBut k v (2 ^ 63)) && (fld v F.Q_CTL_QVALID == 0 || s.qState q != QS.closing)
  else w == 9 || !valid
/-- PROGRAM (R183): HDECL0 is 0 or 1. -/
def ruleProgram (k : Nat) (v : U64) : Bool := keyWord k != 8 || decide (bits v.toNat 63 61 ≤ 1)
/-- A pool of 0 to 5 may be turned off (R253). -/
def poolMayStop (s : State) (p : Nat) : Bool :=
  let noPort := (List.range 12).all fun o => s.f F.LNK_CTL_ROLE o != 1 || s.f F.LNK_CTL_PORT_EN o == 0
  match p with
  | 0 | 2 => noPort
  | 1 => noPort && s.eng.threads.all fun e => e.2.ctl
  | 3 => (List.range 12).all fun o => s.f F.LNK_CTL_ROLE o < 2
  | 4 => !(s.ctl.any fun e => keySpace e.1 == 6 && keyWord e.1 == 0 && s.regionValid (keyRec e.1) &&
      s.regionClass (keyRec e.1) == Cls.stream)
  | 5 => !s.flag F.SV_STATUS_ARMED && !s.flag F.FL_CTL_WB_EN
  | _ => true
/-- POOL (R253, R261, R265). -/
def rulePool (s i : State) (k : Nat) (v : U64) : Bool :=
  let p := keyRec k
  if keyWord k ≠ 0 then true
  else
    let on := fld v F.POOL_CTL_POOL_EN
    (5 < p || (fld v F.POOL_CTL_ENG_OPEN == 0 && fld v F.POOL_CTL_SIZE_LOG2 == (poolLayout p).1)) &&
    (i.sameBut k v (2 ^ 63) || (s.f F.POOL_STATUS_STATE p == 0 && on == 0)) &&
    (on == 1 || i.f F.POOL_CTL_POOL_EN p == 0 || s.poolMayStop p)
/-- STREAM (R283, R381). -/
def ruleStream (s i : State) (own : List (Nat × U64)) (k : Nat) (v : U64) : Bool :=
  let r := keyRec k
  let st := s.strState r
  let valid := i.flag F.STR_CTL_SVALID r
  let drops := groupSays own F.STR_CTL_SVALID r 0 || (keyWord k == 0 && fld v F.STR_CTL_SVALID == 0)
  match keyWord k with
  | 0 =>
    (fld v F.STR_CTL_OPEN == 0 || i.flag F.STR_CTL_OPEN r || (st == SS.idle && !standbyOn s i)) &&
    (fld v F.STR_CTL_SVALID == 1 || !valid || st == SS.empty || st == SS.idle) &&
    (!valid || drops || i.sameBut k v (3 * 2 ^ 62))
  | 1 => !valid || drops || i.sameBut k v 0
  | 4 => fld v F.STR_LOAD_LOAD == 0 || !standbyOn s i
  | _ => true
/-- FLASH (R352): write-behind is not stopped while ARM is 1. -/
def ruleFlash (i : State) (k : Nat) (v : U64) : Bool :=
  keyRec k != 32 || keyWord k != 2 || fld v F.FL_CTL_WB_EN == 1 || !i.flag F.SV_CTL_ARM
/-- SAVE (R337). -/
def ruleSave (s i : State) (k : Nat) (v : U64) : Bool :=
  match keyWord k with
  | 0 => fld v F.SV_CTL_ARM == 1 || !i.flag F.SV_CTL_ARM || (List.range 12).all fun o => s.f F.LNK_CTL_DURABLE_EN o == 0
  | 1 =>
    i.sameBut k v 0 ||
      (!i.flag F.SV_CTL_ARM &&
        decide (s.f F.FL_CAP_HOME_USED_GIB ≤ (s.setF F.SV_AREA_SAVE_AREA_GIB (fld v F.SV_AREA_SAVE_AREA_GIB)).homeCap))
  | _ => true
/-- SUPPLY (R377): HU_MIN_J is not below the table's value. -/
def ruleSupply (s : State) (k : Nat) (v : U64) : Bool :=
  keyRec k != 32 || keyWord k != 3 || decide (bits (tq s.table 4) 31 0 ≤ fld v F.HU_CTL_HU_MIN_J)
/-- The shapes allowed (R385). -/
def shapeAllowed (w h : Nat) : Bool := ((w == 1 || w == 2) && h == 1) || ((w == 4 || w == 6 || w == 8) && decide (1 ≤ h ∧ h ≤ 8))
/-- STACK (R385, R403): no valid region names a pair outside the shape. -/
def ruleStack (i : State) (k : Nat) (v : U64) : Bool :=
  let w := fld v F.STK_CTL_SHAPE_W
  let h := fld v F.STK_CTL_SHAPE_H
  keyWord k != 0 ||
    (shapeAllowed w h &&
      (i.ctl.all fun e =>
        !(keySpace e.1 == 6 && keyWord e.1 == 0 && i.regionValid (keyRec e.1)) ||
          (i.regionPairs (keyRec e.1)).all fun p => (shapeOf w h).contains (2 * p)))
/-- SECURITY (R432): bytes 57 to 63 of OWNER_NEW are 0. -/
def ruleSecurity (k : Nat) (v : U64) : Bool := keyRec k != 0 || keyWord k != 42 || decide (v.toNat < 256)

/-- The state rules of a word. -/
def stageRule (s : State) (own : List (Nat × U64)) (k : Nat) (v : U64) : Bool :=
  let i := s.pendingImage
  match keySpace k with
  | 3 => ruleLink s i k v
  | 5 => ruleDomain s i k v
  | 6 => ruleRegion s i k v
  | 7 => ruleQueue s i k v
  | 8 => ruleProgram k v
  | 10 => rulePool s i k v
  | 11 => ruleStream s i own k v
  | 13 => ruleFlash i k v
  | 14 => ruleSave s i k v
  | 15 => ruleSupply s k v
  | 17 => ruleTwin i k v
  | 18 => ruleStack i k v
  | 19 => ruleSecurity k v
  | _ => true

/-- The checks of CFGS on a word of this device (R4, R209, R220): the result code. -/
def stageCode (s : State) (own : List (Nat × U64)) (k : Nat) (v : U64) : Nat :=
  if (v.toNat &&& (2 ^ 64 - 1 - definedMask k)) ≠ 0 then 2
  else if stMask k = 0 then 3
  else if rangeCode k .st v ≠ 0 then rangeCode k .st v
  else if s.stageRule own k v then 0 else 3

end State

end Sys2Proof.Machine
end

