-- ==== Sys2Proof/Machine/Close.lean ====
section
/-! DEFINITION. The checks of a close (R221): those of each device on its own words, and those of the master on stack-wide words;
the owner token (R414 to R416) and the verification of staged programs (R172). In each check `i` is the pending image before the
group, `j` the image with it, and `ws` the words of the group that the device holds. -/

namespace Sys2Proof.Machine

/-- The group holds a word of a space. -/
def touches (ws : List (Nat × U64)) (sp : Nat) : Bool := ws.any fun w => keySpace w.1 == sp
/-- The records of a space that the group touches. -/
def touchedRecs (ws : List (Nat × U64)) (sp : Nat) : List Nat := ((ws.filter fun w => keySpace w.1 == sp).map fun w => keyRec w.1).eraseDups

namespace State

/-- A flag that the group takes from 0 to 1. -/
def rises (i j : State) (x : Fld) (r : Nat) : Bool := !i.flag x r && j.flag x r
/-- The group's own word asks for a one-shot action. -/
def asks (ws : List (Nat × U64)) (x : Fld) (r : Nat) : Bool := groupSays ws x r 1
def falls (i j : State) (x : Fld) (r : Nat) : Bool := i.flag x r && !j.flag x r
/-- The valid regions; the valid mappings of every domain: domain, mapping. -/
def validRegions (s : State) : List Nat :=
  ((s.ctl.filter fun e => keySpace e.1 == 6 && keyWord e.1 == 0).map fun e => keyRec e.1).filter s.regionValid
def validMaps (s : State) : List (Nat × Nat) :=
  (s.ctl.filter fun e => keySpace e.1 == 5 && decide (8 ≤ keyWord e.1) && keyWord e.1 % 3 == 2 && e.2.toNat.testBit 63).map fun e =>
    (keyRec e.1, (keyWord e.1 - 8) / 3)
/-- A mapping: domain granule, region, region granule, granules. -/
def mapBase (s : State) (d m : Nat) : Nat := bits (s.word (mapWord d m 0)).toNat 51 16
def mapRegion (s : State) (d m : Nat) : Nat := bits (s.word (mapWord d m 1)).toNat 63 48
def mapFrom (s : State) (d m : Nat) : Nat := bits (s.word (mapWord d m 1)).toNat 33 0
def mapLen (s : State) (d m : Nat) : Nat := bits (s.word (mapWord d m 2)).toNat 33 0

/-! Links and transport (R76, R109, R110, R235). -/

/-- MAC_BASE of an octet is written, or the image writes it (R6). -/
def macWritten (s : State) (ws : List (Nat × U64)) (o : Nat) : Bool :=
  let k := F.LNK_MAC_MAC_BASE.key o 0
  s.written.contains k || (ws.any fun w => w.1 == k) || s.stage.groups.any fun g => g.words.any fun w => w.1 == k

def closeLink (s i j : State) (ws : List (Nat × U64)) : Bool :=
  let count (role : Nat) : Nat := ((List.range 12).filter fun o => j.f F.LNK_CTL_ROLE o == role).length
  decide (count 2 ≤ 2 ∧ count 3 ≤ 4) &&
  (touchedRecs ws 3).all fun o =>
    (s.macWritten ws o || (bitsOf 8 (j.f F.LNK_CTL_PORT_EN o)).all fun p => bit (i.f F.LNK_CTL_PORT_EN o) p) &&
    (!j.flag F.LNK_CTL_PFC_EN o || j.f F.LNK_CTL_BRAID_PCP o != j.f F.LNK_CTL_PFC_PRIO o) &&
    s.durableAllowed o (j.word (F.LNK_CTL_ROLE.key o 0))
def closeTransport (j : State) : Bool :=
  decide (j.f F.TP_BRAID_RTO_MIN ≤ j.f F.TP_BRAID_RTO_MAX ∧ j.f F.TP_CC_BETA_MIN ≤ j.f F.TP_CC_BETA_MAX ∧
    j.f F.TP_EDDY_EDDY_HEADROOM < j.f F.TP_EDDY_EDDY_XON)

/-! Queues and pools (R112, R145, R261). -/

def closeQueueRec (i j : State) (q : Nat) : Bool :=
  !rises i j F.Q_CTL_QVALID q ||
    (decide (j.qDepth q ≤ 2 ^ j.f F.Q_RING_CQ_LOG2 q) && j.flag F.DOM_CTL_VALID (j.qDomain q) &&
      (j.isBraid q || decide (q < 262144)))
def pinned (s : State) : Nat :=
  (s.ctl.filter fun e => keySpace e.1 == 7 && keyWord e.1 == 0 && e.2.toNat.testBit 63 && e.2.toNat.testBit 61).length
def closeQueues (i j : State) (ws : List (Nat × U64)) : Bool :=
  ((touchedRecs ws 7).all fun q => closeQueueRec i j q) && decide (j.pinned ≤ 6144)
/-- A pool's span in KiB. -/
def poolSpan (s : State) (p : Nat) : Nat × Nat :=
  (s.f F.POOL_CTL_BASE_KIB p, s.f F.POOL_CTL_COUNT p * 2 ^ s.f F.POOL_CTL_SIZE_LOG2 p / 1024)
def closePools (s i j : State) (ws : List (Nat × U64)) : Bool :=
  (touchedRecs ws 10).all fun p =>
    !rises i j F.POOL_CTL_POOL_EN p ||
      (let (base, size) := j.poolSpan p
       j.f F.POOL_CTL_COUNT p * 2 ^ j.f F.POOL_CTL_SIZE_LOG2 p % 65536 == 0 && base % 64 == 0 && decide (base + size ≤ 131072) &&
        (List.range 16).all fun o =>
          o == p || (s.f F.POOL_STATUS_STATE o == 0 && !j.flag F.POOL_CTL_POOL_EN o) ||
            (let (b, n) := j.poolSpan o
             decide (base + size ≤ b ∨ b + n ≤ base)))

/-! Save and standby (R337, R347, R349, R381). -/

/-- The region table as the image carries it differs from the stack's: the words of REGION but REG_STATE's per-device fields. -/
def tableWords (s : State) : SMap U64 :=
  s.ctl.filterMap fun e =>
    if keySpace e.1 = 6 ∧ keyWord e.1 ≤ 6 then
      let v : U64 := if keyWord e.1 = 6 then e.2 &&& BitVec.ofNat 64 (3 * 2 ^ 62) else e.2
      if v = 0 then none else some (e.1, v)
    else none
def writtenSave (s : State) (ws : List (Nat × U64)) : Bool :=
  let k := F.SV_CTL_PSAVE_W.key 0 0
  (s.written.contains k || (ws.any fun w => w.1 == k) || s.stage.groups.any fun g => g.words.any fun w => w.1 == k)
def closeArm (s i j : State) (ws : List (Nat × U64)) : Bool :=
  !rises i j F.SV_CTL_ARM 0 ||
    (s.writtenSave ws && j.f F.SV_AREA_SAVE_AREA_GIB != 0 && s.flag F.HU_GAUGE_GAUGE_OK && s.f F.POOL_STATUS_STATE 5 == 1 &&
      j.flag F.FL_CTL_WB_EN && !s.flag F.SV_STATUS_IMAGE && s.f F.SV_STATUS_SAVE_STATE != 7 && decide (6 ≤ s.f F.MGW_BOOT_STAGE))
def closeRestore (s : State) (ws : List (Nat × U64)) : Bool :=
  !asks ws F.SV_CMD_RESTORE 0 ||
    (s.flag F.SV_STATUS_IMAGE && (s.f F.SV_STATUS_IMAGE_KIND == 1 || s.f F.SV_STATUS_IMAGE_KIND == 2) &&
      (s.validRegions.isEmpty || (match s.flash.image with
        | some x => decide ((x.table.filter fun e => keySpace e.1 == 6) = s.tableWords)
        | none => false)))
def closeStandby (s i j : State) : Bool :=
  !rises i j F.CLK_CTL_STANDBY_EN 0 ||
    (((List.range 12).all fun o => s.f F.LNK_CTL_PORT_EN o == 0) && s.dram.dirty.isEmpty && s.supply.test.isNone &&
      s.strAll.all fun r => !s.strRunning r && !s.flag F.STR_STATUS_LOAD_BUSY r)

/-! Owner tokens (R414 to R416). -/

/-- The token and the new owner key that an image stages; the token's quadwords. -/
def tokenBytes (s : State) : List Byte := (List.range 32).flatMap fun w => toBytes 8 (s.word (F.TOKEN.key 0 w)).toNat
def ownerNew (s : State) : List Byte := ((List.range 8).flatMap fun w => toBytes 8 (s.word (F.OWNER_NEW.key 0 w)).toNat).take 57
def tokenQ (s : State) (n : Nat) : Nat := ofBytes ((s.tokenBytes.drop (8 * n)).take 8)
def tokenKind (s : State) : Nat := bits (s.tokenQ 0) 39 32
/-- The group stages a token; OWNER_NEW. -/
def stagesToken (ws : List (Nat × U64)) : Bool := ws.any fun w => keySpace w.1 == 19 && keyRec w.1 == 0 && decide (43 ≤ keyWord w.1 ∧ keyWord w.1 ≤ 74)
def stagesOwner (ws : List (Nat × U64)) : Bool := ws.any fun w => keySpace w.1 == 19 && keyRec w.1 == 0 && decide (35 ≤ keyWord w.1 ∧ keyWord w.1 ≤ 42)

/-- The arguments of a token are in range (R412, R415, R423, R445). -/
def tokenArgs (s j : State) (ws : List (Nat × U64)) : Bool :=
  let a0 := j.tokenQ 3
  let a1 := j.tokenQ 4
  let a2 := j.tokenQ 5
  match j.tokenKind with
  | 1 => decide (1 ≤ a0 ∧ a0 ≤ 3 ∧ s.recd.clears.length < 256) && a1 == 0 && a2 == 0
  | 2 => a2 == 0
  | 3 => decide (s.f F.SEC_STATUS_FLOOR ≤ a0 ∧ a0 ≤ s.f F.SEC_STATUS_FW_SVN) && a1 == 0 && a2 == 0
  | 4 => !s.flag F.SEC_STATUS_ROTATING && a0 == 0 && a1 == 0 && a2 == 0
  | 5 => stagesOwner ws && a0 == shakeId j.ownerNew && a1 == 0 && a2 == 0
  | 6 => s.flag F.SV_STATUS_IMAGE && a0 == s.f F.SV_STATUS_IMAGE_SEQ && a1 == 0 && a2 == 0
  | _ => false
/-- The first check of R416 that fails; 0: none. -/
def tokenReason (s j : State) (ws : List (Nat × U64)) : Nat :=
  let b := j.tokenBytes
  let q0 := j.tokenQ 0
  if bits q0 63 48 ≠ 0x4F54 ∨ bits q0 47 40 ≠ 1 ∨ bits q0 31 0 ≠ 0 ∨ (List.range 11).any (fun n => j.tokenQ (6 + n) != 0) ∨
      (b.drop 250).any (· != 0) ∨ j.tokenKind = 0 ∨ 6 < j.tokenKind then 1
  else if !s.flag F.SEC_STATUS_OWNED then 2
  else if j.tokenQ 1 ≠ s.idkeyId then 3
  else if j.tokenQ 2 ≠ s.f F.SEC_NONCE_TOKEN_NONCE ∨ s.stage.groups.any (fun g => stagesToken g.words) then 4
  else if !Config.ed448Verify s.sec.ownerKey (b.take 136) ((b.drop 136).take 114) then 5
  else if s.tokenArgs j ws then 0 else 6
/-- Check a staged token: its events, its record, and whether it is accepted. -/
def checkToken (s j : State) (ws : List (Nat × U64)) : State × Bool :=
  if !stagesToken ws then (s, true)
  else
    let kind := j.tokenKind
    let reason := s.tokenReason j ws
    let s := (s.setF F.SEC_TOKSTAT_LAST_KIND kind).setF F.SEC_TOKSTAT_REASON reason
    if reason = 0 then ((s.bump F.SEC_TOKSTAT_ACCEPTED).event 0x0E04 [kind], true)
    else
      let s := (s.bump F.SEC_TOKSTAT_REFUSED).event 0x0E05 [kind, reason]
      (if reason = 6 ∧ kind = 1 then s.event 0x0F04 [if 256 ≤ s.recd.clears.length then 1 else 2] else s, false)

/-- The other checks on the SECURITY words and DISCARD (R410, R413, R415). -/
def closeSecurity (s j : State) (ws : List (Nat × U64)) : Bool :=
  (!asks ws F.SEC_CTL_TAKE_OWNER 0 || !s.flag F.SEC_STATUS_OWNED) &&
  (!asks ws F.SV_CMD_DISCARD 0 ||
    (s.flag F.SV_STATUS_IMAGE && stagesToken ws && j.tokenKind == 6 && j.tokenQ 3 == s.f F.SV_STATUS_IMAGE_SEQ)) &&
  (s.flag F.SEC_STATUS_RNG_OK || !(stagesToken ws || asks ws F.SEC_CTL_ATTEST 0))

/-! LOG slots (R424). -/

/-- The seal region of a slot is right, and no mapping of it carries WRITE or ATOMIC. -/
def slotSeal (j : State) (n : Nat) : Bool :=
  let r := j.logRegion n
  let g := j.sealRegion n
  j.regionValid g && j.regionClass g == Cls.durable && j.regionPairs g == j.regionPairs r && (j.regionPairs g).length == 1 &&
    decide (1 ≤ j.regionLen g) && !((List.range 256).any fun m => m != n && j.logValid m && j.sealRegion m == g)
def sealMapped (j : State) (g : Nat) : Bool :=
  j.validMaps.any fun e => j.mapRegion e.1 e.2 == g &&
    ((j.word (mapWord e.1 e.2 0)).toNat.testBit 61 || (j.word (mapWord e.1 e.2 0)).toNat.testBit 60)
def closeLogs (i j : State) (ws : List (Nat × U64)) : Bool :=
  ((List.range 256).all fun n => !j.logValid n || ((!(touchedRecs ws 19).contains (2 + n) || j.slotSeal n) &&
      (!(touches ws 5 || (touchedRecs ws 19).contains (2 + n)) || !j.sealMapped (j.sealRegion n)))) &&
  (touchedRecs ws 6).all fun r =>
    !(rises i j F.REG_SHAPE_VALID r && j.regionClass r == Cls.log && (j.regionPairs r).contains i.pair) ||
      ws.any fun w => keySpace w.1 == 19 && decide (2 ≤ keyRec w.1) && keyWord w.1 == 0 && w.2.toNat.testBit 63 &&
        bits w.2.toNat 47 32 == r

/-! Regions on this device (R17, R323). -/

def closeRegionsHere (i j : State) (ws : List (Nat × U64)) : Bool :=
  let cap := j.f F.DRM_CAP_CAP_GIB * 2 ^ 14
  let homes := (j.durableHere.map fun r => j.regionLen r / j.regionK r).foldl (· + ·) 0
  let new := (touchedRecs ws 6).filter fun r => j.regionValid r && (j.regionPairs r).contains j.pair
  (new.all fun r =>
    decide (j.regionBase r + j.regionLen r / j.regionK r ≤ cap) &&
      (!j.isDurable r || (j.present (j.index ^^^ 1) || j.f F.TWIN_CTL_PAIR_MODE == 2))) &&
  (!(new.any fun r => rises i j F.REG_SHAPE_VALID r && j.isDurable r) || decide (homes ≤ j.f F.FL_CAP_HOME_GIB * 2 ^ 14))

/-! Streams on this device (R274, R283, R386). -/

def closeLoadHere (s : State) (ws : List (Nat × U64)) : Bool :=
  (touchedRecs ws 11).all fun r =>
    !asks ws F.STR_LOAD_LOAD r || !s.strHolds r ||
      (s.strState r != SS.filling && s.strState r != 6 && !s.flag F.STR_STATUS_LOAD_BUSY r)
/-- This device has CASCADE octets for its neighbours in a staged shape. -/
def closeOctets (j : State) (ws : List (Nat × U64)) : Bool :=
  !(ws.any fun w => w.1 == F.STK_CTL_SHAPE_W.key 0 0) ||
    !(shapeOf j.shapeW j.shapeH).contains j.index ||
    decide ((if 1 < j.shapeW then 2 else 0) + (if 1 < j.shapeH then 2 else 0) ≤
      ((List.range 12).filter fun o => j.f F.LNK_CTL_ROLE o == 3).length)

/-- The checks of a device on the words it holds (R221), but for the token. -/
def closeOwn (s i j : State) (ws : List (Nat × U64)) : Bool :=
  (!touches ws 3 || s.closeLink i j ws) && (!touches ws 4 || j.closeTransport) && (!touches ws 7 || closeQueues i j ws) &&
  (!touches ws 10 || s.closePools i j ws) && (!touches ws 14 || (s.closeArm i j ws && s.closeRestore ws)) &&
  (!touches ws 16 || s.closeStandby i j) && s.closeSecurity j ws && closeLogs i j ws &&
  (!touches ws 6 || closeRegionsHere i j ws) && (!touches ws 11 || s.closeLoadHere ws) && j.closeOctets ws
/-- All the checks of this device on its words of a group (R221, R416). -/
def checkOwn (s : State) (ws : List (Nat × U64)) : State × Bool :=
  let i := s.pendingImage
  let j := i.withWords ws
  let ok := s.closeOwn i j ws
  let (s, tok) := s.checkToken j ws
  (s, ok && tok)

/-! Stack-wide words (R17, R45, R47, R183, R266, R273, R274, R281, R283, R403, R410, R424). -/

/-- A region's own placement, and its overlaps. -/
def regionPlaced (j : State) (r : Nat) : Bool :=
  let ps := j.regionPairs r
  let lo := j.regionBase r
  let hi := lo + j.regionLen r / j.regionK r
  j.regionLen r != 0 && j.regionLen r % j.regionK r == 0 && ps.eraseDups.length == ps.length &&
  (j.regionClass r != Cls.log || j.regionK r == 1) &&
  (ps.all fun p => j.isMember (2 * p) || j.isMember (2 * p + 1)) &&
  j.validRegions.all fun o => o == r ||
    !((j.regionPairs o).any ps.contains) ||
    decide (hi ≤ j.regionBase o ∨ j.regionBase o + j.regionLen o / j.regionK o ≤ lo)
/-- A mapping after the group (R47). -/
def mapPlaced (j : State) (d m : Nat) : Bool :=
  let v := (j.word (mapWord d m 0)).toNat
  let r := j.mapRegion d m
  let lo := j.mapBase d m
  let hi := lo + j.mapLen d m
  let cls := j.regionClass r
  j.regionValid r && decide (1 ≤ j.mapLen d m ∧ j.mapFrom d m + j.mapLen d m ≤ j.regionLen r ∧ hi ≤ 2 ^ 36) &&
    !(v.testBit 61 && cls == Cls.stream) && !(v.testBit 60 && (cls == Cls.log || cls == Cls.stream)) &&
    j.validMaps.all fun e => e.1 != d || e.2 == m || decide (hi ≤ j.mapBase d e.2 ∨ j.mapBase d e.2 + j.mapLen d e.2 ≤ lo)
/-- The entries of a schedule in force: segments from 1 and rising, deadlines not falling (R281). -/
def scheduleOk (j : State) (r : Nat) : Bool :=
  let n := j.f F.STR_RELEASE_SCHED_LEN r
  let seg (e : Nat) : Nat := j.f F.STR_SCHED_SEG r e
  let at_ (e : Nat) : Nat := j.f F.STR_SCHED_DEADLINE_US r e
  (List.range n).all fun e => decide (1 ≤ seg e) && (e == 0 || decide (seg (e - 1) < seg e ∧ at_ (e - 1) ≤ at_ e))
/-- A stream record that becomes valid (R266, R273, R283). -/
def streamDefined (j : State) (r : Nat) : Bool :=
  let g := j.strRegion r
  j.regionValid g && j.regionClass g == Cls.stream && !((List.range 256).any fun o => o != r && j.flag F.STR_CTL_SVALID o && j.strRegion o == g) &&
    decide (2 ≤ j.strN r ∧ j.strN r ≤ j.strSegs r) && j.regionLen g == j.strN r * j.strGran r * j.regionK g &&
    (!j.flag F.STR_RELEASE_SCHED_EN r || j.scheduleOk r)
/-- A LOAD's source (R274): each image takes at least one granule. -/
def loadSource (j : State) (r : Nat) : Bool :=
  let src := j.f F.STR_LOAD_SRC_REGION r
  j.regionValid src && j.regionClass src != Cls.stream &&
    decide (j.f F.STR_LOAD_SRC_SRC_GRAN r + j.f F.STR_LOAD_SEG_N r ≤ j.regionLen src ∧
      j.f F.STR_LOAD_SEG_FIRST r + j.f F.STR_LOAD_SEG_N r ≤ j.strSegs r)
/-- The group would draw domain secrets (R20): the domains. -/
def drawsFor (i j : State) (ws : List (Nat × U64)) : List Nat :=
  (touchedRecs ws 5).filter fun d => rises i j F.DOM_CTL_VALID d || asks ws F.DOM_REKEY_REDRAW d
/-- The mappings that a group sets or changes while they are valid. -/
def mapsTouched (j : State) (ws : List (Nat × U64)) : List (Nat × Nat) :=
  (((ws.filter fun w => keySpace w.1 == 5 && decide (8 ≤ keyWord w.1)).map fun w => (keyRec w.1, (keyWord w.1 - 8) / 3)).eraseDups).filter
    fun e => (j.word (mapWord e.1 e.2 0)).toNat.testBit 63

/-- The master's checks on the stack-wide words (R221). -/
def closeWide (s i j : State) (ws : List (Nat × U64)) : Bool :=
  ((touchedRecs ws 6).all fun r => !j.regionValid r || j.regionPlaced r) &&
  ((touchedRecs ws 6).all fun r => !falls i j F.REG_SHAPE_VALID r ||
    !((List.range 256).any fun t => j.flag F.STR_CTL_SVALID t && j.strRegion t == r)) &&
  ((j.mapsTouched ws).all fun e => j.mapPlaced e.1 e.2) &&
  ((touchedRecs ws 11).all fun r => (!rises i j F.STR_CTL_SVALID r || j.streamDefined r) && (!asks ws F.STR_LOAD_LOAD r || j.loadSource r)) &&
  (s.flag F.SEC_STATUS_RNG_OK || (drawsFor i j ws).isEmpty) &&
  (!(ws.any fun w => w.1 == F.STK_CTL_SHAPE_W.key 0 0) ||
    (shapeOf j.shapeW j.shapeH).all fun d => s.isMember d || s.stk.joiners.contains d)
/-- A slot changed on one twin is written alike on the other, where there is one (R424). `all` is the whole group by address. -/
def closeTwinSlots (s : State) (all : List (Nat × U64)) : Bool :=
  all.all fun w =>
    let k := w.1 % 2 ^ 48
    let d := bits w.1 55 50
    !(keySpace k == 19 && decide (2 ≤ keyRec k ∧ keyWord k ≤ 1)) || !s.isMember (d ^^^ 1) ||
      (d / 2 == s.pair && s.f F.TWIN_CTL_PAIR_MODE == 2) || all.contains (devAddr (d ^^^ 1) k, w.2)

/-! Programs (R172, R183). -/

/-- The slots of a group that hold a program after it. -/
def slotsStaged (j : State) (ws : List (Nat × U64)) : List Nat :=
  (touchedRecs ws 8).filter fun r => decide (r < 1024) && j.flag F.PRG_CTL_PVALID r
/-- IMAGE_DIGEST of a slot: words 0, 1 and 8 to 15, then the instruction words. -/
def imageDigest (j : State) (slot : Nat) : Nat :=
  let ws := [0, 1] ++ (List.range 8).map (8 + ·) ++ (List.range (j.f F.PRG_CTL_NINSTR slot)).map (64 + ·)
  ofBytes ((Config.shake256 (ws.flatMap fun w => toBytes 8 (j.word (wkey 8 slot w)).toNat) 4).take 4) % 2 ^ 32
/-- Verify the staged programs of a group on the device that closes it; the proofs of those that pass go with the group. -/
def verifyStaged (s j : State) : List Nat → List (Nat × U64) → State × Option (List (Nat × U64))
  | [], acc => (s, some acc)
  | r :: rest, acc =>
    let v := verify (j.flag F.PRG_CTL_CTLMODE r) (j.f F.PRG_CTL_NINSTR r) (j.f F.PRG_LIMITS_BUDGET r) (j.slotDecls r) (j.slotImage r)
    let s := (((s.setF F.PRG_VSTAT_VSLOT r).setF F.PRG_VSTAT_VERR v.verr).setF F.PRG_VSTAT_VPC v.pc).setF F.PRG_VSTAT_VSCOPE v.scope
    if v.verr ≠ 0 then (s.event 0x0401 [r, v.verr, v.scope, v.pc], none)
    else verifyStaged s j rest (acc ++ [(wkey 8 r 2, BitVec.ofNat 64 (v.worst <<< 32 ||| j.imageDigest r))])

end State

end Sys2Proof.Machine
end

