-- ==== Sys2Proof/Machine/Commit.lean ====
section
/-! DEFINITION. What a stage group does as it commits on this device (R18, R20, R28, R29, R57, R77, R129, R142, R173, R261, R274,
R283, R337, R347, R349, R376, R381, R403, R413, R415, R417, R424, R436, R444, R448): `i` is the state before the group, `s` the
state with its words, `ws` the words. A field that reads 0 is cleared as its action is taken. -/

namespace Sys2Proof.Machine

namespace State

/-! REGION. -/

/-- The granules of a region on this pair; none where no device of the pair holds it. -/
def regionSpan (s : State) (r : Nat) : Nat × Nat :=
  if (s.regionPairs r).contains s.pair then (s.regionBase r, s.regionBase r + s.regionLen r / s.regionK r) else (0, 0)
/-- The contents of a span of granules go: they read zero, and no cache, flash copy or map of this device holds them (R18, R248). -/
def wipeSpan (s : State) (r lo hi : Nat) : State :=
  let out (g : Nat) : Bool := !decide (lo ≤ g ∧ g < hi)
  let s := (s.cacheForget r (1024 * lo) (1024 * hi))
  let s := (s.dram.poison.filter fun l => !out (l / 1024)).foldl State.clearPoison s
  let s := { s with dram := { s.dram with
    mem := s.dram.mem.filter fun e => out (e.1 / granBytes)
    gens := s.dram.gens.filter fun e => out e.1
    heals := s.dram.heals.filter fun l => out (l / 1024)
    dirty := s.dram.dirty.filter out } }
  let s := (s.onTwin fun x => { x with changed := x.changed.filter out, copySet := x.copySet.filter out }).setF
    F.TWIN_RESYNC_CHANGED_GRAN ((s.twin.changed.filter out).length)
  let s := s.onFlash fun x => { x with homes := x.homes.filter fun e => out e.1, inFlight := x.inFlight.filter fun e => out e.1 }
  s.homeSync.spateUpdate
/-- VALID of a region commits 1 or 0 (R18, R45): all lines read zero, or the contents are discarded. -/
def defineRegion (s : State) (r : Nat) : State :=
  let (lo, hi) := s.regionSpan r
  let s := s.wipeSpan r lo hi
  let s := ((s.setF F.REG_STATE_REVOKE_STATE 0 r).setF F.REG_STATE_POISON_LINES 0 r).setF F.REG_STATE_POISON_PRESENT 0 r
  let alone := s.isDurable r && (s.regionPairs r).contains s.pair && s.leadsAll
  (s.setF F.REG_STATE_UNRESTORED 0 r).setF F.REG_STATE_UNMIRRORED (b2n alone) r
def discardRegion (s i : State) (r : Nat) : State :=
  let (lo, hi) := i.regionSpan r
  let s := s.wipeSpan r lo hi
  let s := (s.setF F.REG_STATE_POISON_LINES 0 r).setF F.REG_STATE_POISON_PRESENT 0 r
  (s.setF F.REG_STATE_UNRESTORED 0 r).setF F.REG_STATE_UNMIRRORED 0 r
def commitRegion (i : State) (ws : List (Nat × U64)) (s : State) (r : Nat) : State :=
  let s := if rises i s F.REG_SHAPE_VALID r then s.defineRegion r
    else if falls i s F.REG_SHAPE_VALID r then s.discardRegion i r else s
  if asks ws F.REG_CMD_REOPEN r then
    let s := s.setF F.REG_CMD_REOPEN 0 r
    if s.f F.REG_STATE_REVOKE_STATE r = 2 then s.setF F.REG_STATE_REVOKE_STATE 0 r else s
  else s

/-! DOMAIN. -/

/-- The mappings of a domain whose MVALID the group clears (R29). -/
def mapsRemoved (i s : State) (ws : List (Nat × U64)) (d : Nat) : List Nat :=
  (ws.filter fun w => keySpace w.1 == 5 && keyRec w.1 == d && decide (8 ≤ keyWord w.1) && keyWord w.1 % 3 == 2 &&
    (i.word w.1).toNat.testBit 63 && !(s.word w.1).toNat.testBit 63).map fun w => (keyWord w.1 - 8) / 3
def commitDomain (i : State) (ws : List (Nat × U64)) (s : State) (d : Nat) : State :=
  let s := if rises i s F.DOM_CTL_VALID d then s.setWord (F.DOM_STATS_KEY_FAILS.key d 0) 0
    else if falls i s F.DOM_CTL_VALID d then (s.setF F.DOM_KEY64_SECRET48 0 d).setF F.DOM_KEY32_SECRET16 0 d
    else s
  let s := s.setF F.DOM_REKEY_REDRAW 0 d
  let gone := mapsRemoved i s ws d
  if gone.isEmpty then s
  else
    let s := { s with drains := s.drains.put d (s.drains.get [] d ++ gone) }
    if s.mappingsDrained d then { s with drains := s.drains.del d } else s.setF F.DOM_CTL_DRAIN_PENDING 1 d

/-! TWIN and LINK. -/

def commitTwin (i : State) (_ws : List (Nat × U64)) (s : State) (_r : Nat) : State :=
  if i.f F.TWIN_CTL_PAIR_MODE = s.f F.TWIN_CTL_PAIR_MODE then s else s.pairModeCommit (s.f F.TWIN_CTL_PAIR_MODE)
/-- A committed role (R75, R77): the octet powers up, in standby gated (R381), or stays powered down with its lanes and ports. -/
def commitRole (s : State) (o : Nat) : State :=
  let role := s.f F.LNK_CTL_ROLE o
  let s := (List.range 8).foldl (fun (t : State) p => t.portDown o p 0) s
  let s := (s.setF F.LNK_STATUS_LANE_LOCK 0 o).onTwin fun x => { x with
    octetsDown := if role = 2 then o :: x.octetsDown.filter (· != o) else x.octetsDown.filter (· != o) }
  let s := s.onTwin fun x => { x with linkDown := s.twinOctets.all x.octetsDown.contains }
  let s := s.leaveGate (8 + o)
  let s := if role = 1 ∧ s.f F.CLK_STATUS_STANDBY_STATE = 2 then s.gate (8 + o)
    else (s.setBitF F.CLK_STATUS_POWERED 0 (8 + o) (role != 0)).setBitF F.CLK_STATUS_CLOCKED 0 (8 + o) (role != 0)
  s.event 0x0106 [o, role]
def commitLink (i : State) (_ws : List (Nat × U64)) (s : State) (o : Nat) : State :=
  let s := if i.f F.LNK_CTL_ROLE o = s.f F.LNK_CTL_ROLE o then s else s.commitRole o
  let off := (bitsOf 8 (i.f F.LNK_CTL_PORT_EN o)).filter fun p => !bit (s.f F.LNK_CTL_PORT_EN o) p
  (off.foldl (fun (t : State) p => t.portDown o p 0) s).durSync

/-! QUEUE, PROGRAM, POOL, STREAM. -/

def commitQueue (i : State) (_ws : List (Nat × U64)) (s : State) (q : Nat) : State :=
  if rises i s F.Q_CTL_QVALID q then s.createQueue q
  else if falls i s F.Q_CTL_QVALID q then s.closeQueue q
  else s
/-- A slot's program commits (R173, R182): invocations that run finish on the one it replaces. -/
def commitProgram (i : State) (_ws : List (Nat × U64)) (s : State) (slot : Nat) : State :=
  if 1024 ≤ slot ∨ !s.flag F.PRG_CTL_PVALID slot then s
  else
    let s := s.event 0x0402 [slot, s.f F.PRG_PROOF_IMAGE_DIGEST slot]
    let s := { s with eng := { s.eng with badWords := s.eng.badWords.filter fun e => e.1 != slot } }
    if !i.flag F.PRG_CTL_PVALID slot then s else
    let on (h : Thread) : Bool := h.slot == slot && !h.ctl
    let th := s.eng.threads.map fun (e : Nat × Thread) => if on e.2 then (e.1, { e.2 with old := true }) else e
    let n := (s.eng.threads.filter fun e => on e.2).length
    { s with eng := { s.eng with threads := th } }.setF F.PRG_RUN_OLD_RUNNING n slot
def commitPool (i : State) (_ws : List (Nat × U64)) (s : State) (p : Nat) : State :=
  let was := i.flag F.POOL_CTL_POOL_EN p
  let on := s.flag F.POOL_CTL_POOL_EN p
  let st := if on then 1 else if s.f F.POOL_STATUS_ALLOCATED p = 0 then 0 else 2
  let s := if i.f F.POOL_CTL_COUNT p = s.f F.POOL_CTL_COUNT p then s
    else s.setF F.POOL_STATUS_LOW_FREE (s.f F.POOL_CTL_COUNT p) p
  if was = on then s else (s.setF F.POOL_STATUS_STATE st p).event 0x0604 [p, st]
def commitStream (i : State) (ws : List (Nat × U64)) (s : State) (r : Nat) : State :=
  let s := if falls i s F.STR_CTL_OPEN r then s.closeStream r else s
  let s := if rises i s F.STR_CTL_SVALID r then s.defineStream r else if falls i s F.STR_CTL_SVALID r then s.dropStream r else s
  let s := if rises i s F.STR_CTL_OPEN r then s.openStream r else s
  let s := if s.controls r then slide (s.strN r + 1) s r else s
  if asks ws F.STR_LOAD_LOAD r then (s.setF F.STR_LOAD_LOAD 0 r).loadCommit r else s

/-! SAVE, SUPPLY, CLOCKS, STACK. -/

/-- The image is discarded (R349): the region table is empty. -/
def discardImage (s : State) : State :=
  let seq := s.f F.SV_STATUS_IMAGE_SEQ
  let s := { s with ctl := s.ctl.filter fun e => keySpace e.1 != 6 }
  let s := (s.onFlash fun x => { x with image := none }).setF F.SV_AREA_ERASED_GIB s.savePresent
  let s := ((s.setF F.SV_STATUS_IMAGE 0).setF F.SV_STATUS_IMAGE_KIND 0).setF F.SV_STATUS_SAVE_STATE 0
  s.event 0x0A0C [seq]
def commitSave (i : State) (ws : List (Nat × U64)) (s : State) (_r : Nat) : State :=
  let s := if falls i s F.SV_CTL_ARM 0 then
      let s := s.setF F.SV_STATUS_ARMED 0
      if s.f F.SV_STATUS_SAVE_STATE = 1 then s.setF F.SV_STATUS_SAVE_STATE 0 else s
    else s
  let s := if i.f F.SV_AREA_SAVE_AREA_GIB = s.f F.SV_AREA_SAVE_AREA_GIB then s
    else ((s.setF F.SV_AREA_ERASED_GIB s.savePresent).setF F.FL_CAP_HOME_GIB s.homeCap).homeSync
  let s := if asks ws F.SV_CMD_RESTORE 0 then
      let s := (s.setF F.SV_CMD_RESTORE 0).setF F.SV_STATUS_SAVE_STATE 7
      s.onFlash fun x => { x with install := s.validRegions.isEmpty }
    else s
  if asks ws F.SV_CMD_DISCARD 0 then (s.setF F.SV_CMD_DISCARD 0).discardImage else s
def commitSupply (_i : State) (ws : List (Nat × U64)) (s : State) (_r : Nat) : State :=
  if asks ws F.HU_CTL_HU_TEST_NOW 0 then (s.setF F.HU_CTL_HU_TEST_NOW 0).onSupply fun x => { x with testDue := true } else s
def commitClocks (i : State) (_ws : List (Nat × U64)) (s : State) (_r : Nat) : State :=
  if i.f F.CLK_CTL_STANDBY_EN = s.f F.CLK_CTL_STANDBY_EN then s else s.standby (s.flag F.CLK_CTL_STANDBY_EN)
/-- A shape commits (R403, R129): the device count, MEMBERS, the freeze mode of the queues. -/
def commitStack (i : State) (_ws : List (Nat × U64)) (s : State) (_r : Nat) : State :=
  if i.f F.STK_CTL_SHAPE_W = s.f F.STK_CTL_SHAPE_W ∧ i.f F.STK_CTL_SHAPE_H = s.f F.STK_CTL_SHAPE_H then s
  else
    let inside := shapeOf s.shapeW s.shapeH
    let n := inside.length
    let old := s.f F.STK_MEMBERS_MEMBERS
    let now := old &&& maskOf inside
    let gone := inside.filter fun d => !bit now d && !s.stk.joiners.contains d && d != s.index
    let s := ((s.setF F.STK_STATUS_DEVICES n).setF F.STK_STATUS_LARGE (b2n (decide (8 < n)))).setF F.STK_MEMBERS_MEMBERS now
    let s := s.queues.foldl (fun (t : State) e => t.setF F.Q_STATUS_FREEZE_MODE (b2n (decide (8 < n))) e.1) s
    let s := if s.isMaster && !gone.isEmpty then s.event 0x0D05 (w64 (maskOf gone)) else s
    s.deputySync

/-! SECURITY, RECORDER, HEALTH. -/

/-- The owner key becomes OWNER_NEW (R413, R415). -/
def installOwner (s : State) : State :=
  let key := s.ownerNew
  let s := { s with sec := { s.sec with ownerKey := key } }.setF F.SEC_STATUS_OWNED 1
  s.event 0x0E0D (w64 s.ownerId)
/-- The action of a token (R415); its nonce is used (R416). -/
def tokenAct (s : State) : State :=
  let a0 := s.tokenQ 3
  let s := match s.tokenKind with
    | 1 => s.clearRecorder a0
    | 2 => s.setCalendar a0 (s.tokenQ 4)
    | 3 =>
      let old := s.f F.SEC_STATUS_FLOOR
      let new := if a0 % 64 ≤ s.f F.SEC_STATUS_FW_SVN then Nat.max old (a0 % 64) else old
      (s.setF F.SEC_STATUS_FLOOR new).event 0x0E03 [old, new]
    | 4 =>
      let g := (s.f F.SEC_STATUS_FLASH_KEY_GEN + 1) % 65536
      ((s.setF F.SEC_STATUS_FLASH_KEY_GEN g).setF F.SEC_STATUS_ROTATING 1).event 0x0E07 [g, 0]
    | 5 => s.installOwner
    | _ => s
  let (v, s) := s.fresh
  s.setF F.SEC_NONCE_TOKEN_NONCE v.toNat
/-- A LOG slot (R424 to R426): one that begins to name a region, or whose region is defined with it, begins its log. -/
def commitSlot (i : State) (ws : List (Nat × U64)) (s : State) (j : Nat) : State :=
  if !s.logValid j then { s with logs := s.logs.del j }
  else if i.logValid j && i.logRegion j == s.logRegion j && !rises i s F.REG_SHAPE_VALID (s.logRegion j) then s
  else if !(ws.any fun w => w.1 == F.LOG_CTL_LVALID.key j 0) then s
  else
    let s := (((s.setF F.LOG_GENESIS_GENESIS_CAL s.calNow j).setF F.LOG_FRONT_FRONTIER 0 j).setF F.LOG_SEQ_LAST_SEAL_SEQ 0 j).setF
      F.LOG_STAT_RING_WRAPS 0 j
    let s := s.setF F.LOG_DIGEST_DIGEST_LO 0 j
    s.setLog j ⟨0, 0, 0, s.genesis j, false, s.weirCount, none, [], [], none, 0, (0, 0), 0⟩
def commitSecurity (i : State) (ws : List (Nat × U64)) (s : State) (r : Nat) : State :=
  if 2 ≤ r then commitSlot i ws s (r - 2)
  else
    let s := if asks ws F.SEC_CTL_ATTEST 0 then
        { s with sec := { s.sec with attest := true } }.setF F.SEC_CTL_ATTEST 0 else s
    let s := if asks ws F.SEC_CTL_TAKE_OWNER 0 then (s.setF F.SEC_CTL_TAKE_OWNER 0).installOwner else s
    if stagesToken ws then s.tokenAct else s
/-- REC_SEL and TRIM_STACK (R444, R448). -/
def commitRecorder (ws : List (Nat × U64)) (token : Bool) (s : State) : State :=
  let s := if ws.any fun w => w.1 == F.REC_SEL_FRAME.key 0 0 then s.selectFrame else s
  if (ws.any fun w => w.1 == F.REC_TRIM_AT_TRIM_STACK.key 0 0) && s.flag F.REC_TRIM_AT_TRIM_STACK then s.trim token else s
def commitHealth (_i : State) (ws : List (Nat × U64)) (s : State) (_r : Nat) : State :=
  if asks ws F.HL_CTL_NEW_BANK 0 then (s.setF F.HL_CTL_NEW_BANK 0).newBank else s

/-- The words whose first write R6 tells apart: MAC_BASE and the SAVE configuration. -/
def noteWritten (s : State) (ws : List (Nat × U64)) : State :=
  let new := (ws.map Prod.fst).filter fun k => (keySpace k == 3 && keyWord k == 2 || k == F.SV_CTL_PSAVE_W.key 0 0) &&
    !s.written.contains k
  { s with written := s.written ++ new }

/-- A group commits on this device (R222, R225): its words, then what each record's change brings about. A trim is judged before the
token of the same group acts (R444). -/
def applyGroup (i : State) (ws : List (Nat × U64)) : State :=
  let token := stagesToken ws && (i.withWords ws).tokenKind == 2
  let each (sp : Nat) (f : State → List (Nat × U64) → State → Nat → State) (s : State) : State := (touchedRecs ws sp).foldl (f i ws) s
  let s := (i.withWords ws).noteWritten ws
  let s := s |> each 6 commitRegion |> each 5 commitDomain |> each 17 commitTwin |> each 3 commitLink |> each 7 commitQueue
    |> each 8 commitProgram |> each 10 commitPool |> each 11 commitStream |> each 18 commitStack
  let s := commitRecorder ws token s
  s |> each 19 commitSecurity |> each 14 commitSave |> each 15 commitSupply |> each 16 commitClocks |> each 21 commitHealth

end State

end Sys2Proof.Machine
end

