-- ==== Sys2Proof/Machine/Save.lean ====
section
/-! DEFINITION. The power-fail save from its trigger to its last granule record (R35, R179, R295, R339 to R343): the steps 1 to 5 of
R340 are one step of the machine, the metadata and the records one each. -/

namespace Sys2Proof.Machine

namespace State

/-! Step 3: staged writes (R35). -/

/-- A staged write that is whole and waits at the point of application, or for the heal of a line, is applied. -/
def settleStaged (s : State) (pid : Nat) (p : Part) : State :=
  let d := s.partOff p
  let gran := d / granBytes
  match p.kind with
  | .unit =>
    if s.mayDirty gran then
      let s := s.applyWrite false false true [(d, p.data)] (.part pid) 0 p.len
      if boundPart p then s else s.logFollow [(d, p.data)]
    else s
  | .group =>
    if s.mayDirty gran && p.reads.all fun e => s.dram.ver.get 0 (gran * 1024 + e.1) == e.2 then
      s.applyWrite false false true (p.chunks.map fun c => (gran * granBytes + c.1, c.2)) (.part pid) 1 0
    else s
  | .append =>
    match s.slotOfLog p.region with
    | none => s
    | some j =>
      let f0 := s.f F.LOG_FRONT_FRONTIER j
      let f := if granBytes < f0 % granBytes + p.len then (f0 / granBytes + 1) * granBytes else f0
      let (_, d) := s.place p.region f
      if s.regionLen p.region * granBytes < f + p.len ∨ s.appendMapped p.lim p.region f p.len = false ∨
          s.leadDev p.region f ≠ s.index ∨ s.mayDirty (d / granBytes) = false then s
      else
        let l := s.logSt j
        ((s.setF F.LOG_FRONT_FRONTIER (f + p.len) j).setLog j { l with appends := l.appends + 1 }).applyWrite false false true
          [(d, p.data)] (.part pid) (BitVec.ofNat 64 f) p.len
  | _ => s
/-- The staged writes are settled in the order of their parts. -/
def settleAll (s : State) : State :=
  (s.parts.filter fun e => match e.2.st with
    | .heldFull | .heldHeal _ => true
    | _ => false).foldl (fun (t : State) e => t.settleStaged e.1 e.2) s

/-! Steps 1 to 5 (R340, R341). -/

/-- Admission stop, the stop of write-behind and streams, and the quiescing of the engines: nothing that was under way completes,
and no queue outlives what follows (R179). -/
def stopAll (s : State) : State :=
  let s := { s with parts := [], queues := [], rates := [], tp := { s.tp with paused := [], echoes := [] }, fiddles := [], spent := [], eng := ⟨[], [], [], s.eng.evtCount, (0, []), s.eng.badWords⟩ }
  let s := { s with stage := { s.stage with opened := none, closing := none } }
  let unit (u : Unsettled) : Bool := match u.who with
    | .mirror _ => true
    | .part _ => false
  let s := { s with dram := { s.dram with unsettled := s.dram.unsettled.filter unit, heals := [] } }
  ((s.onTwin fun x => { x with late := [] }).onFlash fun x => { x with inFlight := [] }).setF F.MGW_STATUS_CTL_BUSY 0
/-- A trigger of a save (R339): 1 PFAIL_N, 2 INPUT_SENSE, 3 SAVE_NOW, 4 a warm reset. `mode` is what SAVE_NOW asks, `reset` the
reset that follows. While a save runs it has no effect (R338); unarmed it starts none. -/
def saveTrigger (s : State) (trigger mode reset : Nat) : State :=
  if s.flash.run.isSome then s
  else if !s.flag F.SV_STATUS_ARMED then s.event 0x0A09 [trigger]
  else
    let s := ((s.setF F.MGW_STATUS_PHASE 3).setF F.SV_STATUS_SAVE_STATE 3).setF F.SV_STATUS_LAST_TRIGGER trigger
    let s := s.event 0x0A06 [trigger, mib s.dirtyBytes]
    let s := (s.abortTest (some (if trigger = 2 then 2 else 1))).masterLeaves
    -- the twin may lack the writes that it has not acknowledged, whichever state the notice leads to (R62, R63)
    let s := (s.settleAll.unackedChanged.stopAll).onFlash fun x =>
      { x with run := some ⟨trigger, mode, s.time, s.calNow, reset, false, false⟩ }
    s.ownNotice.streamsCtlSync

/-! Steps 6 and 7. -/

/-- The words of a control space that a predicate takes, as they differ from their After reset values. -/
def wordsOf (s : State) (which : Nat → Bool) : SMap U64 := s.ctl.filter fun e => which e.1
/-- The region table with the STREAM configuration words (R295); no window is open in it. -/
def savedTable (s : State) : SMap U64 :=
  s.tableWords ++ s.ctl.filterMap fun e =>
    let m := if keyWord e.1 = 0 then stMask e.1 &&& (2 ^ 64 - 1 - 2 ^ 62) else stMask e.1
    let v : U64 := e.2 &&& BitVec.ofNat 64 m
    if keySpace e.1 = 11 ∧ m ≠ 0 ∧ v ≠ resetWord e.1 then some (e.1, v) else none
/-- The words of TWIN_CTL, of the SAVE configuration, of the gauge's C and ESR, and of the LOG slots, whose state belongs to the region
table (R425). -/
def isCfgWord (k : Nat) : Bool := k == F.TWIN_CTL_PAIR_MODE.key 0 0 || k == F.SV_CTL_ARM.key 0 0 ||
  k == F.SV_AREA_SAVE_AREA_GIB.key 0 0 || k == F.HU_CAP_CAP_MF.key 0 0 || keySpace k == 19 && decide (2 ≤ keyRec k)
/-- The metadata records of a save (R340 step 6). -/
def metadata (s : State) (trigger : Nat) : Image :=
  { seq := s.flash.lastSeq + 1, kind := 2, trigger := trigger, recs := [], table := s.savedTable, dirty := s.dram.dirty
    changed := s.twin.changed, epoch := s.epoch, granted := s.holdsGrant, grant := s.twin.grant, cfg := s.wordsOf isCfgWord
    logs := s.logs, keyGen := s.f F.SEC_STATUS_FLASH_KEY_GEN, commit := none }
/-- The metadata is programmed; the recorder's open frame is checkpointed with it (R438). -/
def saveMetadata (s : State) : State :=
  match s.flash.run with
  | none => s
  | some r =>
    let done : Bool := match s.flash.image with
      | some i => decide (i.seq = s.flash.lastSeq + 1)
      | none => false
    if r.committed || done then s
    else
      let i := s.metadata r.trigger
      let s := (s.onFlash fun x => { x with image := some i }).useIv 2
      s.onRec fun x => { x with checkpoint := some x.frame }
/-- The records of an image, each granule under its place in the dirty map (R331, R340 step 7). -/
def saveRecs (s : State) (i : Image) : SMap Rec :=
  (List.range i.dirty.length).foldl (fun (m : SMap Rec) k =>
    let g := i.dirty.getD k 0
    m.put g (s.saveRecOf i k g)) []
/-- Every granule record is programmed (R340 step 7): the save area holds them. -/
def saveRecords (s : State) : State :=
  match s.flash.run, s.flash.image with
  | some r, some i =>
    if r.recorded ∨ i.seq ≠ s.flash.lastSeq + 1 then s
    else
      let recs := s.saveRecs i
      let gib := ceilDiv (recs.length * granBytes) (2 ^ 30)
      let j : Image := { i with recs := recs }
      let r' : SaveRun := { r with recorded := true }
      ((s.onFlash fun x => { x with image := some j, run := some r' }).useIv i.dirty.length).setF F.SV_AREA_ERASED_GIB
        (s.f F.SV_AREA_ERASED_GIB - gib)
  | _, _ => s

end State

open State

/-- SAVE_METADATA_DONE (R340 step 6). -/
def execSaveMetadataDone (s : State) : Host.Outcome State Fault Refusal := .next s.saveMetadata
/-- SAVE_RECORDS_DONE (R340 step 7). -/
def execSaveRecordsDone (s : State) : Host.Outcome State Fault Refusal := .next s.saveRecords
/-- SAVE_NOW_HALT, a CFGI of SAVE_NOW 0b01 (R339, R352): refused unless armed. -/
def execSaveNowHalt (s : State) : Host.Outcome State Fault Refusal :=
  .next (if s.flag F.SV_STATUS_ARMED then s.saveTrigger 3 1 0 else s)
/-- SAVE_NOW_RESUME, a CFGI of SAVE_NOW 0b10 (R339, R352). -/
def execSaveNowResume (s : State) : Host.Outcome State Fault Refusal :=
  .next (if s.flag F.SV_STATUS_ARMED then s.saveTrigger 3 2 0 else s)

end Sys2Proof.Machine
end

