-- ==== Sys2Proof/Machine/Reset.lean ====
section
/-! DEFINITION. The three resets (R230 to R233, R249, R251, R295, R400, R457): what each clears of the control words and of the rest,
the order of a reset and a save (R233), and the end of a power-down (R344, R372). Kinds: 1 control, 2 warm, 3 cold. -/

namespace Sys2Proof.Machine

/-- Whether a reset of a kind keeps a field (R6). -/
def keptBy (kind : Nat) : Keep → Bool
  | .none => false
  | .control => kind == 1
  | .warm => decide (kind ≤ 2)
  | .stored => true
/-- The bits of a SUPPLY word that are the running state of the moss domain, which a control and a warm reset keep (R230): the
rail states, the table in use, the sequencer, the input and the gauge. What the other fields show is measured anew (R6). -/
def mossMask (k : Nat) : Nat :=
  let all := 2 ^ 64 - 1
  let w := keyWord k
  if keyRec k < 32 then (if w ≤ 3 then all else if w = 4 then all - (2 ^ 60 - 1) else 0)
  else if w = 1 ∨ w = 6 then 0 else all
/-- The bits of a word beside those marked kept that show what the reset leaves as it is (R230): at a control reset the moss domain,
the boot's results, what awaits a restore (R44), the stack membership; at a warm reset the moss domain. -/
def liveMask (kind k : Nat) : Nat :=
  let all := 2 ^ 64 - 1
  let w := keyWord k
  if keySpace k = 15 then (if kind ≤ 2 then mossMask k else 0)
  else if kind ≠ 1 then 0
  else match keySpace k with
    | 6 => if w = 6 then 2 ^ 60 else 0
    | 13 => if keyRec k = 32 ∧ w = 5 then all else 0
    | 16 => if w = 1 ∨ w = 4 then all else 0
    | 18 => if w = 8 ∨ w = 9 then all else 0
    | 19 => if keyRec k = 0 ∧ w = 0 then all else 0
    | 256 => if w = 3 then all else 0
    | _ => 0
/-- The bits of a word that a reset of a kind keeps. `wide`: the stack-wide words stay until they are copied (R232); a window is not
open after any reset (R295). -/
def keptMask (kind : Nat) (wide : Bool) (k : Nat) : Nat :=
  let own := (fieldsOfWord k).foldl (fun m x => if keptBy kind x.keep then m ||| x.mask else m) (liveMask kind k)
  if wide then (if keySpace k = 11 ∧ keyWord k = 0 then (own ||| wideMask k) &&& (2 ^ 64 - 1 - 2 ^ 62) else own ||| wideMask k)
  else own

namespace State

/-- The control words after a reset of a kind. -/
def resetCtl (s : State) (kind : Nat) (wide : Bool) : SMap U64 :=
  s.ctl.foldl (fun (m : SMap U64) e =>
    m.set (resetWord e.1) e.1 (mergeBits (resetWord e.1) e.2 (keptMask kind wide e.1))) []
/-- The nonce for tokens is drawn at every reset (R416). -/
def newNonce (s : State) : State :=
  let (v, s) := s.fresh
  s.setF F.SEC_NONCE_TOKEN_NONCE v.toNat
/-- The streams after a reset: what is loaded in flash (R295). -/
def loadedOnly (s : State) : SMap Stream := s.streams.map fun (e : Nat × Stream) => (e.1, { Stream.empty with loaded := e.2.loaded })
/-- The DURABLE and LOG regions of the pair await restore (R44). -/
def markUnrestored (s : State) : State := s.durableHere.foldl (fun (t : State) r => t.setF F.REG_STATE_UNRESTORED 1 r) s

/-! The control reset. -/

/-- The staging of a device after a control reset (R230, R232): alone in a larger stack it keeps the stack-wide words of the groups
that the master has ordered. -/
def stageReset (s : State) (wide : Bool) : Stage :=
  if wide then
    let keep (g : Group) : Group := { g with words := g.words.filter fun w => wideMask w.1 != 0, mine := false }
    { s.stage with opened := none, closing := none, groups := s.stage.groups.map keep, copying := true }
  else { Stage.reset with nextSeq := s.stage.nextSeq, maxSeq := s.stage.maxSeq }
/-- What holds in the core is gone: queues, programs that run, parts, the line caches and the pools' buffers; B is 0 until a weir has
computed it anew (R6). -/
def clearCore (s : State) : State :=
  { s with
    dram := { s.dram with budget := 0 }
    caches := [], bufs := [], parts := [], queues := [], rates := [], icmp := (0, 0), tp := .reset, fiddles := [], spent := []
    eng := ⟨[], [], [], [], (0, []), []⟩, drains := [], evq := { s.evq with seq := 0, lastMsix := none } }
/-- A pool's state after a reset (R253, R261). -/
def poolsReset (s : State) : State :=
  (List.range 16).foldl (fun (t : State) p =>
    ((t.setF F.POOL_STATUS_STATE (t.f F.POOL_CTL_POOL_EN p) p).setF F.POOL_STATUS_ALLOCATED 0 p).setF F.POOL_STATUS_LOW_FREE
      (t.f F.POOL_CTL_COUNT p) p) s
/-- The streams of the records that stay valid (R295). -/
def streamsReset (s : State) : State :=
  let s := { s with streams := s.loadedOnly }
  s.strAll.foldl (fun (t : State) r =>
    ((t.strGo r (if t.allLoaded r then SS.idle else SS.empty)).setF F.STR_STATUS_CONTROLLER
      (b2n (t.strController r == some t.index)) r).setF F.STR_LOADSTAT_SEGS_LOADED (t.stream r).loaded.length r) s
/-- A DRAM channel without the requests of the core; its temperatures are read anew (R6). -/
def chanReset (c : Chan) : Chan :=
  { c with reqs := [], issued := [], batch := [], rows := [], asleep := [], skip := [], last := none, temps := [], mr4Hot := false
           normals := 0, tooHot := false }
/-- The twin link trains anew (R231, R77); the pair's state stays. -/
def twinReset (s : State) : State := s.linkReset.onTwin fun x => { x with helloIn := false, noticeSent := false }
/-- The roles after a control reset of the stack (R400). -/
def rolesReset (s : State) : State :=
  if s.isMember 0 && s.isMember 2 then
    ((s.setF F.STK_STATUS_MASTER_IDX 0).setF F.STK_STATUS_MASTER_EPOCH (s.stackEpoch + 1)).deputySync
  else s

/-- The device whose stack-wide words a device reset alone copies (R232): the master; of the master, the deputy, else the lowest other
member. It is asked with a frame that the spec does not name. -/
def copySource (s : State) : Option Nat :=
  if !s.isMaster then some s.master
  else match s.deputy with
    | some d => some d
    | none => (s.members.filter (· != s.index)).head?
def askCopy (s : State) : State := match s.copySource with
  | some d => s.message d 0x17 5 [s.index]
  | none => s

/-- A control reset (R230): of this device, or with `stack` of every device of the stack (R232). The line caches are written back
first (R251). -/
def controlReset (s : State) (stack : Bool) : State :=
  let s := (List.range 8).foldl cacheDisable s
  let wide := decide (1 < s.devices) && !stack
  let phase := if s.f F.MGW_BOOT_STAGE = 7 then 1 else s.f F.MGW_STATUS_PHASE
  let resumed := s.f F.SV_STATUS_SAVE_STATE
  let s := { s with stage := s.stageReset wide, ctl := s.resetCtl 1 wide }
  let s := { s with chans := s.chans.map fun (e : Nat × Chan) => (e.1, chanReset e.2) }
  let s := s.clearCore.poolsReset.streamsReset.twinReset
  let s := if resumed = 7 then s.setF F.SV_STATUS_SAVE_STATE 6 else s
  let s := if s.f F.CLK_STATUS_STANDBY_STATE = 2 then s.setF F.CLK_STATUS_STANDBY_STATE 3 else s
  let s := s.onStk fun x => { x with claim := none, heldFrames := [] }
  let s := { s with sec := { s.sec with attest := false, report := [] } }
  let s := (s.onRec fun x => { x with loading := false, loaded := none }).onFrame fun x => { x with resets := satAdd 16 x.resets 1 }
  let s := if s.leadsAll then s.setUnmirrored true else s
  let s := (s.newNonce.setF F.MGW_STATUS_PHASE phase).onSupply fun x => { x with chainOut := false }
  if stack then s.rolesReset else if wide then s.askCopy else s

/-! Warm and cold resets. -/

/-- What the flash holds (R230). -/
def flashKept (x : Flash) : Flash :=
  { State.reset.flash with
    homes := x.homes, image := x.image, adopted := x.adopted, dieFails := x.dieFails, badBlocks := x.badBlocks, iv := x.iv
    lastSeq := x.lastSeq, pfailLow := x.pfailLow, homeWrites := x.homeWrites, levels := x.levels, cycles := x.cycles
    saveLost := x.saveLost }
/-- Everything outside the moss domain and the flash is lost (R230); stack time has to be learnt again. -/
def warmClear (s : State) : State :=
  let s := s.setTime 0
  let r := State.reset
  ({ r with
    ctl := s.resetCtl 2 false, out := s.out, fv := s.fv, strapX := s.strapX, strapY := s.strapY
    evq := ⟨0, false, s.evq.kept, none⟩, flash := flashKept s.flash, streams := s.loadedOnly
    supply := { s.supply with test := none, gated := [], gatedEngines := [] }
    sec := { s.sec with attest := false, report := [], fwDigest := 0 }
    recd := { s.recd with loading := false, loaded := none
                          frame := { s.recd.frame with resets := satAdd 16 s.recd.frame.resets 1 } }
    pins := { s.pins with pcie := false }, pending := s.pending } : State).newNonce
/-- A warm reset (R230, R372): the device powers down and then sequences anew. -/
def warmReset (s : State) : State := (s.masterLeaves.warmClear.setF F.MGW_STATUS_PHASE 2).powerDown 1

/-- The recorder over a cold reset (R438): the open frame is lost, its last checkpoint is closed at the next boot; the RTC goes on. -/
def recCold (x : Recorder) : Recorder :=
  { x with frame := Frame.empty, loading := false, loaded := none, slew := 0, lastTrim := none, v0 := 0
           checkpoint := x.checkpoint.map fun (f : Frame) => { f with partial_ := true } }
/-- A cold reset (R230, R457): everything but the flash, the fuses and the RTC; the straps are sampled. -/
def coldReset (s : State) (x y : Nat) : State :=
  let r := State.reset
  let t : State := { r with
    ctl := s.resetCtl 3 false, out := s.out, fv := s.fv, strapX := x % 8, strapY := y % 8, flash := flashKept s.flash
    streams := s.loadedOnly, supply := { r.supply with chainIn := s.supply.chainIn, chainRet := s.supply.chainRet }
    sec := { r.sec with ownerKey := s.sec.ownerKey }, recd := recCold s.recd
    pins := { r.pins with perst := s.pins.perst }, pending := s.pending }
  (t.openFrame false false 0).newNonce

/-! Asking for a reset (R233). -/

/-- A save ends in a reset (R233, R338, R346): after a control reset the image awaits its restore, and what was saved is unrestored
(R44). -/
def resetAfterSave (s : State) (kind : Nat) : State :=
  let s := s.onFlash fun x => { x with run := none }
  let s := ((s.setF F.SV_STATUS_ARMED 0).setF F.SV_CTL_ARM 0).setF F.SV_STATUS_SAVE_STATE 6
  if kind = 3 then s.coldReset s.strapX s.strapY
  else if kind = 2 then s.warmReset
  else ((s.setF F.MGW_SAVE_RESUMED 0).controlReset s.stage.stackReset).markUnrestored

/-- The device is off: it has halted, or stopped, and only a cold reset helps (R344, R370). -/
def deviceOff (s : State) : Bool := decide (17 ≤ s.seqState) && (s.supply.downFor != 3 || s.seqState == 17)
/-- The boot window answers: the PCIe link has trained since the endpoint's last reset (R213). -/
def windowOpen (s : State) : Bool := s.pins.pcie && !s.deviceOff
/-- A control or a warm reset is asked for: while a save runs it waits for the commit record, the strongest one (R233). -/
def requestReset (s : State) (kind : Nat) : State :=
  if s.deviceOff then s
  else match s.flash.run with
    | some r =>
      if r.committed then s.resetAfterSave kind
      else
        let r' : SaveRun := { r with reset := Nat.max r.reset kind }
        s.onFlash fun x => { x with run := some r' }
    | none =>
      if kind = 1 then s.controlReset false
      else if s.flag F.SV_STATUS_ARMED then s.saveTrigger 4 0 2
      else (s.event 0x0A09 [4]).warmReset

/-! MGW_RESET (R212, R232). -/

def resetConfirmed (v : U64) (kind : Nat) : Bool :=
  fld v F.MGW_RESET_CONFIRM == 0xA5C3 && fld v F.MGW_RESET_KIND == kind
/-- A control reset of the stack is ordered for the next weir; the master tells every device. -/
def orderStackReset (s : State) : State :=
  let s := { s with stage := { s.stage with stackReset := true } }
  if s.isMaster ∧ s.memberState = 2 then s.notice 255 0x0D [] else s

/-! The end of a power-down (R344, R372). -/

/-- The moss domain starts the sequence again after a warm reset: its words but the input's are at their After reset values. -/
def restart (s : State) : State :=
  let input := F.SUP_INPUT_IN_CODE.key 0 0
  let keep (k : Nat) : Nat := if keySpace k = 15 then
      (if k = input then 2 ^ 64 - 1 else (fieldsOfWord k).foldl (fun m x => if keptBy 2 x.keep then m ||| x.mask else m) 0)
    else 2 ^ 64 - 1
  let ctl := s.ctl.foldl (fun (m : SMap U64) e => m.set (resetWord e.1) e.1 (mergeBits (resetWord e.1) e.2 (keep e.1))) []
  let s : State := { s with ctl := ctl, supply := { Supply.reset with chainIn := s.supply.chainIn, chainRet := s.supply.chainRet } }
  s.setF F.MGW_STATUS_PHASE 0
/-- OFF_GAP_US of a power-down's state has passed with its rails off: the next lower state, or the end. -/
def powerDownGap (s : State) : State :=
  if s.seqState ≠ 17 ∨ s.supply.offDue ≠ [] then s
  else if 1 < s.supply.down then (s.onSupply fun x => { x with down := x.down - 1 }).downState
  else if s.supply.downFor = 1 then s.restart
  else
    let phase := s.f F.MGW_STATUS_PHASE
    (s.warmClear.setF F.MGW_STATUS_PHASE phase).setF F.SUP_SEQ_SEQ_STATE 18

/-- The stack-wide words have come (R232): the device admits parts again, and its windows that are open are fetched anew (R296). -/
def wordsCopied (s : State) (ws : List (Nat × U64)) : State :=
  let s := s.copyWords ws
  let s := { s with stage := { s.stage with copying := false } }
  let s := if s.flash.image.isSome then s.markUnrestored else s
  s.windowsAnew.retryParts fun p => p.st == .waiting || p.st == .heldRead

end State

open State

/-- PWRON_RST_N (R230, R233, R457): it waits for a save that runs. -/
def execPwronRstN (x y : Nat) (s : State) : Host.Outcome State Fault Refusal :=
  .next (match s.flash.run with
    | some r =>
      let r' : SaveRun := { r with reset := 3 }
      if r.committed then s.coldReset x y else s.onFlash fun z => { z with run := some r' }
    | none => s.coldReset x y)
/-- SYS_RST_N (R230). -/
def execSysRstN (s : State) : Host.Outcome State Fault Refusal := .next (s.requestReset 2)
/-- MGW_RESET_CONTROL (R212, R230, R232): with STACK at the master it is a reset of the stack, elsewhere of this device. -/
def execMgwResetControl (v : U64) (s : State) : Host.Outcome State Fault Refusal :=
  .next (if !resetConfirmed v 1 || !s.windowOpen then s
    else if fld v F.MGW_RESET_STACK = 1 ∧ s.isMaster ∧ s.memberState = 2 then s.orderStackReset
    else s.requestReset 1)
/-- MGW_RESET_WARM (R212, R230). -/
def execMgwResetWarm (v : U64) (s : State) : Host.Outcome State Fault Refusal :=
  .next (if resetConfirmed v 2 && s.windowOpen then s.requestReset 2 else s)
/-- MGW_RESET_STACK (R232): at the master, and as the master's order at every other member. -/
def execMgwResetStack (v : U64) (s : State) : Host.Outcome State Fault Refusal :=
  .next (if resetConfirmed v 1 && fld v F.MGW_RESET_STACK == 1 && s.memberState == 2 then s.orderStackReset else s)
/-- STACK_WORDS_COPY_DONE (R232). -/
def execStackWordsCopyDone (words : List (Nat × U64)) (s : State) : Host.Outcome State Fault Refusal :=
  .next (if s.stage.copying then s.wordsCopied words else s)
/-- POWER_DOWN_GAP (R372). -/
def execPowerDownGap (s : State) : Host.Outcome State Fault Refusal := .next s.powerDownGap

end Sys2Proof.Machine
end

