-- ==== Sys2Proof/Machine/Power.lean ====
section
/-! DEFINITION. What follows a save (R344 to R346), the loss of power (R343), the restore (R347, R348), and the input supply
(R339, R373). -/

namespace Sys2Proof.Machine

namespace State

/-! After the commit record (R344). -/

/-- The input supply is good: PFAIL_N is high and INPUT_SENSE was last found good. -/
def supplyGood (s : State) : Bool := !s.flash.pfailLow && s.flag F.SUP_INPUT_IN_GOOD_NOW
/-- A save ends in halting: the plan is disarmed, and the device powers down (R338, R346). -/
def haltAfterSave (s : State) : State :=
  let s := s.onFlash fun x => { x with run := none }
  (((s.setF F.SV_STATUS_SAVE_STATE 5).setF F.SV_STATUS_ARMED 0).setF F.SV_CTL_ARM 0).powerDown 0
/-- The image's granule records become homes, and it is an image no longer (R345). -/
def adopt (s : State) : State :=
  match s.flash.image with
  | none => s
  | some i =>
    let gib := ceilDiv (i.recs.length * granBytes) (2 ^ 30)
    let s := s.onFlash fun x => { x with
      homes := i.recs.foldl (fun (m : SMap Rec) e => m.put e.1 e.2) x.homes, inFlight := [], adopted := x.adopted + gib, image := none }
    let s := { s with dram := { s.dram with dirty := [] } }
    ((s.setF F.SV_STATUS_IMAGE 0).setF F.SV_STATUS_IMAGE_KIND 0).homeSync.spateUpdate
/-- A save ends in a resume (R345). -/
def resumeAfterSave (s : State) : State :=
  let seq := s.f F.SV_STATUS_IMAGE_SEQ
  let s := (s.adopt.onFlash fun x => { x with run := none }).controlReset false
  let s := ((s.setF F.SV_STATUS_RESUMED 1).setF F.MGW_SAVE_RESUMED 1).bump F.SV_STATS_RESUMES
  ((s.setF F.SV_STATUS_SAVE_STATE 1).setF F.MGW_STATUS_PHASE 1).event 0x0A08 [seq]

/-- The digest of an image: every metadata and granule record header, in ORDINAL order (R342). -/
def saveDigest (i : Image) : List Byte :=
  Config.shake256 (Config.metaHeaders i.seq ++ (List.range i.dirty.length).flatMap fun k =>
    let g := i.dirty.getD k 0
    match i.recs.at? g with
    | some r => recHeader g r
    | none => []) 64
/-- The commit record that closes an image (R342). -/
def commitRec (s : State) (r : SaveRun) (i : Image) : CommitRec :=
  ⟨i.trigger, s.index, i.seq, i.recs.length, Config.metaBytes i.seq, i.epoch, r.began, r.cal, s.flash.iv + 1, saveDigest i⟩
/-- The commit record is programmed (R342, R344). -/
def saveCommitted (s : State) (ms : Nat) : State :=
  match s.flash.run, s.flash.image with
  | some r, some i =>
    if !r.recorded || r.committed then s
    else
      let j : Image := { i with kind := 1, commit := some (s.commitRec r i) }
      let r' : SaveRun := { r with committed := true }
      let s := s.onFlash fun x => { x with image := some j, run := some r', lastSeq := i.seq, iv := x.iv + 1 }
      let s := ((s.setF F.SV_STATUS_SAVE_STATE 4).setF F.MGW_STATUS_PHASE 4).bump F.SV_STATS_SAVES
      let s := ((s.setF F.SV_STATUS_IMAGE 1).setF F.SV_STATUS_IMAGE_KIND 1).setF F.SV_STATUS_IMAGE_SEQ i.seq
      let s := (s.setF F.SV_LAST_LAST_SAVE_MS ms).setF F.SV_LAST_LAST_SAVE_GIB (i.recs.length / 16384)
      let s := s.event 0x0A07 [i.seq, i.recs.length, ms]
      if r.reset ≠ 0 then s.resetAfterSave r.reset
      else if r.mode = 1 then s.haltAfterSave
      else if r.mode = 2 then s.resumeAfterSave
      else if s.supplyGood then s
      else s.haltAfterSave
  | _, _ => s
/-- A committed save waits for the dwell of a good input. -/
def dwelling (s : State) : Bool := match s.flash.run with
  | some r => r.committed
  | none => false

/-! Loss of power (R343). -/

/-- Of the granule records of a save that was cut short, each may be whole or not. -/
def someRecords (s : State) (i : Image) : SMap Rec × State :=
  (List.range i.dirty.length).foldl (fun (x : SMap Rec × State) k =>
    let g := i.dirty.getD k 0
    let (v, t) := x.2.fresh
    if v.toNat.testBit 0 then (x.1.put g (s.saveRecOf i k g), t) else (x.1, t)) ([], s)
/-- The image that a power loss leaves: UNUSABLE without its metadata, INCOMPLETE without its commit record. -/
def lossImage (s : State) : State :=
  match s.flash.run with
  | none => s
  | some r =>
    if r.committed then s
    else
      let n := s.flash.lastSeq + 1
      match s.flash.image with
      | some i =>
        if i.seq ≠ n then s
        else if r.recorded then s.onFlash fun x => { x with lastSeq := n }
        else
          let (recs, t) := s.someRecords i
          let j : Image := { i with recs := recs }
          t.onFlash fun x => { x with image := some j, lastSeq := n, iv := x.iv + i.dirty.length }
      | none =>
        let j : Image := { s.metadata r.trigger with kind := 3, table := [], dirty := [], changed := [], cfg := [], logs := [] }
        s.onFlash fun x => { x with image := some j, lastSeq := n }

/-! The restore (R347, R348). -/

/-- A device granule of a DURABLE or LOG region of the pair. -/
def granDurable (s : State) (g : Nat) : Bool := match s.regionOfGran g with
  | some r => s.isDurable r && (s.regionPairs r).contains s.pair
  | none => false
/-- Put a granule record back into DRAM: its bytes, its generation, its poison (R43). -/
def putRec (s : State) (g : Nat) (x : Rec) : State :=
  let s := (s.setGran g x.data).setGen g x.gen
  x.poison.foldl (fun (t : State) l => t.setPoison (1024 * g + l)) s
/-- The durable granules of this device as the image and the homes give them; the lost ones poisoned whole. -/
def restoreData (s : State) (i : Image) : State × Nat :=
  let lost := if i.kind = 2 then i.dirty.filter fun g => (i.recs.at? g).isNone && s.granDurable g else []
  let s := ((s.dram.poison.filter fun l => s.granDurable (l / 1024)).foldl State.clearPoison s)
  let s := { s with dram := { s.dram with
    mem := s.dram.mem.filter fun e => !s.granDurable (e.1 / granBytes)
    gens := s.dram.gens.filter fun e => !s.granDurable e.1 } }
  let spoil (x : Rec) : Rec := { x with data := [], poison := List.range 1024 }
  let homes := s.flash.homes.filter fun e => s.granDurable e.1 && (i.recs.at? e.1).isNone
  let s := homes.foldl (fun (t : State) e => t.putRec e.1 (if lost.contains e.1 then spoil e.2 else e.2)) s
  let s := (lost.filter fun g => (s.flash.homes.at? g).isNone).foldl (fun (t : State) g =>
    t.putRec g (spoil ⟨(t.regionOfGran g).getD 0, 0, [], [], 1, 0, 0, 0, 0⟩)) s
  ((i.recs.filter fun e => s.granDurable e.1).foldl (fun (t : State) e => t.putRec e.1 e.2) s, lost.length)
/-- The persistence core from the metadata (R347 step 3): the words of TWIN_CTL, the SAVE configuration and the LOG slots, the
changed-granule map, the epoch and the grant record, the log state. A pair mode that a program has committed since stays. -/
def restoreCore (s : State) (i : Image) : State :=
  let mode := s.f F.TWIN_CTL_PAIR_MODE
  let gauge := F.HU_CAP_CAP_MF.key 0 0
  let s := (i.cfg.filter fun e => isCfgWord e.1 && e.1 != gauge).foldl (fun (t : State) e => t.setWord e.1 e.2) s
  -- the gauge state only if no test has been accepted since the boot (R377)
  let s : State := match i.cfg.at? gauge with
    | some w => if s.flag F.HU_GAUGE_GAUGE_VALID then s
      else (s.setF F.HU_CAP_CAP_MF (fld w F.HU_CAP_CAP_MF)).setF F.HU_CAP_ESR (fld w F.HU_CAP_ESR)
    | none => s
  let saved := s.f F.TWIN_CTL_PAIR_MODE
  let s := if mode = 0 then (if saved = 0 then s else s.pairModeCommit saved) else s.setF F.TWIN_CTL_PAIR_MODE mode
  let s := ((s.onTwin fun x => { x with grant := i.grant, changed := i.changed }).setF F.TWIN_RESYNC_CHANGED_GRAN
    i.changed.length).setEpoch i.epoch
  let fresh (l : LogSt) : LogSt :=
    { l with due := [], waiters := [], mark := none, sealSeq := l.last.1, fromOff := l.last.2, kind3 := true }
  { s with logs := i.logs.map fun (e : Nat × LogSt) => (e.1, fresh e.2) }
/-- Granules of the DURABLE and LOG regions on the pair. -/
def durableCount (s : State) : Nat := (s.durableHere.map fun r => s.regionLen r / s.regionK r).foldl (· + ·) 0
/-- The restore completes. -/
def restored (s : State) (ms : Nat) : State :=
  match s.flash.image with
  | none => s
  | some i =>
    let n := s.durableCount
    let (s, lost) := s.restoreData i
    let s := s.restoreCore i
    let s := s.adopt.onFlash fun x => { x with restored := lineUnion (x.restored ++ i.recs.map Prod.fst) }
    let s := s.durableHere.foldl (fun (t : State) r => t.setF F.REG_STATE_UNRESTORED 0 r) s
    let s := ((s.setF F.SV_CTL_ARM 0).setF F.SV_STATUS_ARMED 0).setF F.SV_STATUS_SAVE_STATE 0
    let s := (s.setF F.SV_RESTORE_LOST_GRAN lost).setF F.SV_RESTORE_RESTORED_GIB (n / 16384)
    s.event 0x0A0B [n, lost, ms]

/-! The input supply (R373, R344). -/

/-- The supply has failed: the device halts where it waits for the dwell; else a trigger of a save (R339). -/
def supplyFailed (s : State) (trigger : Nat) : State :=
  if s.dwelling then s.haltAfterSave
  else if s.deviceOff then s
  else s.saveTrigger trigger 0 0
/-- After HALTING, the supervisor starts the device again as from a cold reset, once the input has returned (R344). -/
def supplyReturned (s : State) : State :=
  if s.seqState = 18 ∧ s.supply.downFor = 0 ∧ s.supplyGood then
    let code := s.f F.SUP_INPUT_IN_CODE
    ((s.coldReset s.strapX s.strapY).setF F.SUP_INPUT_IN_CODE code).setF F.SUP_INPUT_IN_GOOD_NOW 1
  else s

end State

open State

/-- SAVE_COMMIT_DONE (R340 step 8, R344). -/
def execSaveCommitDone (ms : Nat) (s : State) : Host.Outcome State Fault Refusal := .next (s.saveCommitted ms)
/-- RESUME_DWELL (R344). -/
def execResumeDwell (s : State) : Host.Outcome State Fault Refusal :=
  .next (if s.dwelling ∧ s.supplyGood then s.resumeAfterSave else s)
/-- POWER_LOST (R343, R346): what is left is the flash, and the moss domain's RTC. -/
def execPowerLost (s : State) : Host.Outcome State Fault Refusal :=
  .next (s.lossImage.coldReset s.strapX s.strapY)
/-- RESTORE_DONE (R347, R348). -/
def execRestoreDone (ms : Nat) (s : State) : Host.Outcome State Fault Refusal :=
  .next (if s.f F.SV_STATUS_SAVE_STATE = 7 then s.restored ms else s)
/-- PFAIL_N (R339). -/
def execPfailN (s : State) : Host.Outcome State Fault Refusal :=
  .next ((s.onFlash fun x => { x with pfailLow := true }).supplyFailed 1)
/-- PFAIL_N_HIGH (R344). -/
def execPfailNHigh (s : State) : Host.Outcome State Fault Refusal :=
  .next ((s.onFlash fun x => { x with pfailLow := false }).supplyReturned)
/-- INPUT_FAILED (R339, R373, R376). -/
def execInputFailed (code : Nat) (s : State) : Host.Outcome State Fault Refusal :=
  let s := (((s.setF F.SUP_INPUT_IN_CODE code).setF F.SUP_INPUT_IN_GOOD_NOW 0).setF F.SUP_INPUT_IN_FAILED 1).bump F.SUP_INPUT_IN_FAIL_CNT
  let s := ((s.extreme 98 code).event 0x0B08 [code]).abortTest (some 2)
  .next (s.supplyFailed 2)
/-- INPUT_GOOD (R373, R362, R344). -/
def execInputGood (code : Nat) (s : State) : Host.Outcome State Fault Refusal :=
  let s := ((s.setF F.SUP_INPUT_IN_CODE code).setF F.SUP_INPUT_IN_GOOD_NOW 1).setF F.SUP_INPUT_IN_FAILED 0
  .next (((s.extreme 98 code).event 0x0B09 [code]).supplyReturned)

end Sys2Proof.Machine
end

