-- ==== Sys2Proof/Machine/Weir.lean ====
section
/-! DEFINITION. Closing groups and the weirs (R221 to R229, R347, R399, R471): the master's close, a commit round, a weir on this
device, and doubt. -/

namespace Sys2Proof.Machine

/-- The key of a control address, and the device it names, if REMOTE is set (R218). -/
def addrKey (a : Nat) : Nat := a % 2 ^ 48
def addrDev (a : Nat) : Option Nat := if bits a 56 56 = 1 then some (bits a 55 50) else none
/-- The words of a group that a device holds. -/
def wordsFor (d : Nat) (ws : List (Nat × U64)) : List (Nat × U64) :=
  ws.filterMap fun w => if addrDev w.1 = none ∨ addrDev w.1 = some d then some (addrKey w.1, w.2) else none
/-- Keys and values as the items of a frame. -/
def wordItems (ws : List (Nat × U64)) : List Nat := ws.flatMap fun w => [w.1, w.2.toNat]

namespace State

def onStage (s : State) (f : Stage → Stage) : State := { s with stage := f s.stage }
/-- This device takes part as the master of the stack. -/
def ruling (s : State) : Bool := s.isMaster && s.memberState == 2

/-! Closing a group (R221, R226). -/

/-- The members that hold a word of a group: every one where it has a stack-wide word. -/
def groupDevs (s : State) (ws : List (Nat × U64)) : List Nat :=
  if ws.any fun w => (addrDev w.1).isNone then (s.members ++ (ws.filterMap fun w => addrDev w.1)).eraseDups
  else (ws.filterMap fun w => addrDev w.1).eraseDups
/-- Draw the secrets of domains (R20, R410). -/
def drawSecrets (s : State) : List Nat → List (Nat × U64) × State
  | [] => ([], s)
  | d :: rest =>
    let (a, s) := s.fresh
    let (b, s) := s.fresh
    let (ws, s) := drawSecrets s rest
    ((wkey 5 d 1, a &&& BitVec.ofNat 64 (2 ^ 48 - 1)) :: (wkey 5 d 2, b &&& BitVec.ofNat 64 (2 ^ 16 - 1)) :: ws, s)
/-- The master orders a close and checks it: the next GROUP_SEQ, the checks on stack-wide words, its own, and those of the other
devices as the message reports them. The touched devices get their words. -/
def closeAtMaster (s : State) (g : GroupMsg) : State × Option Nat :=
  let seq := s.stage.nextSeq
  let s := s.onStage fun x => { x with nextSeq := seq + 1, maxSeq := seq }
  let devs := s.groupDevs g.words
  let i := s.pendingImage
  let wide := wordsFor 64 g.words
  let j := i.withWords (wordsFor s.index g.words)
  let draws := drawsFor i j wide
  let small : Bool := devs.all fun d => decide ((wordsFor d g.words).length + 2 * draws.length ≤ 65536)
  let (s, own) := s.checkOwn (wordsFor s.index g.words)
  if !(devs.all s.isMember) || !small || !s.closeWide i j wide || !s.closeTwinSlots g.words || !own || !g.othersOk then (s, none)
  else
    let (keys, s) := s.drawSecrets draws
    let all := g.words ++ keys
    let counts := (s.groupDevs all).map fun d => (d, (wordsFor d all).length)
    let s := (devs.filter fun d => d != s.index).foldl (fun (t : State) d =>
      t.sendCascade d 0x17 (1 :: seq :: wordItems (wordsFor d all))) s
    (s.onStage fun x => { x with groups := putGroup x.groups ⟨seq, wordsFor s.index all, decide (g.dev = s.index), counts⟩ },
      some seq)
/-- The answer to this device's own close (R221, R222): a group that its program has not lived to see is discarded. -/
def closeAnswered (s : State) (seq : Option Nat) : State :=
  let mine := s.stage.closing
  let s := s.onStage fun x => { x with closing := none }
  let tell (s : State) (code : U64) : State := s.onThread ctlThread fun h => { h with ready := some code }
  match seq, mine with
  | some n, some g =>
    let fresh : Group := ⟨n, s.ownWords g, true, []⟩
    let mark (x : Group) : Group := if x.seq = n then { x with mine := true } else x
    let s := s.onStage fun x =>
      { x with groups := (if x.groups.any fun y => y.seq == n then x.groups else putGroup x.groups fresh).map mark
               maxSeq := Nat.max x.maxSeq n }
    tell ((s.setF F.WEIR_GROUP_GROUP_SEQ n).setF F.WEIR_GROUP_GROUP_STATE 1) 0
  | some n, none => (s.onStage fun x => { x with groups := x.groups.filter fun y => y.seq != n }).message 255 0x17 4 [n]
  | none, some _ => tell s 4
  | none, none => s
/-- The master's answer to a close goes to the device that asked for it. -/
def answerClose (s : State) (dev : Nat) (seq : Option Nat) : State :=
  if dev = s.index then s.closeAnswered seq else s.message dev 0x17 3 [seq.getD 0]

/-- A WORDS frame of a group (R221, R388): the device runs its own checks and holds the words; none of them: the group is
discarded. -/
def groupWordsIn (s : State) (n : Nat) (ws : List (Nat × U64)) : State :=
  if ws.isEmpty then s.onStage fun x => { x with groups := x.groups.filter fun y => y.seq != n }
  else
    let (s, ok) := s.checkOwn ws
    let s := if ok then s.onStage fun x =>
        { x with groups := putGroup (x.groups.filter fun y => y.seq != n) ⟨n, ws, false, []⟩, maxSeq := Nat.max x.maxSeq n } else s
    s.message s.master 0x17 2 [n, b2n ok]
/-- A WORDS frame of copied stack-wide words (R402, R347): a device that asks to join is JOINING with them. -/
def wordsIn (s : State) (ws : List (Nat × U64)) : State :=
  let s := s.copyWords ws
  let s := if s.memberState = 0 then s.setF F.STK_STATUS_MEMBER_STATE 1 else s
  let s := s.streamsFound.windowsAnew
  if s.flash.image.isSome then s.markUnrestored else s

/-! A commit round (R225, R226, R228). -/

/-- The groups of a commit list: the longest prefix that no participant applies more than 65,536 words of. -/
def fitting : SMap Nat → List Group → List Group
  | _, [] => []
  | acc, g :: rest =>
    let acc' := g.counts.foldl (fun (m : SMap Nat) c => m.put c.1 (m.get 0 c.1 + c.2)) acc
    if acc'.all fun e => decide (e.2 ≤ 65536) then g :: fitting acc' rest else []
/-- The groups up to a GROUP_SEQ whose DURABLE_EN words the interlocks no longer allow (R225, R235). -/
def recheck (s : State) (last : Nat) : List Nat :=
  (s.stage.groups.filter fun g => decide (g.seq ≤ last) &&
    g.words.any fun w => keySpace w.1 == 3 && keyWord w.1 == 0 && !s.durableAllowed (keyRec w.1) w.2).map (·.seq)
/-- This device holds words of a group up to a GROUP_SEQ. -/
def holdsWords (s : State) (last : Nat) : Bool := s.stage.groups.any fun g => decide (g.seq ≤ last) && !g.words.isEmpty
/-- The cutoff at the master. -/
def cutoff (s : State) : State :=
  let list := fitting [] s.stage.groups
  let last := if list.length = s.stage.groups.length then s.stage.maxSeq else (list.getLast?.map (·.seq)).getD 0
  let devs := (list.flatMap fun g => (g.counts.filter fun c => c.2 != 0).map Prod.fst).eraseDups
  let w := s.weirCount + 1
  let s := s.onStage fun x => { x with
    round := some (w, last), prep := some (w, last), outcome := none
    asked := devs.filter fun d => d != s.index && s.isMember d, acked := [(s.index, s.recheck last)] }
  s.message 255 0x14 1 [w, last]
/-- The weir to come is number `w` of the stack (R224): a device that joined late counts from it on. -/
def countWeirs (s : State) (w : Nat) : State := if w = 0 then s else s.setF F.WEIR_COUNT (w - 1)
/-- PREP at another member. -/
def prepIn (s : State) (w last : Nat) : State :=
  let s := (s.countWeirs w).onStage fun x => { x with prep := some (w, last), outcome := none }
  if s.holdsWords last then s.message s.master 0x14 2 (w :: s.recheck last) else s
/-- The outcome of a weir is kept with the last 16. -/
def recordOutcome (s : State) (o : Outcome) : State :=
  let s := s.onStage fun x => { x with outcome := some o, history := (o :: x.history).take 16 }
  if o.went then s else s.bump F.WEIR_STATS_DEFERRED
/-- The master's decision, 4 µs before the weir: GO if every participant has answered; those that have not are counted. -/
def decision (s : State) : State :=
  match s.stage.round with
  | none => s
  | some (w, last) =>
    let quiet := s.stage.asked.filter fun d => !(s.stage.acked.any fun a => a.1 == d)
    let gone := (s.stage.acked.flatMap Prod.snd).eraseDups
    let s := if quiet.isEmpty then (s.message 255 0x14 3 (w :: gone)).recordOutcome ⟨w, true, last, gone⟩
      else (s.message 255 0x14 4 [w]).recordOutcome ⟨w, false, last, []⟩
    let misses := s.stage.acked.foldl (fun (m : SMap Nat) a => m.del a.1) s.stage.misses
    let misses := quiet.foldl (fun (m : SMap Nat) d => m.put d (m.get 0 d + 1)) misses
    let s := quiet.foldl (fun (t : State) d => (t.bump F.WEIR_STATS_MISSED).setF F.WEIR_STATS_MISS_DEV d) s
    let s := s.onStage fun x => { x with round := none, misses := misses }
    (quiet.filter fun d => decide (s.f F.WEIR_CTL_MISS_LIMIT ≤ misses.get 0 d)).foldl (fun (t : State) d =>
      (t.excludeDev d 1).onStage fun x => { x with misses := x.misses.del d }) s
/-- GO or NOGO at another member. -/
def outcomeIn (s : State) (w : Nat) (went : Bool) (withdrawn : List Nat) : State :=
  if s.stage.outcome.any fun o => o.weir == w then s
  else match s.stage.prep with
    | some (p, last) => if p = w then s.recordOutcome ⟨w, went, last, withdrawn⟩
        else if went then s else s.bump F.WEIR_STATS_DEFERRED
    | none => if went then s else s.bump F.WEIR_STATS_DEFERRED

/-! Applying groups (R173, R222, R225). -/

/-- The program slots whose records a group touches; a slot whose old program still runs here, or on a device of those that report
it. -/
def groupSlots (g : Group) : List Nat := (touchedRecs g.words 8).filter (· < 1024)
def slotBusy (s : State) (r : Nat) : Bool :=
  s.flag F.PRG_CTL_PVALID r && (s.flag F.PRG_RUN_OLD_RUNNING r || s.stage.oldElsewhere.contains r)
/-- The state of the last group that this device closed (R222, R236). -/
def groupState (s : State) (g : Group) (st w : Nat) : State :=
  if g.mine && g.seq % 2 ^ 32 == s.f F.WEIR_GROUP_GROUP_SEQ then
    (s.setF F.WEIR_GROUP_GROUP_STATE st).setF F.WEIR_GROUP_AT_GROUP_WEIR w
  else s
/-- Apply the groups of a weir's list in GROUP_SEQ order. One that touches a slot whose old program still runs waits, and those behind
it that touch the same record. -/
def applyList (w last : Nat) (withdrawn : List Nat) : State → List Nat → List Group → State
  | s, _, [] => s
  | s, held, g :: rest =>
    let keep (x : Group) : Bool := x.seq != g.seq
    if last < g.seq then s
    else if withdrawn.contains g.seq then
      let s := (s.onStage fun x => { x with groups := x.groups.filter keep }).bump F.WEIR_STATS_WITHDRAWN
      applyList w last withdrawn (s.groupState g 3 w) held rest
    else
      let slots := groupSlots g
      if slots.any fun r => held.contains r || s.slotBusy r then applyList w last withdrawn s (held ++ slots) rest
      else
        let s := (s.onStage fun x => { x with groups := x.groups.filter keep }).applyGroup g.words
        applyList w last withdrawn (s.groupState g 2 w) held rest
def applyOutcome (s : State) (o : Outcome) : State :=
  if o.went then applyList o.weir o.last o.withdrawn s [] s.stage.groups else s
/-- The commit of a weir on this device (R225, R227): by the outcome it has heard, or in doubt without one. -/
def commitWeir (s : State) (w : Nat) : State :=
  if s.stage.doubt then s
  else
    let clear (s : State) : State := s.onStage fun x => { x with prep := none, outcome := none }
    match s.stage.outcome, s.stage.prep with
    | some o, _ => if o.weir = w then clear (s.applyOutcome o) else clear s
    | none, some (p, last) =>
      if p = w && !s.isMaster && s.holdsWords last then
        ((s.onStage fun x => { x with doubt := true }).bump F.WEIR_STATS_DOUBTS).message s.master 0x14 5 [w]
      else clear s
    | none, none => s
/-- A device in doubt learns the outcome (R227). -/
def doubtEnds (s : State) (w : Nat) (went : Bool) (withdrawn : List Nat) : State :=
  match s.stage.prep with
  | some (p, last) =>
    if !s.stage.doubt || p != w then s
    else
      let o : Outcome := ⟨w, went, last, withdrawn⟩
      let s := (s.recordOutcome o).applyOutcome o
      (s.onStage fun x => { x with doubt := false, prep := none, outcome := none }).retryParts fun p =>
        p.st == .waiting || p.st == .heldRead
  | none => s

/-! What steps on weirs (R229, R347, R440, R471). -/

/-- The data of a per-reach event: the items its table gives, and the count (R471). -/
def reachData (e : ReachEv) : List Nat :=
  match e.code with
  | 0x0201 | 0x0E08 => [e.count]
  | 0x0603 => [e.src, e.count]
  | _ => e.dat ++ [e.count]
/-- Admission refusals: the count for each CAUSE, each 16 bits. -/
def refusals (s : State) : List Nat :=
  let n (c : Nat) : Nat := ((s.reach.filter fun e => e.code == 0x0204 && e.src == c).map fun e => Nat.min 65535 e.count).foldl (· + ·) 0
  [n 1 ||| (n 2 <<< 16), n 3 ||| (n 4 <<< 16), n 5 ||| (n 6 <<< 16)]
/-- Codewords that a port receives in a reach: 544 symbols of 10 bits each at 17/16 of the payload rate (R77, R78). -/
def codewords (s : State) (port : Nat) : Nat := s.reachNs * (1600 / s.portCount (port / 8)) * 17 / (16 * 5440)
/-- An occurrence is posted: uncorrectable codewords only above 1 per 10⁹ of the reach (R107). -/
def posted (s : State) (e : ReachEv) : Bool :=
  e.code != 0x0204 && (e.code != 0x0104 || decide (s.codewords e.src < e.count * 10 ^ 9))
/-- The reach ends: its events are posted and its samples taken. -/
def reachEnds (s : State) : State :=
  let total := ((s.reach.filter fun e => e.code == 0x0204).map (·.count)).foldl (· + ·) 0
  let (v, s) := s.fresh
  -- with no budget, D ÷ B has no stated value
  let full := if s.dram.budget = 0 then v.toNat % 64 else Nat.min 63 (1000 * s.dirtyBytes / s.dram.budget / 16)
  let s := (s.histBin 14 full).histAdd 15 total
  let s := (s.reach.filter s.posted).foldl (fun (t : State) e => t.event e.code (reachData e)) s
  let s := if total = 0 then s else s.event 0x0204 s.refusals
  { s with reach := [], eng := { s.eng with evtCount := [] } }
/-- A restore that found no valid region in the stack installs the image's region table everywhere (R347). -/
def installTable (s : State) : State :=
  match s.flash.install, s.flash.image with
  | true, some i =>
    let s := s.onFlash fun x => { x with install := false }
    let ws := i.table.filter fun e => keySpace e.1 == 6 || keySpace e.1 == 11
    let s := ws.foldl (fun (t : State) e => t.setWord e.1 e.2) s
    let s := s.streamsReset.markUnrestored
    s.sendCascade 255 0x17 (0 :: wordItems ws)
  | _, _ => s
/-- A control reset of the stack falls due at a weir (R232): while a save runs it waits for the commit record (R233). -/
def stackResetDue (s : State) : State :=
  if !s.stage.stackReset then s
  else match s.flash.run with
    | some r =>
      let r' : SaveRun := { r with reset := Nat.max r.reset 1 }
      if r.committed then s.resetAfterSave 1 else s.onFlash fun x => { x with run := some r' }
    | none => s.controlReset true
/-- A weir on this device; `mv` is the hold-up bank's voltage, `old` the slots whose old program other devices still run (R173). -/
def weir (s : State) (mv : Nat) (old : List Nat) : State :=
  let s := s.onStage fun x => { x with oldElsewhere := old }
  let w := s.weirCount + 1
  let s := (s.reachEnds.setF F.WEIR_COUNT w).installTable
  let s := ((s.commitWeir w).onStage fun x => { x with round := none }).resyncWeir
  let s := if s.ruling then s.admitJoiners else s
  let s := s.becomeMember
  (s.gaugeWeir mv).budgetRecompute.sealWeir.stackResetDue

end State

open State

/-- WEIR_CUTOFF (R225, R226). -/
def execWeirCutoff (s : State) : Host.Outcome State Fault Refusal :=
  .next (if s.ruling && s.stage.round.isNone then s.cutoff else s)
/-- PREP (R225): a joiner learns the count of the weirs from it (R224). -/
def execPrep (w last : Nat) (s : State) : Host.Outcome State Fault Refusal :=
  .next (if s.memberState = 2 ∧ !s.isMaster ∧ s.stage.doubt = false then s.prepIn w last
    else if s.memberState = 1 then s.countWeirs w else s)
/-- PREP_ACK (R225). -/
def execPrepAck (dev w : Nat) (failed : List Nat) (s : State) : Host.Outcome State Fault Refusal :=
  let due : Bool := (s.stage.round.any fun r => r.1 == w) && s.stage.asked.contains dev && !(s.stage.acked.any fun a => a.1 == dev)
  .next (if s.ruling && due then s.onStage fun x => { x with acked := x.acked ++ [(dev, failed)] } else s)
/-- WEIR_DECISION (R225, R228). -/
def execWeirDecision (s : State) : Host.Outcome State Fault Refusal := .next (if s.ruling then s.decision else s)
/-- GO (R225). -/
def execGo (w : Nat) (withdrawn : List Nat) (s : State) : Host.Outcome State Fault Refusal :=
  .next (if s.memberState = 2 ∧ !s.isMaster ∧ s.stage.doubt = false then s.outcomeIn w true withdrawn else s)
/-- NOGO (R225). -/
def execNogo (w : Nat) (s : State) : Host.Outcome State Fault Refusal :=
  .next (if s.memberState = 2 ∧ !s.isMaster ∧ s.stage.doubt = false then s.outcomeIn w false [] else s)
/-- WEIR_APPLY (R225, R229): a device that is no member, or is excluded, takes part in no weir (R387, R405); a joiner becomes a member
at one (R402). -/
def execWeirApply (x : WeirInput) (s : State) : Host.Outcome State Fault Refusal :=
  .next (if s.memberState = 1 ∨ s.memberState = 2 then s.weir x.bankMv x.oldElsewhere else s)
/-- WEIR_OUTCOME_QUERY (R227). -/
def execWeirOutcomeQuery (dev w : Nat) (s : State) : Host.Outcome State Fault Refusal :=
  .next (match s.stage.history.find? fun o => o.weir == w with
    | some o => if s.ruling then s.message dev 0x14 6 (w :: b2n o.went :: o.withdrawn) else s
    | none => s)
/-- WEIR_OUTCOME (R227). -/
def execWeirOutcome (w : Nat) (wentGo : Bool) (withdrawn : List Nat) (s : State) : Host.Outcome State Fault Refusal :=
  .next (s.doubtEnds w wentGo withdrawn)
/-- DOUBT_MAX_EXPIRY (R227). -/
def execDoubtMaxExpiry (s : State) : Host.Outcome State Fault Refusal :=
  .next (if s.stage.doubt then (s.onStage fun x => { x with doubt := false }).excluded s.index 2 else s)
/-- GROUP_CLOSE_REQUEST (R221). -/
def execGroupCloseRequest (g : GroupMsg) (s : State) : Host.Outcome State Fault Refusal :=
  .next (if s.ruling then
    let (t, seq) := s.closeAtMaster g
    t.answerClose g.dev seq
  else s)
/-- GROUP_WORDS (R388, R221, R402). -/
def execGroupWords (seq : Option Nat) (words : List (Nat × U64)) (s : State) : Host.Outcome State Fault Refusal :=
  .next (match seq with
    | some n => if s.memberState = 2 then s.groupWordsIn n words else s
    | none => if s.memberState = 3 then s else s.wordsIn words)
/-- GROUP_CLOSE_ANSWER (R221). -/
def execGroupCloseAnswer (seq : Option Nat) (s : State) : Host.Outcome State Fault Refusal := .next (s.closeAnswered seq)

end Sys2Proof.Machine
end

