-- ==== Sys2Proof/Machine/Cfg.lean ====
section
/-! DEFINITION. The control-mode instructions that reach control words (R208, R209, R218 to R223): CFGS, CFGR, CFGC, CFGI, WWAIT and
DRST, on this device and from another. -/

namespace Sys2Proof.Machine.State

/-! Immediate fields (R223). -/

/-- The result code of CFGI on a word of this device. -/
def immCode (s : State) (k : Nat) (v : U64) : Nat :=
  let r := keyRec k
  let ok : Bool := match keySpace k with
    | 6 => fld v F.REG_CMD_REVOKE == 0 || (s.revokeOp r).isSome
    | 7 => fld v F.Q_CMD_KILL == 0 || (s.qState r != QS.free && s.qState r != QS.closing)
    | 14 => fld v F.SV_CMD_SAVE_NOW == 0 || s.flag F.SV_STATUS_ARMED
    | 17 => (s.twinGrantOp v).isSome
    | _ => true
  if accMask .im k = 0 then 3
  else if (v.toNat &&& (2 ^ 64 - 1 - definedMask k)) ≠ 0 then 2
  else if rangeCode k .im v ≠ 0 then rangeCode k .im v
  else if ok then 0 else 3

/-- The effect of the immediate fields of an accepted value. -/
def immDo (s : State) (k : Nat) (v : U64) : State :=
  let r := keyRec k
  match keySpace k with
  | 3 => s.portOffOp r (fld v F.LNK_DIS_PORT_OFF)
  | 6 => if fld v F.REG_CMD_REVOKE = 1 then (s.revokeOp r).getD s else s
  | 7 =>
    let s := (s.setF F.Q_CMD_ELOG_SEL (fld v F.Q_CMD_ELOG_SEL) r).setF F.Q_CMD_ELOG_WORD (fld v F.Q_CMD_ELOG_WORD) r
    if fld v F.Q_CMD_KILL = 1 then s.doKill r else s
  | 9 => if fld v F.CCH_CTL_DIS_REQ = 1 then s.cacheDisable r else s
  | 14 => if fld v F.SV_CMD_SAVE_NOW = 0 then s else s.saveTrigger 3 (fld v F.SV_CMD_SAVE_NOW) 0
  | 17 => (s.twinGrantOp v).getD s
  | _ => s

/-! The open group (R209, R220). -/

/-- A word is the staged word of a key and a device. -/
def isStaged (k : Nat) (dev : Option Nat) (x : Staged) : Bool := x.key == k && x.dev == dev
/-- Whom a word belongs to in a group: the stack, or the device named. -/
def stageDev (s : State) (dev : Option Nat) (k : Nat) : Option Nat :=
  if isWide k (stMask k) then none else some (dev.getD s.index)
/-- The staging store cannot take the word. -/
def stageFull (s : State) (dev : Option Nat) (k : Nat) : Bool :=
  decide (1048576 ≤ s.stagedCount) && !((s.stage.opened.getD []).any (isStaged k (s.stageDev dev k)))
/-- Stage the ST fields of a value. -/
def stageWord (s : State) (dev : Option Nat) (k : Nat) (v : U64) : State :=
  let d := s.stageDev dev k
  let x : Staged := ⟨k, d, v &&& BitVec.ofNat 64 (stMask k)⟩
  let old := s.stage.opened.getD []
  s.onStage fun y => { y with opened := some (if old.any (isStaged k d) then old.map fun o => if isStaged k d o then x else o else old ++ [x]) }

/-! Words of another device (R218). -/

/-- Ask another device; the thread waits for the answer. Items: what is asked (0 CFGS, 1 CFGR, 2 CFGI; 3 answers), key, value. -/
def askRemote (s : State) (t : Nat) (h : Thread) (dev op k : Nat) (v : U64) : State :=
  if h.wait.isSome then s else (s.setThread t { h with wait := some 0 }).notice dev 0x0A [op, k, v.toNat]
/-- The instruction is done, with g[d]. -/
def ctlDone (s : State) (t : Nat) (h : Thread) (d : GReg) (v : U64) : State :=
  s.setThread t (({ h with wait := none, ready := none } : Thread).wg d v |>.adv 4)
/-- A word is this device's to serve: it is local, stack-wide, or names this device. -/
def ownTarget (s : State) (dev : Option Nat) : Option Nat := if dev = some s.index then none else dev

/-! The instructions. -/

/-- CFGS (R208, R220). -/
def cfgs (s : State) (t : Nat) (h : Thread) (d : GReg) (addr v : U64) : State :=
  match s.ctlTarget addr with
  | none => s.ctlDone t h d 1
  | some (dev, k) =>
    let finish (code : U64) : State :=
      let c := if code = 0 ∧ s.stageFull dev k then 3 else code
      let s := if c = 0 then s.stageWord dev k v else s
      s.ctlDone t h d c
    match s.ownTarget dev with
    | none => finish (BitVec.ofNat 64 (s.stageCode (s.ownWords (s.stage.opened.getD [])) k v))
    | some n => match h.ready with
      | some c => finish c
      | none => s.askRemote t h n 0 k v
/-- CFGR (R208). -/
def cfgr (s : State) (t : Nat) (h : Thread) (d : GReg) (addr : U64) (staged : Bool) : State :=
  match s.ctlTarget addr with
  | none => s.fault t h 0x02
  | some (dev, k) =>
    let merged (v : U64) : U64 :=
      match (s.stage.opened.getD []).find? (isStaged k (s.stageDev dev k)) with
      | some x => if staged then mergeBits v x.v (stMask k) else v
      | none => v
    match s.ownTarget dev with
    | none => (s.ctlDone t h d (merged (s.readWord k))).afterRead k
    | some n => match h.ready with
      | some v => s.ctlDone t h d (merged v)
      | none => s.askRemote t h n 1 k 0
/-- CFGI (R208, R223). -/
def cfgi (s : State) (t : Nat) (h : Thread) (d : GReg) (addr v : U64) : State :=
  match s.ctlTarget addr with
  | none => s.ctlDone t h d 1
  | some (dev, k) =>
    match s.ownTarget dev with
    | none =>
      let c := s.immCode k v
      let u := s.ctlDone t h d (BitVec.ofNat 64 c)
      if c = 0 then u.immDo k v else u
    | some n => match h.ready with
      | some c => s.ctlDone t h d c
      | none => s.askRemote t h n 2 k v
/-- The words of a group by their control addresses. -/
def groupAddrs (g : List Staged) : List (Nat × U64) :=
  g.map fun x => (match x.dev with
    | none => x.key
    | some d => devAddr d x.key, x.v)
/-- CFGC (R208, R221): verify, send to the master, and wait for its answer. -/
def cfgc (s : State) (t : Nat) (h : Thread) (d : GReg) : State :=
  match h.ready with
  | some c => s.ctlDone t h d c
  | none =>
    if s.stage.closing.isSome then s
    else match s.stage.opened with
      | none => s.ctlDone t h d 5
      | some g =>
        let s := s.onStage fun x => { x with opened := none }
        if s.memberState ≠ 2 then s.ctlDone t h d 4
        else
          let own := s.ownWords g
          let j := s.pendingImage.withWords own
          let (s, proofs) := s.verifyStaged j (slotsStaged j own) []
          match proofs with
          | none => s.ctlDone t h d 4
          | some ps =>
            let words := groupAddrs g ++ ps
            let s := s.onStage fun x => { x with closing := some g, closeWords := words }
            if s.ruling && decide (s.groupDevs words = [s.index]) then
              let (s, seq) := s.closeAtMaster ⟨s.index, words, true⟩
              let s := s.closeAnswered seq
              match (s.thread? t).bind (·.ready) with
              | some c => s.ctlDone t h d c
              | none => s
            else if s.isMaster then s
            else s.message s.master 0x17 1 (0 :: wordItems words)
/-- WWAIT (R208). -/
def wwait (s : State) (t : Nat) (h : Thread) (d : GReg) (n : Nat) : State :=
  match h.wait with
  | none => s.setThread t { h with wait := some (s.weirCount + n) }
  | some w => if w ≤ s.weirCount then s.ctlDone t h d (BitVec.ofNat 64 w) else s

/-- An access of another device's program to a word of this one, and the answer to one of this device's (R218). -/
def remoteControl (s : State) (src : Nat) (op : RemoteOp) (k : Nat) (v : U64) : State :=
  let answer (s : State) (x : U64) : State := s.notice src 0x0A [3, k, x.toNat]
  match op with
  | .cfgs => answer s (BitVec.ofNat 64 (s.stageCode [] k v))
  | .cfgr => answer (s.afterRead k) (s.readWord k)
  | .cfgi =>
    let c := s.immCode k v
    let s := answer s (BitVec.ofNat 64 c)
    if c = 0 then s.immDo k v else s
  | .answer => s.onThread ctlThread fun h =>
      if h.wait = some 0 ∧ h.ended = none ∧ s.stage.closing = none then { h with ready := some v, wait := none } else h

end Sys2Proof.Machine.State

namespace Sys2Proof.Machine

/-- CFGS (R208). -/
def execCfgs (t : Nat) (d a b : GReg) (s : State) : Host.Outcome State Fault Refusal :=
  .next (s.ctlOnly t (iword 0x90 d.toNat a.toNat b.toNat 0 0 0) fun h => s.cfgs t h d (h.rg a) (h.rg b))
/-- CFGR (R208). -/
def execCfgr (t : Nat) (d a : GReg) (staged : Bool) (s : State) : Host.Outcome State Fault Refusal :=
  .next (s.ctlOnly t (iword 0x91 d.toNat a.toNat 0 0 (b2n staged) 0) fun h => s.cfgr t h d (h.rg a) staged)
/-- CFGC (R208). -/
def execCfgc (t : Nat) (d : GReg) (s : State) : Host.Outcome State Fault Refusal :=
  .next (s.ctlOnly t (iword 0x92 d.toNat 0 0 0 0 0) fun h => s.cfgc t h d)
/-- CFGI (R208). -/
def execCfgi (t : Nat) (d a b : GReg) (s : State) : Host.Outcome State Fault Refusal :=
  .next (s.ctlOnly t (iword 0x93 d.toNat a.toNat b.toNat 0 0 0) fun h => s.cfgi t h d (h.rg a) (h.rg b))
/-- WWAIT (R208). -/
def execWwait (t : Nat) (d : GReg) (imm : Imm) (s : State) : Host.Outcome State Fault Refusal :=
  .next (s.ctlOnly t (iword 0x94 d.toNat 0 0 0 0 imm) fun h => s.wwait t h d imm.toNat)
/-- DRST (R208, R209). -/
def execDrst (t : Nat) (imm : Imm) (s : State) : Host.Outcome State Fault Refusal :=
  .next (s.ctlOnly t (iword 0x95 0 0 0 0 0 imm) fun _ => s.requestReset imm.toNat)
/-- REMOTE_CONTROL_ACCESS (R218). -/
def execRemoteControlAccess (src : Nat) (op : RemoteOp) (key : Nat) (v : U64) (s : State) : Host.Outcome State Fault Refusal :=
  .next (s.remoteControl src op key v)

end Sys2Proof.Machine
end

