-- ==== Sys2Proof/Machine/Boot.lean ====
section
/-! DEFINITION. The boot (R213, R300, R306, R315, R411), the boot window (R212 to R217) and writes by access code (R5). -/

namespace Sys2Proof.Machine

/-! Firmware (R411). -/

/-- The SVN of a copy's header. -/
def fwSvn (c : FwCopy) : Nat := (c.header.getD 0 0).toNat % 64
/-- The bytes that a copy's signature covers. -/
def fwBytes (c : FwCopy) : List Byte := (c.header.flatMap fun q => toBytes 8 q.toNat) ++ c.image
/-- A copy verifies against the vendor root key. -/
def fwVerifies (c : FwCopy) : Bool :=
  let q0 := (c.header.getD 0 0).toNat
  c.header.length == 8 && bits q0 63 32 == 0x46573634 && bits q0 31 24 == 1 && (c.header.getD 1 0).toNat == c.image.length &&
    decide (1 ≤ c.image.length ∧ c.image.length ≤ 7339854) && c.sig.length == 114 &&
    Config.ed448Verify Config.vendorKey (fwBytes c) c.sig

/-! DRAM population (R299, R300). -/

/-- The data rate of the point that a module type chooses. -/
def pointRate (mrdimm : Bool) : Nat := if mrdimm then 12800 else 6400
/-- A channel is at fault beside C0. -/
def chanBad (first c : ChanTrain) : Bool :=
  let perf := first.modules.any (·.mrdimm)
  let shape (x : ChanTrain) : List (Nat × Nat × Nat) := x.modules.map fun m => (m.part, m.gib, m.ranks)
  shape c != shape first || (c.modules.any fun m => !m.x4ten || !(m.rates.contains (pointRate perf)) || m.mrdimm != perf) ||
    (perf && decide (1 < c.modules.length))
/-- The channels at fault by their SPD: unpopulated ones, where the population is neither all 16 nor C0 to C7. -/
def spdFaults (chans : List ChanTrain) : List Nat :=
  let pop (c : Nat) : Bool := (chans[c]?.map fun x => !x.modules.isEmpty).getD false
  let n := ((List.range 16).filter pop).length
  if (n == 16 || n == 8) && (List.range n).all pop then
    (List.range n).filter fun c => match chans[c]?, chans[0]? with
      | some x, some f => chanBad f x
      | _, _ => true
  else (List.range 16).filter fun c => !pop c

namespace State

/-- The boot stops (R213): PHASE reads FAILED. -/
def bootError (s : State) (error detail : Nat) : State :=
  ((s.setF F.MGW_BOOT_ERROR error).setF F.MGW_BOOT_ERR_DETAIL detail).setF F.MGW_STATUS_PHASE 5
/-- The boot stands at a stage. -/
def bootAt (s : State) (stage : Nat) : Bool := s.f F.MGW_BOOT_STAGE == stage && s.f F.MGW_STATUS_PHASE == 0

/-- A copy below the rollback floor (R411, R412). -/
def belowFloor (s : State) (c : FwCopy) : Bool := decide (fwSvn c < s.f F.SEC_STATUS_FLOOR)
/-- The event of a copy that is refused. -/
def fwReject (s : State) (n : Nat) (c : FwCopy) : State :=
  if !fwVerifies c then s.event 0x0E02 [n, 1] else if s.belowFloor c then s.event 0x0E02 [n, 2] else s
/-- Stage 0x04 (R411): the eligible copy with the higher SVN runs, copy A when they are equal. -/
def firmwareVerified (s : State) (a b : FwCopy) : State :=
  let okA := fwVerifies a
  let okB := fwVerifies b
  let lowA := okA && s.belowFloor a
  let lowB := okB && s.belowFloor b
  let detail := b2n (!okA) ||| (b2n (!okB) <<< 1) ||| (b2n lowA <<< 8) ||| (b2n lowB <<< 9)
  let s := (s.fwReject 1 a).fwReject 2 b
  if !okA && !okB then s.bootError 3 detail
  else if !(okA && !lowA) && !(okB && !lowB) then s.bootError 4 detail
  else
    let useA := okA && !lowA && (!(okB && !lowB) || decide (fwSvn b ≤ fwSvn a))
    let c := if useA then a else b
    let n := if useA then 1 else 2
    let s := ((s.setF F.SEC_STATUS_FW_SVN (fwSvn c)).setF F.SEC_STATUS_FW_COPY n).setF F.MGW_BOOT_STAGE 4
    let s := { s with sec := { s.sec with fwDigest := BitVec.ofNat 64 (ofBytes ((Config.shake256 (fwBytes c) 8).take 8)) } }
    s.event 0x0E01 [n, fwSvn c]

/-- A channel that trained: its words and its event (R315, R319). -/
def chanTrained (s : State) (rate c : Nat) (x : ChanTrain) : State :=
  let s := (s.setF F.CH_STATUS_TRAINED 1 c).setF F.CH_STATUS_RANKS ((x.modules.map (·.ranks)).foldl (· + ·) 0) c
  (s.onChan c fun _ => Chan.empty).event 0x0801 [c, rate, x.eyePs]
/-- Stage 0x05 (R300, R301, R306, R315): the SPD checks, the training, and every line zero. -/
def dramTrained (s : State) (chans : List ChanTrain) : State :=
  let bad := spdFaults chans
  if !bad.isEmpty then s.bootError 5 (maskOf bad)
  else
    let used := (List.range 16).filterMap fun c => (chans[c]?.filter fun x => !x.modules.isEmpty).map fun x => (c, x)
    let perf := used.any fun e => e.2.modules.any (·.mrdimm)
    let rate := pointRate perf
    let total := ((used.flatMap fun e => e.2.modules).map (·.gib)).foldl (· + ·) 0
    let first := (used.head?.map fun e => e.2.modules).getD []
    let s := (used.filter fun e => e.2.trained).foldl (fun (t : State) e => t.chanTrained rate e.1 e.2) s
    let failed := (used.filter fun e => !e.2.trained).map Prod.fst
    if !failed.isEmpty then s.bootError 5 (maskOf failed)
    else
      let s := ((s.setF F.DRM_CTL_OP (if perf then 1 else 2)).setF F.DRM_CTL_CH_MASK (maskOf (used.map Prod.fst))).setF F.DRM_CTL_DATA_RATE rate
      let s := (s.setF F.DRM_CTL_MODS_PER_CH first.length).setF F.DRM_CAP_CAP_GIB (total - 4)
      let s := (s.setF F.DRM_CAP_MOD_GIB ((first.head?.map (·.gib)).getD 0)).setF F.MGW_BOOT_STAGE 5
      let s := (s.setBitF F.CLK_STATUS_POWERED 0 23 true).setBitF F.CLK_STATUS_CLOCKED 0 23 true
      { s with dram := { s.dram with mem := [], poison := [] } }

/-- Stage 0x07 (R213, R395, R438): the window is ready, stack time begins at 0, a frame left open is closed. -/
def bootReady (s : State) : State :=
  ((s.setTime 0).setF F.MGW_BOOT_STAGE 7 |>.setF F.MGW_STATUS_PHASE 1).recorderBoot

/-! The boot window (R212, R214, R217). -/

/-- What the window returns at an offset: MGW_SAVE is a view of the SAVE space. -/
def bootWord (s : State) (off : Nat) : U64 :=
  match off with
  | 0x000 => s.ident
  | 0x010 => 0
  | 0x040 => BitVec.ofNat 64
      ((s.f F.SV_STATUS_ARMED <<< 63) ||| (b2n (s.flash.run.any fun r => !r.committed) <<< 62) |||
        (s.f F.SV_STATUS_IMAGE <<< 61) ||| (b2n (s.f F.SV_STATUS_SAVE_STATE == 7) <<< 60) ||| (s.f F.MGW_SAVE_RESUMED <<< 59) |||
        (s.f F.SV_BUDGET_BUDGET_MIB / 1024 <<< 24) ||| Nat.min (2 ^ 24 - 1) ((s.dirtyBytes + 2 ^ 30 - 1) / 2 ^ 30))
  | 0x048 => BitVec.ofNat 64 s.time
  | _ => if off % 8 = 0 ∧ off < 0x050 then s.word (wkey 256 0 (off / 8)) else 0
/-- The new BASE, EN and LOG2 of a ring register (word 4 or 6) under a write: BASE and LOG2 move only while EN is 0, and EN is set only
where it may be. -/
def ringWrite (s : State) (word lo hi : Nat) (may : Bool) (v : U64) : State :=
  let w := word - 4
  let on := s.flag F.MGW_CQ_BASE_EN 0 w
  let s := if on then s
    else (s.setF F.MGW_CQ_BASE_BASE (fld v F.MGW_CQ_BASE_BASE) 0 w).setF F.MGW_CQ_BASE_LOG2 (fld v F.MGW_CQ_BASE_LOG2) 0 w
  let l := s.f F.MGW_CQ_BASE_LOG2 0 w
  let en := fld v F.MGW_CQ_BASE_EN == 1 && (on || (may && decide (lo ≤ l ∧ l ≤ hi)))
  s.setF F.MGW_CQ_BASE_EN (b2n en) 0 w
/-- MGW_CQ_BASE (R212 to R214): EN is not set before stage 0x07. -/
def cqBaseWrite (s : State) (v : U64) : State :=
  let s := s.ringWrite 4 4 12 (decide (s.f F.MGW_BOOT_STAGE = 7)) v
  s.setF F.MGW_STATUS_CQ_RUN (s.f F.MGW_CQ_BASE_EN)
/-- MGW_EQ_BASE (R217, R374): entries count from 0 as EN is set; the early supply and clock events are posted first. -/
def eqBaseWrite (s : State) (v : U64) : State :=
  let was := s.eqEnabled
  let s := s.ringWrite 6 6 16 true v
  if was || !s.eqEnabled then s
  else
    let kept := s.evq.kept
    let s := { s with evq := { s.evq with seq := 0, everEn := true, kept := [] } }
    kept.foldl (fun (t : State) e => t.eventWrite e.1 e.2.1 e.2.2) s
/-- EQ_OVERFLOW of MGW_STATUS is written (R212). -/
def overflowClear (s : State) (v : U64) : State :=
  if fld v F.MGW_STATUS_EQ_OVERFLOW = 1 then (s.setF F.MGW_STATUS_EQ_OVERFLOW 0).setF F.MGW_STATUS_EQ_LOST 0 else s
/-- MGW_RESET (R212). -/
def resetWrite (s : State) (v : U64) : State :=
  if resetConfirmed v 1 then
    if fld v F.MGW_RESET_STACK = 1 ∧ s.isMaster ∧ s.memberState = 2 then s.orderStackReset else s.requestReset 1
  else if resetConfirmed v 2 then s.requestReset 2
  else s
/-- A write of a word of the window by the access codes of its fields. -/
def windowWrite (s : State) (word : Nat) (v : U64) : State :=
  match word with
  | 1 => s.overflowClear v
  | 2 => s.resetWrite v
  | 4 => s.cqBaseWrite v
  | 5 => s.setF F.MGW_CQ_DOORBELL_TAIL (fld v F.MGW_CQ_DOORBELL_TAIL)
  | 6 => s.eqBaseWrite v
  | 7 => s.setF F.MGW_EQ_HEAD_HEAD (fld v F.MGW_EQ_HEAD_HEAD)
  | _ => s
/-- A write of a control word by the access codes of its fields (R5): ST fields go to the open group of the control program that
runs, IM fields act at once, RO fields stay. -/
def controlWrite (s : State) (k : Nat) (v : U64) : State :=
  let code := s.immCode k v
  let running : Bool := match s.thread? ctlThread with
    | some h => h.ctl && h.ended.isNone
    | none => false
  let ok := running && s.stageCode (s.ownWords (s.stage.opened.getD [])) k v == 0 && !s.stageFull none k
  let s := if ok then s.stageWord none k v else s
  if code = 0 then s.immDo k v else s

end State

open State

/-- FIRMWARE_VERIFY (R411). -/
def execFirmwareVerify (a b : FwCopy) (s : State) : Host.Outcome State Fault Refusal :=
  .next (if s.bootAt 3 then s.firmwareVerified a b else s)
/-- DRAM_TRAINING_DONE (R300, R315). -/
def execDramTrainingDone (chans : List ChanTrain) (s : State) : Host.Outcome State Fault Refusal :=
  .next (if s.bootAt 4 then s.dramTrained chans else s)
/-- BOOT_WINDOW_READY (R213). -/
def execBootWindowReady (s : State) : Host.Outcome State Fault Refusal := .next (if s.bootAt 6 then s.bootReady else s)
/-- PERST_N (R456): it rises. -/
def execPerstN (s : State) : Host.Outcome State Fault Refusal := .next { s with pins := { s.pins with perst := true } }
/-- PCIE_LINK_UP (R213): training ends, with PERST_N high and the core's rails good. -/
def execPcieLinkUp (s : State) : Host.Outcome State Fault Refusal :=
  .next (if s.pins.perst ∧ 3 ≤ s.f F.MGW_BOOT_STAGE ∧ s.deviceOff = false then { s with pins := { s.pins with pcie := true } } else s)
/-- MGW_CQ_BASE_WRITE (R212, R214). -/
def execMgwCqBaseWrite (v : U64) (s : State) : Host.Outcome State Fault Refusal := .next (if s.windowOpen then s.cqBaseWrite v else s)
/-- MGW_CQ_DOORBELL_WRITE (R212). -/
def execMgwCqDoorbellWrite (v : U64) (s : State) : Host.Outcome State Fault Refusal :=
  .next (if s.windowOpen then s.setF F.MGW_CQ_DOORBELL_TAIL (fld v F.MGW_CQ_DOORBELL_TAIL) else s)
/-- MGW_EQ_BASE_WRITE (R217, R374). -/
def execMgwEqBaseWrite (v : U64) (s : State) : Host.Outcome State Fault Refusal := .next (if s.windowOpen then s.eqBaseWrite v else s)
/-- MGW_EQ_HEAD_WRITE (R217). -/
def execMgwEqHeadWrite (v : U64) (s : State) : Host.Outcome State Fault Refusal :=
  .next (if s.windowOpen then s.setF F.MGW_EQ_HEAD_HEAD (fld v F.MGW_EQ_HEAD_HEAD) else s)
/-- EQ_OVERFLOW_CLEAR (R212). -/
def execEqOverflowClear (v : U64) (s : State) : Host.Outcome State Fault Refusal :=
  .next (if s.windowOpen then s.overflowClear v else s)
/-- REGISTER_WRITE (R5). -/
def execRegisterWrite (key : Nat) (v : U64) (s : State) : Host.Outcome State Fault Refusal :=
  .next (if keySpace key = 256 then (if s.windowOpen then s.windowWrite (keyWord key) v else s)
    else if wordExists key then s.controlWrite key v else s)

end Sys2Proof.Machine
end

