-- ==== Sys2Proof/Machine/FlashRanks.lean ====
section
/-! DEFINITION. The ranks of flash work (R326): what of each rank has work on a channel, whose turn it is, and the commands that complete
work in its turn. -/

namespace Sys2Proof.Machine

namespace State

/-- Rank 1: a save programs, or a restore reads. -/
def saveWork (s : State) : Bool := s.flash.run.isSome || s.f F.SV_STATUS_SAVE_STATE == 7
/-- Rank 2: a read waits for a tile whose bytes come from a channel. -/
def waitedFetch (s : State) (c : Nat) : Bool :=
  s.strAll.any fun r => (s.waiters r).any fun e => match s.slotOfSeg r (tileSeg e.2) with
    | some (_, w) => !w.tiles.contains (tileNo e.2) && !(w.recov.any fun x => x.1 == tileNo e.2) &&
        Config.tileChan r (tileSeg e.2) (tileNo e.2) == c
    | none => false
/-- Write-behind of a rank has work on a channel. -/
def cleanWork (s : State) (c rank : Nat) : Bool :=
  s.flag F.FL_CTL_WB_EN && s.dram.dirty.any fun g => s.cleanRank g == rank && Config.homeDie g / 16 == c
/-- Rank 4: write-behind, or the relocation of adopted save records and of blocks under an older flash key (R423). -/
def moveWork (s : State) (c : Nat) : Bool := s.cleanWork c 4 || s.flash.adopted != 0 || s.flag F.SEC_STATUS_ROTATING
/-- Rank 5: a window fills from a channel, or a stream loads. -/
def fillWork (s : State) (c : Nat) : Bool :=
  s.strAll.any fun r =>
    (match (s.stream r).load with
      | some (i, _) => Config.tileChan r (s.f F.STR_LOAD_SEG_FIRST r + i) 0 == c
      | none => false) ||
    (s.strRunning r && (s.stream r).slots.any fun e => !e.2.ready && match (s.stream r).loaded.at? (s.segAt r e.2.pos) with
      | some img => match s.nextTile r e.2 img with
        | some k => Config.tileChan r (s.segAt r e.2.pos) k == c
        | none => false
      | none => false)

/-- Of ranks 4 and 5, both with work, it is rank 4's turn: it has not had more than WB_SHARE percent of the channel's work (DESIGN CHOICE:
work counts by its bytes). -/
def moveTurn (s : State) (c : Nat) : Bool :=
  let (a, b) := s.flash.shares.get (0, 0) c
  decide (100 * a ≤ s.f F.FL_CTL_WB_SHARE * (a + b))
/-- The blocks that work of a rank needs are awake (R379): the flash block; of write-behind the cipher block; of streams the stream
block. -/
def flashAwake (s : State) (rank : Nat) : Bool :=
  !s.supply.gated.contains 22 && ((rank != 3 && rank != 4) || !s.supply.gated.contains 20) &&
    ((rank != 2 && rank != 5) || !s.supply.gated.contains 21)
/-- It is the turn of work of a rank on a channel. -/
def flashTurn (s : State) (c rank : Nat) : Bool :=
  s.flashAwake rank && !s.saveWork && (decide (rank ≤ 2) || !s.waitedFetch c) && (decide (rank ≤ 3) || !s.cleanWork c 3) &&
    (rank != 4 || !s.fillWork c || s.moveTurn c) && (rank != 5 || !s.moveWork c || !s.moveTurn c) &&
    (decide (rank ≤ 5) || !s.moveWork c && !s.fillWork c)
/-- Work of a rank completes on a channel, if it is its turn; `n` is its size in units of 64 KiB. -/
def flashDone (s : State) (c rank n : Nat) (k : State → State) : State :=
  if !s.flashTurn c rank then s
  else
    let (a, b) := s.flash.shares.get (0, 0) c
    let s := if (rank = 4 ∧ s.fillWork c = true) ∨ (rank = 5 ∧ s.moveWork c = true) then
        s.onFlash fun x => { x with shares := x.shares.put c (if rank = 4 then (a + n, b) else (a, b + n)) } else s
    k s

end State

/-- WRITE_BEHIND_PROGRAM_DONE (R325). -/
def execWriteBehindProgramDone (gran : Nat) (s : State) : Host.Outcome State Fault Refusal :=
  .next (if s.cleanFirst gran then s.flashDone (Config.homeDie gran / 16) (s.cleanRank gran) 1 fun s => s.writeBehind gran else s)
/-- FLASH_SCRUB (R328). -/
def execFlashScrub (block : Nat) (x : ScrubRead) (passEnd : Bool) (s : State) : Host.Outcome State Fault Refusal :=
  .next (s.flashDone (Config.blockChan block) 6 1 fun s => s.flashScrub block x passEnd)
/-- FLASH_RELOCATION (R327): the contents of a block move. -/
def execFlashRelocation (block gib : Nat) (s : State) : Host.Outcome State Fault Refusal :=
  .next (s.flashDone (Config.blockChan block) 4 (16384 * gib) fun s => s.relocate block gib)
/-- STREAM_LOAD_IMAGE_DONE (R274). -/
def execStreamLoadImageDone (stream : Nat) (away : List (Nat × Option (List Byte))) (s : State) :
    Host.Outcome State Fault Refusal :=
  .next (if s.saving then s
    else match (s.stream stream).load with
      | some (i, _) => s.flashDone (Config.tileChan stream (s.f F.STR_LOAD_SEG_FIRST stream + i) 0) 5 1 fun s => s.loadImage stream away
      | none => s)
/-- TILE_FETCH_COMPLETE (R278). -/
def execTileFetchComplete (stream seg tile : Nat) (s : State) : Host.Outcome State Fault Refusal :=
  .next (s.flashDone (Config.tileChan stream seg tile) (if (s.waitersOf stream seg tile).isEmpty then 5 else 2) 1 fun s =>
    s.tileFetched stream seg tile)

end Sys2Proof.Machine
end

