-- ==== Sys2Proof/Machine/Package.lean ====
section
/-! DEFINITION. The side interfaces of the package: the outputs (R231, R456), the I3C target (R356, R456) and the test access port
(R467). -/

namespace Sys2Proof.Machine

/-- What an output shows: driven low or high, or released (open drain, high impedance). -/
inductive Level where
  | low
  | high
  | released
  deriving DecidableEq, Repr

def Level.drive (b : Bool) : Level := if b then .high else .low
def Level.pull (asserted : Bool) : Level := if asserted then .low else .released

namespace State

/-! The outputs (R456) as the state gives them. -/

def pinSeqSync (s : State) : Level := Level.pull (!s.syncReleased)
def pinChainOut (s : State) : Level := Level.drive s.supply.chainOut
def pinRailEn (s : State) (n : Nat) : Level := Level.drive (s.railOn n)
def pinHoldupTestEn (s : State) : Level := Level.drive s.supply.test.isSome
def pinThermTrip (s : State) : Level := Level.pull s.pins.thermTrip
def pinInt (s : State) : Level := Level.pull s.intN
/-- A lane of an octet is out of electrical idle once its role puts the octet on (R75, R231). -/
def laneIdle (s : State) (o : Nat) : Bool := s.f F.LNK_CTL_ROLE o == 0
/-- The PCIe transmitters are idle until PERST_N rises. -/
def pcieIdle (s : State) : Bool := !s.pins.perst
/-- The inert levels of the DRAM and the flash outputs until boot stages 0x05 and 0x06 (R231): DCK_T and DCK_C, DCS_N, DRAM_RESET_N, DQ;
CE_N, WP_N, WE_N and RE_T, CLE and ALE, DQ. Beyond them the levels are the protocol's. -/
def dramInert (s : State) : Option (List Level) :=
  if s.f F.MGW_BOOT_STAGE < 5 then some [.low, .high, .low, .released] else none
def flashInert (s : State) : Option (List Level) :=
  if s.f F.MGW_BOOT_STAGE < 6 then some [.high, .low, .high, .low, .released] else none

/-- The three words that the I3C target answers (R356). -/
def i3cWord (s : State) (off : Nat) : Option U64 :=
  match off with
  | 0x00 => some s.ident
  | 0x08 => some (s.bootWord 0x018)
  | 0x10 => some (s.word (F.SUP_SEQ_SEQ_STATE.key 0 0))
  | _ => none
/-- Every host port is disabled. -/
def portsOff (s : State) : Bool := (List.range 12).all fun o => s.f F.LNK_CTL_ROLE o != 1 || s.f F.LNK_CTL_PORT_EN o == 0
/-- What EXTEST drives on the DRAM and flash outputs (R467): the chain, only while every host port is disabled. -/
def extestDrives (s : State) : Option (List Bool) := if s.pins.extest && s.portsOff then some s.pins.preload else none
/-- The test access port has another instruction. -/
def tapLeaves (s : State) : State := { s with pins := { s.pins with extest := false } }
/-- Bits shifted out. -/
def tdo (s : State) (bs : List Bool) : State := s.readback (bs.map b2n)

end State

open State

/-- I3C_TARGET_READ (R356): it works whatever rails are off. -/
def execI3cTargetRead (off : Nat) (s : State) : Host.Outcome State Fault Refusal :=
  .next (match s.i3cWord off with
    | some v => s.readback [off, v.toNat]
    | none => s)
/-- ENTDAA (R456). -/
def execEntdaa (addr : BitVec 7) (s : State) : Host.Outcome State Fault Refusal :=
  .next { s with pins := { s.pins with i3c := addr.toNat } }
/-- JTAG_BYPASS (R467): the one-bit register that captures 0. -/
def execJtagBypass (tdi : List Bool) (s : State) : Host.Outcome State Fault Refusal :=
  .next (s.tapLeaves.tdo ((false :: tdi).take tdi.length))
/-- JTAG_IDCODE (R467). -/
def execJtagIdcode (s : State) : Host.Outcome State Fault Refusal := .next (s.tapLeaves.readback [0x1641274B])
/-- JTAG_SAMPLE_PRELOAD (R467). -/
def execJtagSamplePreload (pins preload : List Bool) (s : State) : Host.Outcome State Fault Refusal :=
  let t := s.tapLeaves
  .next ({ t with pins := { t.pins with preload := preload } }.tdo pins)
/-- JTAG_EXTEST (R467). -/
def execJtagExtest (s : State) : Host.Outcome State Fault Refusal := .next { s with pins := { s.pins with extest := true } }

end Sys2Proof.Machine
end

