-- ==== Sys2Proof/Machine/Dispatch.lean ====
section
/-! DEFINITION. One arm for each command, each a direct call of its meaning. -/

namespace Sys2Proof.Machine

/-- The effect of a command on everything but the queue. -/
def exec (i : Instr) (s : State) : Host.Outcome State Fault Refusal :=
  match i with
  | .pwronRstN x y => Sys2Proof.Machine.execPwronRstN x y s
  | .sysRstN => Sys2Proof.Machine.execSysRstN s
  | .mgwResetControl v => Sys2Proof.Machine.execMgwResetControl v s
  | .mgwResetWarm v => Sys2Proof.Machine.execMgwResetWarm v s
  | .mgwResetStack v => Sys2Proof.Machine.execMgwResetStack v s
  | .stackWordsCopyDone words => Sys2Proof.Machine.execStackWordsCopyDone words s
  | .bootSequenceTableRead a b => Sys2Proof.Machine.execBootSequenceTableRead a b s
  | .firmwareVerify a b => Sys2Proof.Machine.execFirmwareVerify a b s
  | .dramTrainingDone chans => Sys2Proof.Machine.execDramTrainingDone chans s
  | .flashScanDone chans => Sys2Proof.Machine.execFlashScanDone chans s
  | .bootWindowReady => Sys2Proof.Machine.execBootWindowReady s
  | .pcieLinkUp => Sys2Proof.Machine.execPcieLinkUp s
  | .mgwCqBaseWrite v => Sys2Proof.Machine.execMgwCqBaseWrite v s
  | .mgwCqDoorbellWrite v => Sys2Proof.Machine.execMgwCqDoorbellWrite v s
  | .controlDescriptorFetch desc image => Sys2Proof.Machine.execControlDescriptorFetch desc image s
  | .controlProgramTimeout => Sys2Proof.Machine.execControlProgramTimeout s
  | .mgwEqBaseWrite v => Sys2Proof.Machine.execMgwEqBaseWrite v s
  | .mgwEqHeadWrite v => Sys2Proof.Machine.execMgwEqHeadWrite v s
  | .eqOverflowClear v => Sys2Proof.Machine.execEqOverflowClear v s
  | .registerWrite key v => Sys2Proof.Machine.execRegisterWrite key v s
  | .i3cTargetRead off => Sys2Proof.Machine.execI3cTargetRead off s
  | .entdaa addr => Sys2Proof.Machine.execEntdaa addr s
  | .jtagBypass tdi => Sys2Proof.Machine.execJtagBypass tdi s
  | .jtagIdcode => Sys2Proof.Machine.execJtagIdcode s
  | .jtagSamplePreload pins preload => Sys2Proof.Machine.execJtagSamplePreload pins preload s
  | .jtagExtest => Sys2Proof.Machine.execJtagExtest s
  | .weirCutoff => Sys2Proof.Machine.execWeirCutoff s
  | .prep w last => Sys2Proof.Machine.execPrep w last s
  | .prepAck dev w failed => Sys2Proof.Machine.execPrepAck dev w failed s
  | .weirDecision => Sys2Proof.Machine.execWeirDecision s
  | .go w withdrawn => Sys2Proof.Machine.execGo w withdrawn s
  | .nogo w => Sys2Proof.Machine.execNogo w s
  | .weirApply x => Sys2Proof.Machine.execWeirApply x s
  | .weirOutcomeQuery dev w => Sys2Proof.Machine.execWeirOutcomeQuery dev w s
  | .weirOutcome w wentGo withdrawn => Sys2Proof.Machine.execWeirOutcome w wentGo withdrawn s
  | .doubtMaxExpiry => Sys2Proof.Machine.execDoubtMaxExpiry s
  | .groupCloseRequest g => Sys2Proof.Machine.execGroupCloseRequest g s
  | .groupWords seq words => Sys2Proof.Machine.execGroupWords seq words s
  | .groupCloseAnswer seq => Sys2Proof.Machine.execGroupCloseAnswer seq s
  | .remoteControlAccess src op key v => Sys2Proof.Machine.execRemoteControlAccess src op key v s
  | .revoke region => Sys2Proof.Machine.execRevoke region s
  | .revocationMark region => Sys2Proof.Machine.execRevocationMark region s
  | .revokeDrainComplete region => Sys2Proof.Machine.execRevokeDrainComplete region s
  | .mappingDrainComplete dom => Sys2Proof.Machine.execMappingDrainComplete dom s
  | .laneLock lane => Sys2Proof.Machine.execLaneLock lane s
  | .laneLockLoss lane => Sys2Proof.Machine.execLaneLockLoss lane s
  | .portLinkUp octet port => Sys2Proof.Machine.execPortLinkUp octet port s
  | .portLinkDown octet port reason => Sys2Proof.Machine.execPortLinkDown octet port reason s
  | .portOff octet mask => Sys2Proof.Machine.execPortOff octet mask s
  | .twinOctetDown octet => Sys2Proof.Machine.execTwinOctetDown octet s
  | .pairHelloTimer => Sys2Proof.Machine.execPairHelloTimer s
  | .pairHello h => Sys2Proof.Machine.execPairHello h s
  | .reconciliationDone compared copied => Sys2Proof.Machine.execReconciliationDone compared copied s
  | .twinFrameCrcFail f => Sys2Proof.Machine.execTwinFrameCrcFail f s
  | .fwdReq src p => Sys2Proof.Machine.execFwdReq src p s
  | .fwdResp h code result len detail => Sys2Proof.Machine.execFwdResp h code result len detail s
  | .mirror f => Sys2Proof.Machine.execMirror f s
  | .mirrorAck l ns => Sys2Proof.Machine.execMirrorAck l ns s
  | .heartbeatTimer => Sys2Proof.Machine.execHeartbeatTimer s
  | .heartbeat l => Sys2Proof.Machine.execHeartbeat s l
  | .credit l lead => Sys2Proof.Machine.execCredit l lead s
  | .reservedFrameDiscard f vc => Sys2Proof.Machine.execReservedFrameDiscard f vc s
  | .readFenceTimeout silenceNs overdue => Sys2Proof.Machine.execReadFenceTimeout silenceNs overdue s
  | .twinLossTimeout silenceNs => Sys2Proof.Machine.execTwinLossTimeout s silenceNs
  | .grantRequestRetry => Sys2Proof.Machine.execGrantRequestRetry s
  | .grantRequest pair epoch side => Sys2Proof.Machine.execGrantRequest pair epoch side s
  | .grantRecord pair epoch side src => Sys2Proof.Machine.execGrantRecord pair epoch side src s
  | .grantRecordAck pair epoch => Sys2Proof.Machine.execGrantRecordAck pair epoch s
  | .grant pair epoch arbiter => Sys2Proof.Machine.execGrant pair epoch arbiter s
  | .grantRefusal pair epoch => Sys2Proof.Machine.execGrantRefusal pair epoch s
  | .holdLimitExpiry => Sys2Proof.Machine.execHoldLimitExpiry s
  | .twinGrant v => Sys2Proof.Machine.execTwinGrant v s
  | .saveNotice f granted => Sys2Proof.Machine.execSaveNotice f granted s
  | .grantDecline dev epoch => Sys2Proof.Machine.execGrantDecline dev epoch s
  | .grantReport pair epoch side => Sys2Proof.Machine.execGrantReport pair epoch side s
  | .grantReportRetry => Sys2Proof.Machine.execGrantReportRetry s
  | .resyncData l gran gen data => Sys2Proof.Machine.execResyncData l gran gen data s
  | .resyncDone f => Sys2Proof.Machine.execResyncDone f s
  | .healReq f => Sys2Proof.Machine.execHealReq f s
  | .healData f data => Sys2Proof.Machine.execHealData f data s
  | .healTimeout line => Sys2Proof.Machine.execHealTimeout line s
  | .hostFrameReceive f => Sys2Proof.Machine.execHostFrameReceive f s
  | .hostRelay f relayed => Sys2Proof.Machine.execHostRelay f relayed s
  | .braidWrite h data => Sys2Proof.Machine.execBraidWrite h data s
  | .braidReadReq h raddr rkey => Sys2Proof.Machine.execBraidReadReq h raddr rkey s
  | .braidCapsule h data => Sys2Proof.Machine.execBraidCapsule h data s
  | .braidAtomic h a b op => Sys2Proof.Machine.execBraidAtomic h a b op s
  | .braidSack c cum bitmap tsEcho nowUs => Sys2Proof.Machine.execBraidSack c cum bitmap tsEcho nowUs s
  | .braidEcho f nowUs => Sys2Proof.Machine.execBraidEcho f nowUs s
  | .braidRnr c msn retryUs => Sys2Proof.Machine.execBraidRnr c msn retryUs s
  | .sackTimer dq => Sys2Proof.Machine.execSackTimer dq s
  | .retransmitTimeout dq psn nowUs => Sys2Proof.Machine.execRetransmitTimeout dq psn nowUs s
  | .pathHoldoffExpiry dq path => Sys2Proof.Machine.execPathHoldoffExpiry dq path s
  | .rateRiseTimer => Sys2Proof.Machine.execRateRiseTimer s
  | .rateContextFree dest => Sys2Proof.Machine.execRateContextFree dest s
  | .compatSend h data => Sys2Proof.Machine.execCompatSend h data s
  | .compatRdmaWrite h data => Sys2Proof.Machine.execCompatRdmaWrite h data s
  | .compatRdmaRead h => Sys2Proof.Machine.execCompatRdmaRead h s
  | .compatCompareSwap h cmp swp => Sys2Proof.Machine.execCompatCompareSwap h cmp swp s
  | .compatFetchAdd h add => Sys2Proof.Machine.execCompatFetchAdd h add s
  | .compatAck dq psn => Sys2Proof.Machine.execCompatAck dq psn s
  | .compatNak dq => Sys2Proof.Machine.execCompatNak dq s
  | .compatAckTimeout dq => Sys2Proof.Machine.execCompatAckTimeout dq s
  | .cnp dest nowUs => Sys2Proof.Machine.execCnp dest nowUs s
  | .pfcPause port prio on => Sys2Proof.Machine.execPfcPause port prio on s
  | .pauseLong port => Sys2Proof.Machine.execPauseLong port s
  | .contextFetchComplete q => Sys2Proof.Machine.execContextFetchComplete q s
  | .eddyParkTimeout q => Sys2Proof.Machine.execEddyParkTimeout q s
  | .read q tag => Sys2Proof.Machine.execRead q tag s
  | .write q tag => Sys2Proof.Machine.execWrite q tag s
  | .writeAtomic q tag => Sys2Proof.Machine.execWriteAtomic q tag s
  | .compareWrite q tag => Sys2Proof.Machine.execCompareWrite q tag s
  | .fetchAdd q tag => Sys2Proof.Machine.execFetchAdd q tag s
  | .invoke q tag => Sys2Proof.Machine.execInvoke q tag s
  | .abort q tag => Sys2Proof.Machine.execAbort q tag s
  | .append q tag => Sys2Proof.Machine.execAppend q tag s
  | .tileRead q tag => Sys2Proof.Machine.execTileRead q tag s
  | .segmentRelease q tag => Sys2Proof.Machine.execSegmentRelease q tag s
  | .elogRead q tag => Sys2Proof.Machine.execElogRead q tag s
  | .queueRestart q tag => Sys2Proof.Machine.execQueueRestart q tag s
  | .partAdmission pid => Sys2Proof.Machine.execPartAdmission pid s
  | .partCompletion pid => Sys2Proof.Machine.execPartCompletion pid s
  | .commandCompletion q tag => Sys2Proof.Machine.execCommandCompletion q tag s
  | .partHold src pid => Sys2Proof.Machine.execPartHold src pid s
  | .partHoldAnswer q tag dev held => Sys2Proof.Machine.execPartHoldAnswer q tag dev held s
  | .partCancelOrRelease src pid cancel => Sys2Proof.Machine.execPartCancelOrRelease src pid cancel s
  | .queueCloseDone q => Sys2Proof.Machine.execQueueCloseDone q s
  | .kill q => Sys2Proof.Machine.execKill q s
  | .elogWordSelect q v => Sys2Proof.Machine.execElogWordSelect q v s
  | .invocationStart cluster => Sys2Proof.Machine.execInvocationStart cluster s
  | .invocationTimeout t => Sys2Proof.Machine.execInvocationTimeout t s
  | .invocationCompletion t => Sys2Proof.Machine.execInvocationCompletion t s
  | .add t d a b => Sys2Proof.Machine.execAdd t d a b s
  | .sub t d a b => Sys2Proof.Machine.execSub t d a b s
  | .mul t d a b => Sys2Proof.Machine.execMul t d a b s
  | .mulh t d a b u => Sys2Proof.Machine.execMulh t d a b u s
  | .and t d a b => Sys2Proof.Machine.execAnd t d a b s
  | .or t d a b => Sys2Proof.Machine.execOr t d a b s
  | .xor t d a b => Sys2Proof.Machine.execXor t d a b s
  | .shl t d a b => Sys2Proof.Machine.execShl t d a b s
  | .shr t d a b => Sys2Proof.Machine.execShr t d a b s
  | .sar t d a b => Sys2Proof.Machine.execSar t d a b s
  | .rol t d a b => Sys2Proof.Machine.execRol t d a b s
  | .min t d a b => Sys2Proof.Machine.execMin t d a b s
  | .max t d a b => Sys2Proof.Machine.execMax t d a b s
  | .minu t d a b => Sys2Proof.Machine.execMinu t d a b s
  | .maxu t d a b => Sys2Proof.Machine.execMaxu t d a b s
  | .addi t d a imm => Sys2Proof.Machine.execAddi t d a imm s
  | .andi t d a imm => Sys2Proof.Machine.execAndi t d a imm s
  | .ori t d a imm => Sys2Proof.Machine.execOri t d a imm s
  | .xori t d a imm => Sys2Proof.Machine.execXori t d a imm s
  | .shli t d a imm => Sys2Proof.Machine.execShli t d a imm s
  | .shri t d a imm arith => Sys2Proof.Machine.execShri t d a imm arith s
  | .lui t d a imm => Sys2Proof.Machine.execLui t d a imm s
  | .movi t d imm => Sys2Proof.Machine.execMovi t d imm s
  | .popc t d a => Sys2Proof.Machine.execPopc t d a s
  | .clz t d a => Sys2Proof.Machine.execClz t d a s
  | .ctz t d a => Sys2Proof.Machine.execCtz t d a s
  | .bswap t d a => Sys2Proof.Machine.execBswap t d a s
  | .sel t d a b c => Sys2Proof.Machine.execSel t d a b c s
  | .cmpeq t d a b useImm imm => Sys2Proof.Machine.execCmpeq t d a b useImm imm s
  | .cmplt t d a b useImm imm => Sys2Proof.Machine.execCmplt t d a b useImm imm s
  | .cmpltu t d a b useImm imm => Sys2Proof.Machine.execCmpltu t d a b useImm imm s
  | .beq t a b imm => Sys2Proof.Machine.execBeq t a b imm s
  | .bne t a b imm => Sys2Proof.Machine.execBne t a b imm s
  | .blt t a b imm => Sys2Proof.Machine.execBlt t a b imm s
  | .bge t a b imm => Sys2Proof.Machine.execBge t a b imm s
  | .bltu t a b imm => Sys2Proof.Machine.execBltu t a b imm s
  | .bgeu t a b imm => Sys2Proof.Machine.execBgeu t a b imm s
  | .jmpf t imm => Sys2Proof.Machine.execJmpf t imm s
  | .loop t a imm => Sys2Proof.Machine.execLoop t a imm s
  | .endl t => Sys2Proof.Machine.execEndl t s
  | .exit t a => Sys2Proof.Machine.execExit t a s
  | .fault t a imm => Sys2Proof.Machine.execFault t a imm s
  | .yield t => Sys2Proof.Machine.execYield t s
  | .ld8 t d h a imm sx => Sys2Proof.Machine.execLd8 t d h a imm sx s
  | .ld16 t d h a imm sx => Sys2Proof.Machine.execLd16 t d h a imm sx s
  | .ld32 t d h a imm sx => Sys2Proof.Machine.execLd32 t d h a imm sx s
  | .ld64 t d h a imm sx => Sys2Proof.Machine.execLd64 t d h a imm sx s
  | .st8 t h a imm b => Sys2Proof.Machine.execSt8 t h a imm b s
  | .st16 t h a imm b => Sys2Proof.Machine.execSt16 t h a imm b s
  | .st32 t h a imm b => Sys2Proof.Machine.execSt32 t h a imm b s
  | .st64 t h a imm b => Sys2Proof.Machine.execSt64 t h a imm b s
  | .ldl t d h a imm => Sys2Proof.Machine.execLdl t d h a imm s
  | .stl t h a imm b => Sys2Proof.Machine.execStl t h a imm b s
  | .ldlX t d imm => Sys2Proof.Machine.execLdlX t d imm s
  | .stlX t b imm => Sys2Proof.Machine.execStlX t b imm s
  | .vmov t d a => Sys2Proof.Machine.execVmov t d a s
  | .vext t d a imm w => Sys2Proof.Machine.execVext t d a imm w s
  | .vins t d b imm w => Sys2Proof.Machine.execVins t d b imm w s
  | .ldb t d h a imm km1 => Sys2Proof.Machine.execLdb t d h a imm km1 s
  | .stb t h a imm b km1 => Sys2Proof.Machine.execStb t h a imm b km1 s
  | .mcopy t d h a hs b imm => Sys2Proof.Machine.execMcopy t d h a hs b imm s
  | .mfill t d h a b imm => Sys2Proof.Machine.execMfill t d h a b imm s
  | .mcmp t d h a hs b imm => Sys2Proof.Machine.execMcmp t d h a hs b imm s
  | .cas64 t d h a imm b => Sys2Proof.Machine.execCas64 t d h a imm b s
  | .cas128 t d h a imm b => Sys2Proof.Machine.execCas128 t d h a imm b s
  | .swap64 t d h a imm b => Sys2Proof.Machine.execSwap64 t d h a imm b s
  | .fadd64 t d h a imm b => Sys2Proof.Machine.execFadd64 t d h a imm b s
  | .fand t d h a imm b => Sys2Proof.Machine.execFand t d h a imm b s
  | .fetchOr t d h a imm b => Sys2Proof.Machine.execFetchOr t d h a imm b s
  | .fmax t d h a imm b sgn => Sys2Proof.Machine.execFmax t d h a imm b sgn s
  | .lcas t d h a imm b f => Sys2Proof.Machine.execLcas t d h a imm b f s
  | .pfence t => Sys2Proof.Machine.execPfence t s
  | .txb t => Sys2Proof.Machine.execTxb t s
  | .txe t d => Sys2Proof.Machine.execTxe t d s
  | .txa t => Sys2Proof.Machine.execTxa t s
  | .pstat t d => Sys2Proof.Machine.execPstat t d s
  | .qpost t d h a hb b imm => Sys2Proof.Machine.execQpost t d h a hb b imm s
  | .qcomp t d h a b imm => Sys2Proof.Machine.execQcomp t d h a b imm s
  | .qsend t d h a b imm => Sys2Proof.Machine.execQsend t d h a b imm s
  | .farm t d h a => Sys2Proof.Machine.execFarm t d h a s
  | .fdisarm t d a => Sys2Proof.Machine.execFdisarm t d a s
  | .balloc t d h imm idx => Sys2Proof.Machine.execBalloc t d h imm idx s
  | .bfree t d h => Sys2Proof.Machine.execBfree t d h s
  | .bref t d h => Sys2Proof.Machine.execBref t d h s
  | .bunref t d h => Sys2Proof.Machine.execBunref t d h s
  | .blen t d h => Sys2Proof.Machine.execBlen t d h s
  | .cinv t d h a imm b => Sys2Proof.Machine.execCinv t d h a imm b s
  | .cinvAll t d imm => Sys2Proof.Machine.execCinvAll t d imm s
  | .cwb t d h a imm b => Sys2Proof.Machine.execCwb t d h a imm b s
  | .cwbi t d h a imm b => Sys2Proof.Machine.execCwbi t d h a imm b s
  | .clock t d h a imm scr => Sys2Proof.Machine.execClock t d h a imm scr s
  | .cunlk t d h a imm scr => Sys2Proof.Machine.execCunlk t d h a imm scr s
  | .cen t d imm => Sys2Proof.Machine.execCen t d imm s
  | .cdis t d imm => Sys2Proof.Machine.execCdis t d imm s
  | .cstat t d a => Sys2Proof.Machine.execCstat t d a s
  | .disReq cluster => Sys2Proof.Machine.execDisReq cluster s
  | .stile t d h a b hb => Sys2Proof.Machine.execStile t d h a b hb s
  | .srel t d h a => Sys2Proof.Machine.execSrel t d h a s
  | .swait t d h a => Sys2Proof.Machine.execSwait t d h a s
  | .sstat t d h => Sys2Proof.Machine.execSstat t d h s
  | .genc t d h a b k imm => Sys2Proof.Machine.execGenc t d h a b k imm s
  | .gdec t d h a b k imm => Sys2Proof.Machine.execGdec t d h a b k imm s
  | .shk t d h a b imm => Sys2Proof.Machine.execShk t d h a b imm s
  | .seal t d h => Sys2Proof.Machine.execSeal t d h s
  | .cfgs t d a b => Sys2Proof.Machine.execCfgs t d a b s
  | .cfgr t d a staged => Sys2Proof.Machine.execCfgr t d a staged s
  | .cfgc t d => Sys2Proof.Machine.execCfgc t d s
  | .cfgi t d a b => Sys2Proof.Machine.execCfgi t d a b s
  | .wwait t d imm => Sys2Proof.Machine.execWwait t d imm s
  | .drst t imm => Sys2Proof.Machine.execDrst t imm s
  | .evt t a imm => Sys2Proof.Machine.execEvt t a imm s
  | .time t d => Sys2Proof.Machine.execTime t d s
  | .cal t d => Sys2Proof.Machine.execCal t d s
  | .hist t a imm => Sys2Proof.Machine.execHist t a imm s
  | .eddyPeakRead => Sys2Proof.Machine.execEddyPeakRead s
  | .lowFreeRead pool => Sys2Proof.Machine.execLowFreeRead pool s
  | .waitPeakRead stream => Sys2Proof.Machine.execWaitPeakRead stream s
  | .zqRunsRead chan => Sys2Proof.Machine.execZqRunsRead chan s
  | .timeErrMaxRead => Sys2Proof.Machine.execTimeErrMaxRead s
  | .zeroingDone pool idx => Sys2Proof.Machine.execZeroingDone pool idx s
  | .streamLoadImageDone stream away => Sys2Proof.Machine.execStreamLoadImageDone stream away s
  | .tileFetchComplete stream seg tile => Sys2Proof.Machine.execTileFetchComplete stream seg tile s
  | .tileFlashReadFail stream seg tile => Sys2Proof.Machine.execTileFlashReadFail stream seg tile s
  | .tileRecoveryTimeout stream seg tile => Sys2Proof.Machine.execTileRecoveryTimeout stream seg tile s
  | .tileStallTimeout stream waiter => Sys2Proof.Machine.execTileStallTimeout stream waiter s
  | .releaseCount stream seg dev q tag count => Sys2Proof.Machine.execReleaseCount stream seg dev q tag count s
  | .newFirst stream first => Sys2Proof.Machine.execNewFirst stream first s
  | .scheduleCheck stream => Sys2Proof.Machine.execScheduleCheck stream s
  | .streamControllerTakeover stream => Sys2Proof.Machine.execStreamControllerTakeover stream s
  | .dataResp id data => Sys2Proof.Machine.execDataResp id data s
  | .refresh chan hotReported => Sys2Proof.Machine.execRefresh chan hotReported s
  | .calibrationRefresh chan sub lane driftPs => Sys2Proof.Machine.execCalibrationRefresh chan sub lane driftPs s
  | .zqLatchRefresh chan => Sys2Proof.Machine.execZqLatchRefresh chan s
  | .moduleSensorRead chan module temp => Sys2Proof.Machine.execModuleSensorRead chan module temp s
  | .powerDownEntry chan sub rank => Sys2Proof.Machine.execPowerDownEntry chan sub rank s
  | .dramRequest chan port id line sub rank row isWrite data => Sys2Proof.Machine.execDramRequest chan port id line sub rank row isWrite data s
  | .dramCommandSlot chan sub ageNs => Sys2Proof.Machine.execDramCommandSlot chan sub ageNs s
  | .dramReadData chan id ecc => Sys2Proof.Machine.execDramReadData chan id ecc s
  | .dramWriteOnMedium line => Sys2Proof.Machine.execDramWriteOnMedium line s
  | .patrolScrubRead chan line sub rank ecc otherLost => Sys2Proof.Machine.execPatrolScrubRead chan line sub rank ecc otherLost s
  | .writeBehindProgramDone gran => Sys2Proof.Machine.execWriteBehindProgramDone gran s
  | .flashProgramFailure chan die block => Sys2Proof.Machine.execFlashProgramFailure chan die block s
  | .flashEraseFailure chan die block => Sys2Proof.Machine.execFlashEraseFailure chan die block s
  | .flashReadRetry chan die step gran kind => Sys2Proof.Machine.execFlashReadRetry chan die step gran kind s
  | .flashScrub block bad passEnd => Sys2Proof.Machine.execFlashScrub block bad passEnd s
  | .flashRelocation block gib => Sys2Proof.Machine.execFlashRelocation block gib s
  | .ownBudget mib => Sys2Proof.Machine.execOwnBudget mib s
  | .spateFlags dev spate full ovr dMib => Sys2Proof.Machine.execSpateFlags dev spate full ovr dMib s
  | .saveRateRetest mbs => Sys2Proof.Machine.execSaveRateRetest mbs s
  | .armingTestDone mbs => Sys2Proof.Machine.execArmingTestDone mbs s
  | .pfailN => Sys2Proof.Machine.execPfailN s
  | .inputFailed code => Sys2Proof.Machine.execInputFailed code s
  | .inputGood code => Sys2Proof.Machine.execInputGood code s
  | .saveNowHalt => Sys2Proof.Machine.execSaveNowHalt s
  | .saveNowResume => Sys2Proof.Machine.execSaveNowResume s
  | .saveMetadataDone => Sys2Proof.Machine.execSaveMetadataDone s
  | .saveRecordsDone => Sys2Proof.Machine.execSaveRecordsDone s
  | .saveCommitDone ms => Sys2Proof.Machine.execSaveCommitDone ms s
  | .resumeDwell => Sys2Proof.Machine.execResumeDwell s
  | .powerLost => Sys2Proof.Machine.execPowerLost s
  | .restoreDone ms => Sys2Proof.Machine.execRestoreDone ms s
  | .seqSyncRise => Sys2Proof.Machine.execSeqSyncRise s
  | .seqGuardEnd => Sys2Proof.Machine.execSeqGuardEnd s
  | .seqChainIn level => Sys2Proof.Machine.execSeqChainIn level s
  | .seqChainRet level => Sys2Proof.Machine.execSeqChainRet level s
  | .railEnableGap => Sys2Proof.Machine.execRailEnableGap s
  | .chainLimit => Sys2Proof.Machine.execChainLimit s
  | .syncLimit => Sys2Proof.Machine.execSyncLimit s
  | .railSettleDwell rail => Sys2Proof.Machine.execRailSettleDwell rail s
  | .railSettleLimit rail => Sys2Proof.Machine.execRailSettleLimit rail s
  | .railFault rail code => Sys2Proof.Machine.execRailFault rail code s
  | .railWarning rail code => Sys2Proof.Machine.execRailWarning rail code s
  | .railOffConfirmed rail off => Sys2Proof.Machine.execRailOffConfirmed rail off s
  | .powerDownGap => Sys2Proof.Machine.execPowerDownGap s
  | .dischargeTestStart mv steady => Sys2Proof.Machine.execDischargeTestStart mv steady s
  | .dischargeTestEsr mv => Sys2Proof.Machine.execDischargeTestEsr mv s
  | .dischargeTestV1 mv => Sys2Proof.Machine.execDischargeTestV1 mv s
  | .dischargeTestEnd mv us => Sys2Proof.Machine.execDischargeTestEnd mv us s
  | .dischargeTestTimeout => Sys2Proof.Machine.execDischargeTestTimeout s
  | .engineClockGate engine => Sys2Proof.Machine.execEngineClockGate engine s
  | .clusterPowerGate cluster => Sys2Proof.Machine.execClusterPowerGate cluster s
  | .blockPowerGate domain => Sys2Proof.Machine.execBlockPowerGate domain s
  | .domainWakeDone domain ns => Sys2Proof.Machine.execDomainWakeDone domain ns s
  | .pllLockLoss pll => Sys2Proof.Machine.execPllLockLoss pll s
  | .junctionSensorRead eighths => Sys2Proof.Machine.execJunctionSensorRead eighths s
  | .thermTrip => Sys2Proof.Machine.execThermTrip s
  | .timeBroadcast => Sys2Proof.Machine.execTimeBroadcast s
  | .timeFrame src masterNs corr epoch => Sys2Proof.Machine.execTimeFrame src masterNs corr epoch s
  | .beatAck dev epoch => Sys2Proof.Machine.execBeatAck dev epoch s
  | .masterStepDown => Sys2Proof.Machine.execMasterStepDown s
  | .deputyClaim => Sys2Proof.Machine.execDeputyClaim s
  | .stepDown epoch => Sys2Proof.Machine.execStepDown epoch s
  | .claim src epoch quietHalf => Sys2Proof.Machine.execClaim src epoch quietHalf s
  | .claimAck dev groups => Sys2Proof.Machine.execClaimAck dev groups s
  | .claimNak dev => Sys2Proof.Machine.execClaimNak dev s
  | .claimTimeout => Sys2Proof.Machine.execClaimTimeout s
  | .selfExclusion => Sys2Proof.Machine.execSelfExclusion s
  | .stackFormTimeout => Sys2Proof.Machine.execStackFormTimeout s
  | .join dev stepping empty => Sys2Proof.Machine.execJoin dev stepping empty s
  | .joinRefuse reason => Sys2Proof.Machine.execJoinRefuse reason s
  | .exclude dev cause => Sys2Proof.Machine.execExclude dev cause s
  | .cascadeLinkChange dir up => Sys2Proof.Machine.execCascadeLinkChange dir up s
  | .linkMap links => Sys2Proof.Machine.execLinkMap links s
  | .cascadeFrameHop type vc src dst hops seq => Sys2Proof.Machine.execCascadeFrameHop type vc src dst hops seq s
  | .inServiceChange dev x => Sys2Proof.Machine.execInServiceChange dev x s
  | .rngHealthFail test => Sys2Proof.Machine.execRngHealthFail test s
  | .flashKeyRotationDone => Sys2Proof.Machine.execFlashKeyRotationDone s
  | .attestReportReady => Sys2Proof.Machine.execAttestReportReady s
  | .scheduledSeal slot => Sys2Proof.Machine.execScheduledSeal slot s
  | .sealRecordWrite slot => Sys2Proof.Machine.execSealRecordWrite slot s
  | .frameClose openSecs samples => Sys2Proof.Machine.execFrameClose openSecs samples s
  | .recorderCheckpoint openSecs => Sys2Proof.Machine.execRecorderCheckpoint openSecs s
  | .chatterEdge rail => Sys2Proof.Machine.execChatterEdge rail s
  | .railWarningClear rail => Sys2Proof.Machine.execRailWarningClear rail s
  | .pfailNHigh => Sys2Proof.Machine.execPfailNHigh s
  | .beatAckTimeout dev => Sys2Proof.Machine.execBeatAckTimeout dev s
  | .rngHealthPass => Sys2Proof.Machine.execRngHealthPass s
  | .thermTripRelease => Sys2Proof.Machine.execThermTripRelease s
  | .frameLoadDone => Sys2Proof.Machine.execFrameLoadDone s
  | .perstN => Sys2Proof.Machine.execPerstN s

end Sys2Proof.Machine
end

