-- ==== Sys2Proof/Machine/Tick.lean ====
section
/-! DEFINITION. One nanosecond in which no command comes (R333, R395, R444). -/

namespace Sys2Proof.Machine.State

/-- Stack time over one nanosecond: it counts one, and while a correction is due one more or less in every 10,000 (R395: 100 ppm). -/
def stackTick (s : State) : State :=
  if s.stk.slew = 0 then { s with time := s.time + 1 }
  else if s.stk.slewTick < 9999 then { s with time := s.time + 1, stk := { s.stk with slewTick := s.stk.slewTick + 1 } }
  else if 0 < s.stk.slew then { s with time := s.time + 2, stk := { s.stk with slewTick := 0, slew := s.stk.slew - 1 } }
  else { s with stk := { s.stk with slewTick := 0, slew := s.stk.slew + 1 } }
/-- A new budget takes effect 1 µs after its weir (R333). -/
def budgetTick (s : State) : State :=
  match s.flash.budgetAt with
  | some b => if b.1 ≤ s.time then s.budgetDue else s
  | none => s
/-- One nanosecond: stack time, the calendar, a budget that falls due. -/
def tick (s : State) : State := s.stackTick.rtcTick.budgetTick

end Sys2Proof.Machine.State
end

