-- ==== Sys2Proof/Machine/Step.lean ====
section
/-! DEFINITION. One step of the block: the command at the front of the queue, or, on an empty queue, one nanosecond; and placing a command that a word spells (the table gives its rows no bits). -/

namespace Sys2Proof.Machine

/-- Take the command at the front of the queue and run it with the rest of the queue; with none waiting, one nanosecond
passes. -/
def step (s : State) : Host.Outcome State Fault Refusal :=
  match s.pending with
  | [] => .next s.tick
  | c :: rest => exec c { s with pending := rest }

/-- The opcode table gives no row any bits, so no word spells a command: the state is unchanged. -/
def State.withFetchWord (s : State) (_nbits _w : Nat) : State := s

end Sys2Proof.Machine
end

