-- ==== Sys2Proof/Safety.lean ====
section
/-! DEFINITION. The terms that claims use: what a state must satisfy, and what one command changes. -/

namespace Sys2Proof.Machine

/-- Memory is in its canonical form: addresses rise, and no byte is listed that an unlisted address reads as (0, R306). -/
def Memory.wf (m : SMap Byte) : Bool := m.wf fun _ => 0

/-- The control words are in their canonical form: keys rise, and none is listed at its After reset value (R6). -/
def State.ctlWf (s : State) : Bool := s.ctl.wf resetWord

/-- The invariant of the machine: both are canonical, and the straps are a position of the 8 by 8 torus, so that the device index
8y + x lies below 64 (R10, R457). -/
def State.Inv (s : State) : Prop := s.ctlWf = true ∧ Memory.wf s.dram.mem = true ∧ s.strapX < 8 ∧ s.strapY < 8

/-! Threads. -/

/-- Thread `t` is `h`, its program runs, and the word at its pc is `w`; `bad`: it cannot be read (R184, R211). -/
def RunsWord (s : State) (t : Nat) (w : U64) (h : Thread) (bad : Bool) : Prop :=
  s.thread? t = some h ∧ h.ended = none ∧ h.timedOut = false ∧ h.img[h.pc]? = some w ∧ s.wordBad h = bad
/-- The word at the pc of thread `t` is `w`, without an uncorrectable error. -/
def Runs (s : State) (t : Nat) (w : U64) (h : Thread) : Prop := RunsWord s t w h false

/-- `s'` is `s` but for thread `t`, which is `h'`. -/
def OnlyThread (s s' : State) (t : Nat) (h' : Thread) : Prop :=
  s' = { s with eng := { s.eng with threads := s'.eng.threads } } ∧ s'.thread? t = some h' ∧ ∀ u, u ≠ t → s'.thread? u = s.thread? u

/-- `h'` is `h` one instruction on: it was charged `cost` cycles (R149), and its g registers may have changed. -/
def Next (h h' : Thread) (cost : Nat) : Prop :=
  h' = { h with g := h'.g, pc := h.pc + 1, charged := h.charged + cost }

/-- The g registers read as before, but for g[d], which reads `v`; g0 reads 0 whatever is written to it (R150). -/
def Writes (h h' : Thread) (d : GReg) (v : U64) : Prop := ∀ r : GReg, h'.rg r = if r = d ∧ d ≠ 0 then v else h.rg r

/-- The command `i`, issued as the word `w` on a thread that runs it, writes `v` to g[d], goes on to the next instruction, is charged
`cost` cycles, and changes nothing else. -/
def RegResult (i : Instr) (t : Nat) (w : U64) (cost : Nat) (d : GReg) (v : Thread → U64) : Prop :=
  ∀ s h, Runs s t w h → ∃ s' h', exec i s = .next s' ∧ OnlyThread s s' t h' ∧ Next h h' cost ∧ Writes h h' d (v h)

/-- The program of the thread ends with a device fault (R177, R189), and nothing else changes. -/
def FaultsWith (i : Instr) (s : State) (t : Nat) (h : Thread) (code : Nat) : Prop :=
  ∃ s', exec i s = .next s' ∧ OnlyThread s s' t { h with ended := some ⟨Code.programFault, code, 0⟩ }

/-- A branch of the thread goes to `target` and drops the open loops whose ENDL lies before it (R191, R193). -/
def TakesTo (h h' : Thread) (target : Nat) : Prop :=
  ∃ n, h' = { h with pc := target, charged := h.charged + 1, loops := h.loops.drop n } ∧
    (∀ l ∈ (h.loops.take n), l.2.2 < target) ∧ ∀ l ∈ (h.loops.drop n).head?, target ≤ l.2.2
/-- A conditional branch with the condition `c`. -/
def BranchOn (i : Instr) (t : Nat) (w : U64) (imm : Imm) (c : Thread → Prop) : Prop :=
  ∀ s h, Runs s t w h → ∃ s' h', exec i s = .next s' ∧ OnlyThread s s' t h' ∧
    (c h → TakesTo h h' (h.pc + imm.toNat)) ∧ (¬ c h → h' = { h with pc := h.pc + 1, charged := h.charged + 1 })

/-! Memory as instructions reach it. -/

/-- The offset g[a] + imm of an access (R156). -/
def offsetOf (h : Thread) (a : GReg) (imm : Imm) : U64 := h.rg a + imm.signExtend 64

/-- Handle `hr` is a buffer handle, and `n` bytes at the offset lie in its buffer `x`, aligned (R188). -/
def InBuffer (s : State) (h : Thread) (hr : HReg) (off : U64) (n align : Nat) (b : Nat) (x : Buf) (rd wr : Bool) : Prop :=
  h.rh hr = .buffer b rd wr ∧ s.buf? b = some x ∧ 0 ≤ off.toInt ∧ off.toNat + n ≤ s.bufSize b ∧ off.toNat % align = 0

/-- The little-endian value of the `n` bytes of a buffer from `o`; a byte never written reads 0 (R201). -/
def bufValue (x : Buf) (o n : Nat) : Nat := ofBytes ((List.range n).map fun j => x.data.getD (o + j) 0)

/-- `s'` is `s` with bytes of buffer `b` replaced from `o` on, and thread `t` one instruction on. -/
def StoredInBuffer (s s' : State) (t : Nat) (h : Thread) (cost b : Nat) (x : Buf) (o : Nat) (bs : List Byte) : Prop :=
  ∃ x' h', s' = { s with bufs := s'.bufs, eng := { s.eng with threads := s'.eng.threads } } ∧
    s'.thread? t = some h' ∧ (∀ u, u ≠ t → s'.thread? u = s.thread? u) ∧ Next h h' cost ∧ (∀ r, h'.rg r = h.rg r) ∧
    s'.buf? b = some x' ∧ x' = { x with data := x'.data } ∧ (∀ c, c ≠ b → s'.buf? c = s.buf? c) ∧
    ∀ j, x'.data.getD j 0 = if o ≤ j ∧ j < o + bs.length then bs.getD (j - o) 0 else x.data.getD j 0

/-- An access of `n` bytes through region handle `hr` of an invocation's program, outside a transaction group, at byte `o` of its region
`r`, in one granule: what the handle gives. -/
def InRegion (h : Thread) (hr : HReg) (off : U64) (n align r o : Nat) (rd wr : Bool) : Prop :=
  ∃ dm base len at_, h.rh hr = .region (some dm) r base len rd wr at_ ∧ h.tx = none ∧ 0 ≤ off.toInt ∧ off.toNat + n ≤ len ∧
    off.toNat % align = 0 ∧ o = base + off.toNat ∧ 0 < n ∧ o % granBytes + n ≤ granBytes

/-- No entry of the line caches is in error (R243, R244). -/
def CachesSound (s : State) : Prop := ∀ c i, ((s.cache c).entry i).ecc = [] ∧ ((s.cache c).entry i).tagBad = false

/-- The device serves the access itself: check 6 of R22 passes, no line of it is poisoned, no cache entry is in error, no seal record that it
reads is on its way (R429), and the thread has no part under way. -/
def ServedHere (s : State) (t r o n : Nat) (wr : Bool) : Prop :=
  s.admit6 r o wr = .pass ∧ s.partsOf t = [] ∧ s.admissionHeld = false ∧ CachesSound s ∧ s.sealWaits r o n = false ∧
    ∀ l ∈ linesOf (s.place r o).2 n, s.isPoisoned l = false

/-- What posting an event can change (R217, R374, R438): control words, what is sent, the event queue, the recorder's frame. -/
def EventsOnly (s s' : State) : Prop := s' = { s with ctl := s'.ctl, out := s'.out, evq := s'.evq, recd := s'.recd }

/-- Thread `t` is now `h'` and the other threads are as they were. -/
def ThreadNow (s s' : State) (t : Nat) (h' : Thread) : Prop := s'.thread? t = some h' ∧ ∀ u, u ≠ t → s'.thread? u = s.thread? u

/-- No byte of memory has changed. -/
def MemorySame (s s' : State) : Prop := ∀ a, s'.dram.mem.get 0 a = s.dram.mem.get 0 a


/-! Control words. -/

/-- A value for a field: the field, its record, its word, the value. -/
def Fld.is (x : Fld) (v : Nat) (r : Nat := 0) (w : Nat := 0) : Fld × Nat × Nat × Nat := (x, r, w, v)
/-- A counter field of `s` and `n` more: it saturates (R5). -/
def Fld.up (x : Fld) (s : State) (r : Nat := 0) (n : Nat := 1) : Fld × Nat × Nat × Nat :=
  (x, r, 0, satAdd (x.hi + 1 - x.lo) (s.f x r) n)

/-- `t` is `s` but for the listed fields of its control words, which read the listed values (their low bits): every other bit of every
control word is as it was, and so is everything else. -/
def Sets (s t : State) (l : List (Fld × Nat × Nat × Nat)) : Prop :=
  t = { s with ctl := t.ctl } ∧ (∀ e ∈ l, t.f e.1 e.2.1 e.2.2.1 = e.2.2.2 % 2 ^ (e.1.hi + 1 - e.1.lo)) ∧
    ∀ k i, (∀ e ∈ l, ¬ (e.1.key e.2.1 e.2.2.1 = k ∧ e.1.lo ≤ i ∧ i ≤ e.1.hi)) → (t.word k).getLsbD i = (s.word k).getLsbD i

/-- The command sets the listed fields and changes nothing else. -/
def OnlySets (c : Instr) (s : State) (l : List (Fld × Nat × Nat × Nat)) : Prop := ∃ t, exec c s = .next t ∧ Sets s t l

/-- The command sets the listed fields, then posts an event (R217), and changes nothing else. -/
def SetsPosts (c : Instr) (s : State) (l : List (Fld × Nat × Nat × Nat)) (code : Nat) (dat : List Nat) : Prop :=
  ∃ u, Sets s u l ∧ exec c s = .next (u.event code dat)

/-- Bytes of buffer `b`, which was `x`, are replaced from `o` on, and the other buffers are as they were. -/
def BytesInBuffer (s s' : State) (b : Nat) (x : Buf) (o : Nat) (bs : List Byte) : Prop :=
  ∃ x', s'.buf? b = some x' ∧ x' = { x with data := x'.data } ∧ (∀ c, c ≠ b → s'.buf? c = s.buf? c) ∧
    ∀ j, x'.data.getD j 0 = if o ≤ j ∧ j < o + bs.length then bs.getD (j - o) 0 else x.data.getD j 0

/-- `h'` is `h` one control-mode instruction on: 4 cycles, and no answer is waited for (R149, R218). -/
def NextCtl (h h' : Thread) : Prop := h' = { h with g := h'.g, pc := h.pc + 1, charged := h.charged + 4, wait := none, ready := none }

/-- Part `pid` of the thread, a tile part, is `q` (R205). -/
def TilePart (s : State) (t pid : Nat) (q : Part) : Prop :=
  (s.partsOf t).find? (fun e => e.2.kind == .tile) = some (pid, q) ∧ s.parts.at? pid = some q


/-- Queues, programs, parts, caches and buffers are gone (R230). -/
def CoreGone (t : State) : Prop :=
  t.queues = [] ∧ t.eng.threads = [] ∧ t.eng.waiting = [] ∧ t.parts = [] ∧ t.caches = [] ∧ t.bufs = [] ∧ t.rates = [] ∧ t.fiddles = [] ∧ t.tp = .reset

/-- What the flash holds is as it was (R230): homes, image, IV, bad blocks, the last record number. -/
def FlashSame (s t : State) : Prop :=
  t.flash.homes = s.flash.homes ∧ t.flash.image = s.flash.image ∧ t.flash.adopted = s.flash.adopted ∧ t.flash.iv = s.flash.iv ∧
    t.flash.badBlocks = s.flash.badBlocks ∧ t.flash.dieFails = s.flash.dieFails ∧ t.flash.lastSeq = s.flash.lastSeq

/-- A reset of a kind leaves word `k` at its After reset value but for the bits it keeps (R6, R230). -/
def WordReset (s t : State) (kind : Nat) (k : Nat) : Prop := t.word k = mergeBits (resetWord k) (s.word k) (keptMask kind false k)

/-- The rails that are on in the state that a power-down has reached are switched off and awaited; nothing else of the supply changes (R372). -/
def RailsOff (s t : State) : Prop :=
  let mine := (List.range 32).filter fun n => s.railOn n && tStateOn s.table n == s.supply.down
  t = { s with ctl := t.ctl, supply := { s.supply with offDue := mine } } ∧
    ∀ n < 32, t.railOn n = (s.railOn n && !mine.contains n)

/-- Messages are sent, and nothing else changes. -/
def Sent (s t : State) (ms : List Msg) : Prop := t = { s with out := s.out ++ ms }

/-- Only the staging store changes, to `x`, and messages are sent. -/
def StageNow (s t : State) (x : Stage) (ms : List Msg) : Prop := t = { s with stage := x, out := s.out ++ ms }

/-- A cascade message of a type to a device. -/
def cas (dst type : Nat) (items : List Nat) : Msg := ⟨.cascade, dst, type :: items, []⟩

/-- A cascade message of a type to each other member, the nearest first (R392). -/
def casAll (s : State) (type : Nat) (items : List Nat) : List Msg := s.others.map fun d => cas d type items

/-- A notice of the cascade control channel to `dst`, or with 255 to each other member, is sent, and nothing else changes (R389, R392). -/
def SendsNotice (s t : State) (dst : Nat) (items : List Nat) : Prop :=
  Sent s t (if dst = 255 then casAll s 0x18 items else [cas dst 0x18 items])

/-- Completed flash work has been counted to its channel's shares (R326); nothing else has changed. -/
def Shared (s u : State) : Prop := u = { s with flash := { s.flash with shares := u.flash.shares } }

/-- No tile of a stream is in recovery from the twin (R291). -/
def NoRecovery (s : State) : Prop := ∀ r, ∀ e ∈ (s.stream r).slots, e.2.recov = []

/-- A number with bit `i` set or cleared. -/
def withBit (n i : Nat) (b : Bool) : Nat := if n.testBit i = b then n else if b then n + 2 ^ i else n - 2 ^ i

/-- A read from outside: what it returned. -/
def readMsg (vs : List Nat) : Msg := ⟨.readback, 0, vs, []⟩

/-- Channel `c` is `x` now, and nothing else changes. -/
def ChanNow (s t : State) (c : Nat) (x : Chan) : Prop := t = { s with chans := t.chans } ∧ t.chan c = x ∧ ∀ k, k ≠ c → t.chan k = s.chan k

/-- Command `c` of queue `x` has opcode `op`, its tag, and may start (R123). -/
def MayRun (s : State) (q tag op : Nat) (x : Queue) (c : Cmd) : Prop :=
  s.queue? q = some x ∧ (x.cmds.find? fun c => c.tag == tag) = some c ∧ c.op = op ∧ State.mayStart x c = true

/-- The command has started with one new part, `p`, of this device, which waits for admission; nothing else changes (R128). -/
def OnePart (s t : State) (q tag : Nat) (c : Cmd) (p : Part) : Prop :=
  t = { s with queues := t.queues, parts := t.parts, nextPart := s.nextPart + 1 } ∧ t.parts.at? s.nextPart = some { p with born := s.time, grp := s.nextPart } ∧
    (∀ k, k ≠ s.nextPart → t.parts.at? k = s.parts.at? k) ∧ t.cmd? q tag = some { c with started := true, parts := [s.nextPart] } ∧
    ∀ k, k ≠ q → t.queue? k = s.queue? k

/-- Part `pid` is `p`. -/
def PartIs (s : State) (pid : Nat) (p : Part) : Prop := s.parts.at? pid = some p

/-- Part `pid` is `p` now, the other parts are as they were, and nothing else changes. -/
def OnlyPart (s t : State) (pid : Nat) (p : Part) : Prop :=
  t = { s with parts := t.parts } ∧ t.parts.at? pid = some p ∧ ∀ k, k ≠ pid → t.parts.at? k = s.parts.at? k

/-- A control frame of braid mode of queue `q`, whose context is `x`, to queue `rq` of the host: its items, RQ, OQ, and its way (R82, R86, R88). -/
def ctlMsg (s : State) (q : Nat) (x : Queue) (rq : Nat) (items : List Nat) : Msg :=
  ⟨.braid, q, items ++ [rq, s.dqn q] ++ s.braidWay q (s.pathTx q x.lastPath) 0, []⟩

/-- A packet has been dropped and counted; nothing else has changed (R80, R82, R85). -/
def Dropped (s : State) : State := { s with tp := { s.tp with discards := s.tp.discards + 1 } }

/-- Queue `q` is `x` now, the other queues are as they were, and nothing else changes. -/
def QueueNow (s t : State) (q : Nat) (x : Queue) : Prop :=
  t = { s with queues := t.queues } ∧ t.queue? q = some x ∧ ∀ k, k ≠ q → t.queue? k = s.queue? k

/-- A message of queue `q` has been taken on: its record, and its one new part `p` (R84); memory is as it was and nothing is sent. -/
def MsgTaken (s t : State) (q msn kind len got : Nat) (g : Tgt) (p : Part) : Prop :=
  (∃ m, t.msg? q msn = some m ∧ m.kind = kind ∧ m.len = len ∧ m.got = got ∧ m.code = 0 ∧ m.tgt = some g ∧ m.parts = [s.nextPart] ∧ m.closed = false) ∧
    t.parts.at? s.nextPart = some { p with born := s.time, grp := s.nextPart } ∧ t.nextPart = s.nextPart + 1 ∧ t.dram = s.dram ∧ t.out = s.out

/-- A command of queue `q` has been recorded with its capsule and data; it has not started (R116). -/
def CmdTaken (t : State) (q msn tag : Nat) (qw : List U64) (data : List Byte) : Prop :=
  ∃ c, t.cmd? q tag = some c ∧ c.msn = msn ∧ c.qw = qw ∧ c.data = data ∧ c.whole = true ∧ c.started = false ∧ c.parts = []

/-- The next packet in order of queue `x`, of a message not begun: its PSN is the expected one, and no SACK is due. -/
def InOrder (s : State) (q : Nat) (x : Queue) (h : BraidHdr) : Prop :=
  h.psn = x.rxNext ∧ x.rxSeen = [] ∧ h.ackReq = false ∧ x.sinceSack < 63 ∧ s.msg? q h.msn = none ∧ s.rnrHolds q h.msn = false ∧
    ∀ m ∈ x.msgs, m.closed = true

/-- A frame with header `l` is the next one on virtual channel `vc` of a twin link that is up (R52). -/
def FrameDue (s : State) (l : LinkHdr) (vc : Nat) : Prop :=
  s.twinOn = true ∧ s.twin.linkDown = false ∧ ∀ q, s.twin.seqIn.getD vc none = some q → q = l.seq

/-- A frame of `n` units with header `l` has been heard on virtual channel `vc` of the twin link (R51 to R53): the units are owed as credit, the
next SEQ is awaited, and the mirror channel's frames that it acknowledges need no replay. -/
def HeardIn (s : State) (l : LinkHdr) (vc n : Nat) : State :=
  { s with twin := { s.twin with
      owed := s.twin.owed.set vc (s.twin.owed.getD vc 0 + n), seqIn := s.twin.seqIn.set vc (some ((l.seq + 1) % 2 ^ 32))
      replay := s.twin.replay.filter fun e => !(e.1 == 2 && seqLe e.2.1 l.ackSeq) } }

/-- The twin link can send a frame of `n` units on `vc` now (R53). -/
def CanSend (s : State) (vc n : Nat) : Prop := s.twin.linkDown = false ∧ n ≤ s.twin.credits.getD vc 0 ∧ ∀ h ∈ s.twin.held, h.1 ≠ vc

/-- The first channel that credits are owed on, and how many of them one frame returns (R53). -/
def creditOf (s : State) : Nat × Nat :=
  let v := ((List.range 4).find? fun v => s.twin.owed.getD v 0 != 0).getD 0
  (v, min 4095 (s.twin.owed.getD v 0))

/-- A frame of the twin link: TYPE, its SEQ, CR_VC and CR_COUNT, ACK_SEQ, and its fields (R51). -/
def twinMsg (s : State) (vc type : Nat) (items : List Nat) (data : List Byte := []) : Msg :=
  ⟨.twin, s.index ^^^ 1, type :: s.twin.seqOut.getD vc 0 :: (creditOf s).1 :: (creditOf s).2 :: s.ackSeqOf type :: items, data⟩

/-- A frame of `n` units has been sent on `vc` (R52, R53): credits spent and credits returned, the next SEQ, and its copy in the replay buffer;
nothing else changes. -/
def SentTwin (s t : State) (vc n type : Nat) (items : List Nat) (data : List Byte := []) : Prop :=
  let m := twinMsg s vc type items data
  t = { s with out := s.out ++ [m], twin := { s.twin with
      seqOut := s.twin.seqOut.set vc ((s.twin.seqOut.getD vc 0 + 1) % 2 ^ 32), credits := s.twin.credits.set vc (s.twin.credits.getD vc 0 - n)
      owed := s.twin.owed.set (creditOf s).1 (s.twin.owed.getD (creditOf s).1 0 - (creditOf s).2)
      replay := s.twin.replay ++ [(vc, s.twin.seqOut.getD vc 0, n, m)] } }

/-- The bytes of DRAM from `a` on are replaced; every other byte reads as before. -/
def Stores (s t : State) (a : Nat) (bs : List Byte) : Prop :=
  ∀ k, t.dram.mem.get 0 k = if a ≤ k ∧ k < a + bs.length then bs.getD (k - a) 0 else s.dram.mem.get 0 k

/-- Nothing waits in the pair: no part, no write that is not settled, nothing to reconcile. -/
def Quiet (s : State) : Prop := s.parts = [] ∧ s.dram.unsettled = [] ∧ s.twin.reconcile = []

/-- The pair stands: the twin state, the epoch, the grant record, and GRANTED as the record shows it (R57, R74); memory is as it was. -/
def PairNow (s t : State) (st epoch : Nat) (grant : Option (Nat × Nat)) : Prop :=
  t.tstate = st ∧ t.epoch = epoch ∧ t.twin.grant = grant ∧ t.flag F.TWIN_STATUS_GRANTED = decide (grant = some (epoch, s.side)) ∧
    MemorySame s t ∧ t.queues = s.queues

/-- A counter field with `n` more (R5). -/
def counted (x : Fld) (s : State) (r : Nat := 0) (n : Nat := 1) : Nat := (x.up s r n).2.2.2

/-- A save has begun (R340 steps 1 to 5): the plan runs, nothing under way is left, and no memory has changed. -/
def SaveBegun (s t : State) (trigger mode : Nat) : Prop :=
  t.flash.run = some ⟨trigger, mode, s.time, s.calNow, 0, false, false⟩ ∧ t.f F.SV_STATUS_SAVE_STATE = 3 ∧ t.f F.MGW_STATUS_PHASE = 3 ∧
    t.f F.SV_STATUS_LAST_TRIGGER = trigger ∧ t.parts = [] ∧ t.queues = [] ∧ t.fiddles = [] ∧ t.eng.threads = [] ∧ t.eng.waiting = [] ∧ MemorySame s t ∧
    t.twin.noticeSent = true

/-- Rail `n` is used in this sequencing state and has not been enabled (R363). -/
def RailDue (s : State) (n : Nat) : Prop := s.railUsed n = true ∧ tStateOn s.table n = s.seqState ∧ s.rstate n = 0

/-- The other rails are as they were. -/
def OtherRails (s t : State) (rail : Nat) : Prop := ∀ n < 32, n ≠ rail → t.rstate n = s.rstate n ∧ t.railOn n = s.railOn n

/-- Domain `k` is gated (R379): neither powered nor clocked. -/
def GatedNow (s t : State) (k : Nat) : Prop :=
  Sets { s with supply := { s.supply with gated := k :: s.supply.gated.filter (· != k) } } t
    [F.CLK_STATUS_POWERED.is (withBit (s.f F.CLK_STATUS_POWERED) k false), F.CLK_STATUS_CLOCKED.is (withBit (s.f F.CLK_STATUS_CLOCKED) k false)]

/-- Device `d` has left the stack, as this device shows it (R404, R408). -/
def Left (t : State) (d cause : Nat) : Prop := t.isMember d = false ∧ t.f F.STK_EXCL_LAST_EXCL = d ∧ t.f F.STK_EXCL_LAST_CAUSE = cause

/-- This device rules the stack: it is its master and a member (R396). -/
def Rules (s : State) : Prop := s.isMaster = true ∧ s.memberState = 2
end Sys2Proof.Machine
end

