-- ==== Sys2Proof/Certificates/Slice0/Obligations.lean ====
section
/-! DEFINITION. The statements for the provers. -/

open Sys2Proof Sys2Proof.Machine

/-! Integer and control-flow instructions (R190 to R194). -/

/--  R190: every integer instruction, in every form, writes its result to g[d] (a write to g0 is discarded), goes on to the next instruction at its
charge (R149), and changes nothing else. R194: VMOV, VEXT and VINS. VEXT and VINS take 2^w bytes at a multiple of 2^w. The frame: no other register,
no other thread, nothing outside the engines. -/
def Obligations.RegisterResults : Prop :=
  (∀ (t : Nat) (d a b c : GReg) (i : Imm) (x : Bool),
  RegResult (.add t d a b) t (iword 0x01 d.toNat a.toNat b.toNat 0 0 0) 1 d (fun h => h.rg a + h.rg b) ∧
  RegResult (.sub t d a b) t (iword 0x02 d.toNat a.toNat b.toNat 0 0 0) 1 d (fun h => h.rg a - h.rg b) ∧
  RegResult (.mul t d a b) t (iword 0x03 d.toNat a.toNat b.toNat 0 0 0) 2 d
    (fun h => BitVec.ofNat 64 ((h.rg a).toNat * (h.rg b).toNat)) ∧
  RegResult (.mulh t d a b true) t (iword 0x04 d.toNat a.toNat b.toNat 0 1 0) 2 d
    (fun h => BitVec.ofNat 64 ((h.rg a).toNat * (h.rg b).toNat / 2 ^ 64)) ∧
  RegResult (.mulh t d a b false) t (iword 0x04 d.toNat a.toNat b.toNat 0 0 0) 2 d
    (fun h => BitVec.ofInt 64 ((h.rg a).toInt * (h.rg b).toInt / 2 ^ 64)) ∧
  RegResult (.and t d a b) t (iword 0x05 d.toNat a.toNat b.toNat 0 0 0) 1 d (fun h => h.rg a &&& h.rg b) ∧
  RegResult (.or t d a b) t (iword 0x06 d.toNat a.toNat b.toNat 0 0 0) 1 d (fun h => h.rg a ||| h.rg b) ∧
  RegResult (.xor t d a b) t (iword 0x07 d.toNat a.toNat b.toNat 0 0 0) 1 d (fun h => h.rg a ^^^ h.rg b) ∧
  RegResult (.shl t d a b) t (iword 0x08 d.toNat a.toNat b.toNat 0 0 0) 1 d (fun h => h.rg a <<< ((h.rg b &&& 63).toNat)) ∧
  RegResult (.shr t d a b) t (iword 0x09 d.toNat a.toNat b.toNat 0 0 0) 1 d (fun h => h.rg a >>> ((h.rg b &&& 63).toNat)) ∧
  RegResult (.sar t d a b) t (iword 0x0A d.toNat a.toNat b.toNat 0 0 0) 1 d
    (fun h => (h.rg a).sshiftRight ((h.rg b &&& 63).toNat)) ∧
  RegResult (.rol t d a b) t (iword 0x0B d.toNat a.toNat b.toNat 0 0 0) 1 d
    (fun h => (h.rg a).rotateLeft ((h.rg b &&& 63).toNat)) ∧
  RegResult (.min t d a b) t (iword 0x0C d.toNat a.toNat b.toNat 0 0 0) 1 d
    (fun h => if (h.rg a).toInt ≤ (h.rg b).toInt then h.rg a else h.rg b) ∧
  RegResult (.max t d a b) t (iword 0x0D d.toNat a.toNat b.toNat 0 0 0) 1 d
    (fun h => if (h.rg a).toInt ≤ (h.rg b).toInt then h.rg b else h.rg a) ∧
  RegResult (.minu t d a b) t (iword 0x0E d.toNat a.toNat b.toNat 0 0 0) 1 d
    (fun h => if (h.rg a).toNat ≤ (h.rg b).toNat then h.rg a else h.rg b) ∧
  RegResult (.maxu t d a b) t (iword 0x0F d.toNat a.toNat b.toNat 0 0 0) 1 d
    (fun h => if (h.rg a).toNat ≤ (h.rg b).toNat then h.rg b else h.rg a) ∧
  RegResult (.addi t d a i) t (iword 0x10 d.toNat a.toNat 0 0 0 i) 1 d (fun h => h.rg a + i.signExtend 64) ∧
  RegResult (.andi t d a i) t (iword 0x11 d.toNat a.toNat 0 0 0 i) 1 d (fun h => h.rg a &&& i.signExtend 64) ∧
  RegResult (.ori t d a i) t (iword 0x12 d.toNat a.toNat 0 0 0 i) 1 d (fun h => h.rg a ||| i.signExtend 64) ∧
  RegResult (.xori t d a i) t (iword 0x13 d.toNat a.toNat 0 0 0 i) 1 d (fun h => h.rg a ^^^ i.signExtend 64) ∧
  (i.toNat ≤ 63 → RegResult (.shli t d a i) t (iword 0x14 d.toNat a.toNat 0 0 0 i) 1 d (fun h => h.rg a <<< i.toNat)) ∧
  (i.toNat ≤ 63 → RegResult (.shri t d a i x) t (iword 0x15 d.toNat a.toNat 0 0 (if x then 1 else 0) i) 1 d
    (fun h => if x then (h.rg a).sshiftRight i.toNat else h.rg a >>> i.toNat)) ∧
  RegResult (.lui t d a i) t (iword 0x16 d.toNat a.toNat 0 0 0 i) 1 d
    (fun h => (i.setWidth 64 <<< 32) ||| (h.rg a &&& 0xFFFFFFFF)) ∧
  RegResult (.movi t d i) t (iword 0x17 d.toNat 0 0 0 0 i) 1 d (fun _ => i.signExtend 64) ∧
  RegResult (.popc t d a) t (iword 0x18 d.toNat a.toNat 0 0 0 0) 1 d
    (fun h => BitVec.ofNat 64 ((List.range 64).countP fun k => (h.rg a).getLsbD k)) ∧
  RegResult (.clz t d a) t (iword 0x19 d.toNat a.toNat 0 0 0 0) 1 d
    (fun h => if h.rg a = 0 then 64 else BitVec.ofNat 64 (63 - (h.rg a).toNat.log2)) ∧
  RegResult (.ctz t d a) t (iword 0x1A d.toNat a.toNat 0 0 0 0) 1 d
    (fun h => BitVec.ofNat 64 (((List.range 64).takeWhile fun k => !(h.rg a).getLsbD k).length)) ∧
  RegResult (.bswap t d a) t (iword 0x1B d.toNat a.toNat 0 0 0 0) 1 d
    (fun h => (h.rg a).extractLsb' 0 8 ++ (h.rg a).extractLsb' 8 8 ++ (h.rg a).extractLsb' 16 8 ++ (h.rg a).extractLsb' 24 8 ++
      (h.rg a).extractLsb' 32 8 ++ (h.rg a).extractLsb' 40 8 ++ (h.rg a).extractLsb' 48 8 ++ (h.rg a).extractLsb' 56 8) ∧
  RegResult (.sel t d a b c) t (iword 0x1C d.toNat a.toNat b.toNat 0 c.toNat 0) 1 d
    (fun h => if h.rg c = 0 then h.rg b else h.rg a) ∧
  RegResult (.cmpeq t d a b x i) t (iword 0x1D d.toNat a.toNat b.toNat 0 (if x then 1 else 0) i) 1 d
    (fun h => if h.rg a = (if x then i.signExtend 64 else h.rg b) then 1 else 0) ∧
  RegResult (.cmplt t d a b x i) t (iword 0x1E d.toNat a.toNat b.toNat 0 (if x then 1 else 0) i) 1 d
    (fun h => if (h.rg a).toInt < (if x then i.signExtend 64 else h.rg b : U64).toInt then 1 else 0) ∧
  RegResult (.cmpltu t d a b x i) t (iword 0x1F d.toNat a.toNat b.toNat 0 (if x then 1 else 0) i) 1 d
    (fun h => if (h.rg a).toNat < (if x then i.signExtend 64 else h.rg b : U64).toNat then 1 else 0)) ∧
  (∀ (t : Nat) (d a : VReg) (g b : GReg) (i : Imm) (w : BitVec 2),
  (∀ s h, Runs s t (iword 0x3A d.toNat a.toNat 0 0 0 0) h → ∃ s' h', exec (.vmov t d a) s = .next s' ∧ OnlyThread s s' t h' ∧
    h' = { h with v := h'.v, pc := h.pc + 1, charged := h.charged + 1 } ∧ ∀ r, h'.rv r = if r = d then h.rv a else h.rv r) ∧
  (i.toNat < 64 → i.toNat % 2 ^ w.toNat = 0 →
    RegResult (.vext t g a i w) t (iword 0x3B g.toNat a.toNat 0 0 w.toNat i) 1 g
      (fun h => ((h.rv a).extractLsb' (8 * i.toNat) (8 * 2 ^ w.toNat)).setWidth 64)) ∧
  (i.toNat < 64 → i.toNat % 2 ^ w.toNat = 0 → ∀ s h, Runs s t (iword 0x3C d.toNat 0 b.toNat 0 w.toNat i) h →
    ∃ s' h', exec (.vins t d b i w) s = .next s' ∧ OnlyThread s s' t h' ∧
      h' = { h with v := h'.v, pc := h.pc + 1, charged := h.charged + 1 } ∧ (∀ r, r ≠ d → h'.rv r = h.rv r) ∧
      ∀ k < 64, (h'.rv d).extractLsb' (8 * k) 8 =
        if i.toNat ≤ k ∧ k < i.toNat + 2 ^ w.toNat then (h.rg b).extractLsb' (8 * (k - i.toNat)) 8 else (h.rv d).extractLsb' (8 * k) 8))

/--  R191, R193: the branches and JMPF; YIELD goes on to the next instruction. Only the pc, the charge and the loops left change. R191, R177: EXIT ends
the program with g[a], FAULT with PROGRAM_FAULT, DETAIL 0x80 + code, and g[a]. R211: a word that program memory does not give without an uncorrectable
error ends it with the device fault 0x01 in place of its instruction, as shown for these and YIELD. -/
def Obligations.ProgramFlow : Prop :=
  (∀ (t : Nat) (a b : GReg) (i : Imm),
  BranchOn (.beq t a b i) t (iword 0x20 0 a.toNat b.toNat 0 0 i) i (fun h => h.rg a = h.rg b) ∧
  BranchOn (.bne t a b i) t (iword 0x21 0 a.toNat b.toNat 0 0 i) i (fun h => h.rg a ≠ h.rg b) ∧
  BranchOn (.blt t a b i) t (iword 0x22 0 a.toNat b.toNat 0 0 i) i (fun h => (h.rg a).toInt < (h.rg b).toInt) ∧
  BranchOn (.bge t a b i) t (iword 0x23 0 a.toNat b.toNat 0 0 i) i (fun h => (h.rg b).toInt ≤ (h.rg a).toInt) ∧
  BranchOn (.bltu t a b i) t (iword 0x24 0 a.toNat b.toNat 0 0 i) i (fun h => (h.rg a).toNat < (h.rg b).toNat) ∧
  BranchOn (.bgeu t a b i) t (iword 0x25 0 a.toNat b.toNat 0 0 i) i (fun h => (h.rg b).toNat ≤ (h.rg a).toNat) ∧
  BranchOn (.jmpf t i) t (iword 0x26 0 0 0 0 0 i) i (fun _ => True) ∧
  (∀ s h, Runs s t (iword 0x2B 0 0 0 0 0 0) h → ∃ s', exec (.yield t) s = .next s' ∧
    OnlyThread s s' t { h with pc := h.pc + 1, charged := h.charged + 1 })) ∧
  (∀ (t : Nat) (a : GReg) (i : Imm) (s : State) (h : Thread),
  (RunsWord s t (iword 0x29 0 a.toNat 0 0 0 0) h true → FaultsWith (.exit t a) s t h 0x01) ∧
  (RunsWord s t (iword 0x2A 0 a.toNat 0 0 0 i) h true → FaultsWith (.fault t a i) s t h 0x01) ∧
  (RunsWord s t (iword 0x2B 0 0 0 0 0 0) h true → FaultsWith (.yield t) s t h 0x01) ∧
  (Runs s t (iword 0x29 0 a.toNat 0 0 0 0) h → ∃ s', exec (.exit t a) s = .next s' ∧
    OnlyThread s s' t { h with charged := h.charged + 1, ended := some ⟨0, 0, h.rg a⟩ }) ∧
  (Runs s t (iword 0x2A 0 a.toNat 0 0 0 i) h → i.toNat ≤ 127 → ∃ s', exec (.fault t a i) s = .next s' ∧
    OnlyThread s s' t { h with charged := h.charged + 1, ended := some ⟨Code.programFault, 0x80 + i.toNat, h.rg a⟩ }))

/--  R192: LOOP opens a counted loop, or skips its body when the count is 0; ENDL closes one pass. `endlOf` pairs them. The status word's LOOPD, bits
60:58 of the PSTAT result, is the depth of the loop stack. -/
def Obligations.LoopStack : Prop :=
  (∀ (t : Nat) (a : GReg) (i : Imm) (s : State) (h : Thread),
  (Runs s t (iword 0x27 0 a.toNat 0 0 0 i) h →
    let count := if a = 0 then i.toNat else min (h.rg a).toNat i.toNat
    ∃ s', exec (.loop t a i) s = .next s' ∧ OnlyThread s s' t
      (if count = 0 then { h with pc := endlOf h.img h.pc + 1, charged := h.charged + 1 }
       else { h with pc := h.pc + 1, charged := h.charged + 1, loops := (count, h.pc + 1, endlOf h.img h.pc) :: h.loops })) ∧
  (∀ c start e rest, Runs s t (iword 0x28 0 0 0 0 0 0) h → h.loops = (c, start, e) :: rest → 1 ≤ c →
    ∃ s', exec (.endl t) s = .next s' ∧ OnlyThread s s' t
      (if c = 1 then { h with pc := h.pc + 1, charged := h.charged + 1, loops := rest }
       else { h with pc := start, charged := h.charged + 1, loops := (c - 1, start, e) :: rest }))) ∧
  (∀ (t : Nat) (d : GReg) (s : State) (h : Thread), Runs s t (iword 0x64 d.toNat 0 0 0 0 0) h → h.loops.length ≤ 4 → d ≠ 0 →
  ∃ s' h', exec (.pstat t d) s = .next s' ∧ OnlyThread s s' t h' ∧ ((h'.rg d).extractLsb' 58 3).toNat = h.loops.length)

/-! Memory instructions (R156 to R166, R188, R194 to R198). -/

/--  R188, R189: what `ea` answers, and the order of its faults: 0x04 no such handle, 0x03 a right is missing, 0x02 outside the handle, 0x07 misaligned.
R188, R189, R194: a load or a store whose effective address is refused ends the program with the fault that `ea` gives, and has no other effect. -/
def Obligations.Addressing : Prop :=
  (∀ (s : State) (x : Handle) (off : U64) (n align : Nat) (right : State.Right), 0 < align →
  (s.handleSpan x = none → s.ea x off n right align = .inr 0x04) ∧
  ∀ len rd wr at_, s.handleSpan x = some (len, rd, wr, at_) →
    let may := match right with
      | .read => rd
      | .write => wr
      | .atomic => at_
    (may = false → s.ea x off n right align = .inr 0x03) ∧
    (may = true → (off.toInt < 0 ∨ len < off.toNat + n) → s.ea x off n right align = .inr 0x02) ∧
    (may = true → 0 ≤ off.toInt → off.toNat + n ≤ len → off.toNat % align ≠ 0 → s.ea x off n right align = .inr 0x07) ∧
    (may = true → 0 ≤ off.toInt → off.toNat + n ≤ len → off.toNat % align = 0 → s.ea x off n right align = .inl off.toNat)) ∧
  (∀ (s : State) (t : Nat) (h : Thread) (d : GReg) (v : VReg) (hr : HReg) (a b : GReg) (i : Imm) (x : Bool)
    (k : BitVec 3) (code : Nat),
  (∀ op n c, (op, n, c) ∈ [(0x30, 1, Instr.ld8 t d hr a i x), (0x31, 2, .ld16 t d hr a i x), (0x32, 4, .ld32 t d hr a i x),
      (0x33, 8, .ld64 t d hr a i x)] →
    Runs s t (iword op d.toNat a.toNat 0 hr.toNat (if x then 1 else 0) i) h →
    s.ea (h.rh hr) (offsetOf h a i) n .read n = .inr code → FaultsWith c s t h code) ∧
  (∀ op n c, (op, n, c) ∈ [(0x34, 1, Instr.st8 t hr a i b), (0x35, 2, .st16 t hr a i b), (0x36, 4, .st32 t hr a i b),
      (0x37, 8, .st64 t hr a i b)] →
    Runs s t (iword op 0 a.toNat b.toNat hr.toNat 0 i) h →
    s.ea (h.rh hr) (offsetOf h a i) n .write n = .inr code → FaultsWith c s t h code) ∧
  (Runs s t (iword 0x38 v.toNat a.toNat 0 hr.toNat 0 i) h → s.ea (h.rh hr) (offsetOf h a i) 64 .read 64 = .inr code →
    FaultsWith (.ldl t v hr a i) s t h code) ∧
  (Runs s t (iword 0x39 0 a.toNat v.toNat hr.toNat 0 i) h → s.ea (h.rh hr) (offsetOf h a i) 64 .write 64 = .inr code →
    FaultsWith (.stl t hr a i v) s t h code) ∧
  (Runs s t (iword 0x3D v.toNat a.toNat 0 hr.toNat k.toNat i) h →
    s.ea (h.rh hr) (offsetOf h a i) (64 * (k.toNat + 1)) .read 64 = .inr code → FaultsWith (.ldb t v hr a i k) s t h code) ∧
  (Runs s t (iword 0x3E 0 a.toNat v.toNat hr.toNat k.toNat i) h →
    s.ea (h.rh hr) (offsetOf h a i) (64 * (k.toNat + 1)) .write 64 = .inr code → FaultsWith (.stb t hr a i v k) s t h code))

/--  R194, R201: loads through a buffer handle with the READ right: LD.n writes the value, zero- or sign-extended, LDL and LDB the lines. Nothing else
changes. R157, R158, R194: a load through a region handle that this device serves reads the bytes of the region as the fabric sees them; it changes
the thread, the line caches and their counters, and nothing else: no byte of memory. A dirty line that it displaces is written back, which ends its
poison (R242). The model's choices that it rests on: log entries 26 and 40. -/
def Obligations.LoadInstructions : Prop :=
  (∀ (s : State) (t : Nat) (h : Thread) (d : GReg) (v : VReg) (hr : HReg) (a : GReg) (i : Imm) (x : Bool)
    (k : BitVec 3) (b : Nat) (y : Buf) (wr : Bool),
  (∀ op n c, (op, n, c) ∈ [(0x30, 1, Instr.ld8 t d hr a i x), (0x31, 2, .ld16 t d hr a i x), (0x32, 4, .ld32 t d hr a i x),
      (0x33, 8, .ld64 t d hr a i x)] →
    Runs s t (iword op d.toNat a.toNat 0 hr.toNat (if x then 1 else 0) i) h → InBuffer s h hr (offsetOf h a i) n n b y true wr →
    ∃ s' h', exec c s = .next s' ∧ OnlyThread s s' t h' ∧ Next h h' 1 ∧
      Writes h h' d (let u := BitVec.ofNat (8 * n) (bufValue y (offsetOf h a i).toNat n)
                     if x then u.signExtend 64 else u.setWidth 64)) ∧
  (∀ c w j, (c, w, j) ∈ [(Instr.ldl t v hr a i, iword 0x38 v.toNat a.toNat 0 hr.toNat 0 i, 1),
      (.ldb t v hr a i k, iword 0x3D v.toNat a.toNat 0 hr.toNat k.toNat i, k.toNat + 1)] →
    v.toNat + j ≤ 8 → Runs s t w h → InBuffer s h hr (offsetOf h a i) (64 * j) 64 b y true wr →
    ∃ s' h', exec c s = .next s' ∧ OnlyThread s s' t h' ∧ h' = { h with v := h'.v, pc := h.pc + 1, charged := h.charged + 1 } ∧
      ∀ r : VReg, h'.rv r = if v.toNat ≤ r.toNat ∧ r.toNat < v.toNat + j
        then BitVec.ofNat 512 (bufValue y ((offsetOf h a i).toNat + 64 * (r.toNat - v.toNat)) 64) else h.rv r)) ∧
  (∀ (s : State) (t : Nat) (h : Thread) (d : GReg) (hr : HReg) (a : GReg) (i : Imm) (x : Bool)
    (r o : Nat) (wr : Bool),
  ∀ op n c, (op, n, c) ∈ [(0x30, 1, Instr.ld8 t d hr a i x), (0x31, 2, .ld16 t d hr a i x), (0x32, 4, .ld32 t d hr a i x),
      (0x33, 8, .ld64 t d hr a i x)] →
    Runs s t (iword op d.toNat a.toNat 0 hr.toNat (if x then 1 else 0) i) h → InRegion h hr (offsetOf h a i) n n r o true wr →
    s.readDev r o = s.index → s.regionClass r ≠ Cls.stream → ServedHere s t r o n false →
    ∃ s' h', exec c s = .next s' ∧
      s' = { s with ctl := s'.ctl, caches := s'.caches, dram := { s.dram with poison := s'.dram.poison }
                    eng := { s.eng with threads := s'.eng.threads } } ∧
      s'.thread? t = some h' ∧ (∀ u, u ≠ t → s'.thread? u = s.thread? u) ∧ Next h h' 1 ∧
      Writes h h' d (let u := BitVec.ofNat (8 * n) (ofBytes (s.readDram (s.place r o).2 n))
                     if x then u.signExtend 64 else u.setWidth 64))

/--  R194, R201: stores through a buffer handle with the WRITE right change exactly the bytes of the store. R31, R159, R194: a store through a region
handle to a VOLATILE region that this device leads is applied at once: exactly its bytes of memory change. -/
def Obligations.StoreInstructions : Prop :=
  (∀ (s : State) (t : Nat) (h : Thread) (v : VReg) (hr : HReg) (a b : GReg) (i : Imm)
    (k : BitVec 3) (n : Nat) (y : Buf) (rd : Bool),
  (∀ op m c, (op, m, c) ∈ [(0x34, 1, Instr.st8 t hr a i b), (0x35, 2, .st16 t hr a i b), (0x36, 4, .st32 t hr a i b),
      (0x37, 8, .st64 t hr a i b)] →
    Runs s t (iword op 0 a.toNat b.toNat hr.toNat 0 i) h → InBuffer s h hr (offsetOf h a i) m m n y rd true →
    ∃ s', exec c s = .next s' ∧ StoredInBuffer s s' t h 1 n y (offsetOf h a i).toNat (toBytes m (h.rg b).toNat)) ∧
  (∀ c w j, (c, w, j) ∈ [(Instr.stl t hr a i v, iword 0x39 0 a.toNat v.toNat hr.toNat 0 i, 1),
      (.stb t hr a i v k, iword 0x3E 0 a.toNat v.toNat hr.toNat k.toNat i, k.toNat + 1)] →
    v.toNat + j ≤ 8 → Runs s t w h → InBuffer s h hr (offsetOf h a i) (64 * j) 64 n y rd true →
    ∃ s', exec c s = .next s' ∧ StoredInBuffer s s' t h 1 n y (offsetOf h a i).toNat
      ((List.range j).flatMap fun m => toBytes 64 (h.rv (BitVec.ofNat 3 (v.toNat + m))).toNat))) ∧
  (∀ (s : State) (t : Nat) (h : Thread) (hr : HReg) (a b : GReg) (i : Imm) (r o : Nat) (rd : Bool),
  ∀ op n c, (op, n, c) ∈ [(0x34, 1, Instr.st8 t hr a i b), (0x35, 2, .st16 t hr a i b), (0x36, 4, .st32 t hr a i b),
      (0x37, 8, .st64 t hr a i b)] →
    Runs s t (iword op 0 a.toNat b.toNat hr.toNat 0 i) h → InRegion h hr (offsetOf h a i) n n r o rd true →
    s.leadDev r o = s.index → s.isVolatile r = true → ServedHere s t r o n true → s.parts.at? s.nextPart = none →
    ∃ s' h', exec c s = .next s' ∧ s'.thread? t = some h' ∧ (∀ u, u ≠ t → s'.thread? u = s.thread? u) ∧ Next h h' 1 ∧
      (∀ g, h'.rg g = h.rg g) ∧ s'.partsOf t = [] ∧ s'.queues = s.queues ∧ s'.out = s.out ∧
      ∀ k, s'.dram.mem.get 0 k = if (s.place r o).2 ≤ k ∧ k < (s.place r o).2 + n
        then (toBytes n (h.rg b).toNat).getD (k - (s.place r o).2) 0 else s.dram.mem.get 0 k)

/--  R196: LDL.X and STL.X move a line between a register and a scratch entry, in control mode; an entry that is not locked as scratch faults with 0x02,
and invocation mode with 0x09. R243: a read corrects single-bit errors; a double-bit error poisons the entry, and a read of a poisoned entry faults
with 0x06 until it is written. R203, R245: CLOCK and CUNLK, which write 0, 1 or 2. A scratch entry is locked with 64 bytes of 0, and released empty; a
pinned lock of a line of a region handle stands in an entry of the line's cluster, and its release leaves the line there. 1 where the cluster holds 32
locks, or the lock to release is none; 2 where it is locked already. -/
def Obligations.ScratchAndLocks : Prop :=
  (∀ (s : State) (t : Nat) (h : Thread) (v : VReg) (i : Imm),
  (Runs s t (iword 0x38 v.toNat 0 0 0 1 i) h →
    (h.ctl = false → FaultsWith (.ldlX t v i) s t h 0x09) ∧
    (h.ctl = true → s.scratch? i = none → FaultsWith (.ldlX t v i) s t h 0x02) ∧
    (∀ e, h.ctl = true → s.scratch? i = some e → (e.poisoned = true ∨ e.ecc.any (·.2) = true) →
      ∃ s', exec (.ldlX t v i) s = .next s' ∧ ThreadNow s s' t { h with ended := some ⟨Code.programFault, 0x06, 0⟩ } ∧ s'.dram = s.dram ∧
        ∃ e', s'.scratch? i = some e' ∧ e'.poisoned = true ∧ e'.scratch = e.scratch) ∧
    (∀ e, h.ctl = true → s.scratch? i = some e → e.poisoned = false → e.ecc.any (·.2) = false → ∃ s' h', exec (.ldlX t v i) s = .next s' ∧
      s' = { s with ctl := s'.ctl, reach := s'.reach, caches := s'.caches, eng := { s.eng with threads := s'.eng.threads } } ∧ ThreadNow s s' t h' ∧
      s'.scratch? i = some { e with ecc := [] } ∧ h' = { h with v := h'.v, pc := h.pc + 1, charged := h.charged + 1 } ∧
      ∀ r, h'.rv r = if r = v then BitVec.ofNat 512 (ofBytes e.scratch) else h.rv r)) ∧
  (Runs s t (iword 0x39 0 0 v.toNat 0 1 i) h →
    (h.ctl = false → FaultsWith (.stlX t v i) s t h 0x09) ∧
    (h.ctl = true → s.scratch? i = none → FaultsWith (.stlX t v i) s t h 0x02) ∧
    (∀ e, h.ctl = true → s.scratch? i = some e → ∃ s', exec (.stlX t v i) s = .next s' ∧
      s' = { s with caches := s'.caches, eng := { s.eng with threads := s'.eng.threads } } ∧
      s'.thread? t = some { h with pc := h.pc + 1, charged := h.charged + 1 } ∧ (∀ u, u ≠ t → s'.thread? u = s.thread? u) ∧
      s'.scratch? i = some { e with scratch := toBytes 64 (h.rv v).toNat, poisoned := false, ecc := [] } ∧ ∀ c, c ≠ i.toNat / 32 % 8 → s'.cache c = s.cache c))) ∧
  (∀ (s : State) (t : Nat) (h : Thread) (d : GReg) (hr : HReg) (a : GReg) (i : Imm), h.ctl = true →
  (i.toNat < 256 →
    let c := i.toNat / 32
    let e := i.toNat % 32
    (Runs s t (iword 0x7B d.toNat a.toNat 0 hr.toNat 1 i) h →
      ∃ s' h', exec (.clock t d hr a i true) s = .next s' ∧ ThreadNow s s' t h' ∧ Next h h' 4 ∧ MemorySame s s' ∧
        (32 ≤ (s.cache c).locked → s'.caches = s.caches ∧ Writes h h' d 1) ∧
        ((s.cache c).locked < 32 → ((s.cache c).entry e).locked = true → Writes h h' d 2 ∧ s'.caches = s.caches) ∧
        ((s.cache c).locked < 32 → ((s.cache c).entry e).locked = false → Writes h h' d 0 ∧
          ((s'.cache c).entry e).locked = true ∧ ((s'.cache c).entry e).isScratch = true ∧
          ((s'.cache c).entry e).scratch = List.replicate 64 0)) ∧
    (Runs s t (iword 0x7C d.toNat a.toNat 0 hr.toNat 1 i) h →
      ∃ s' h', exec (.cunlk t d hr a i true) s = .next s' ∧ ThreadNow s s' t h' ∧ Next h h' 4 ∧ s'.dram = s.dram ∧
        (((s.cache c).entry e).locked = true → ((s.cache c).entry e).isScratch = true → Writes h h' d 0 ∧
          ((s'.cache c).entry e).locked = false) ∧
        ((((s.cache c).entry e).locked = false ∨ ((s.cache c).entry e).isScratch = false) → Writes h h' d 1 ∧ s'.caches = s.caches))) ∧
  (∀ dm r base len rd wr at_ o, h.rh hr = .region dm r base len rd wr at_ → s.ea (h.rh hr) (offsetOf h a i) 64 .read 64 = .inl o →
    let l := (s.place r (s.regByte dm r (base + o))).2 / 64
    let c := clusterOf l
    (Runs s t (iword 0x7B d.toNat a.toNat 0 hr.toNat 0 i) h →
      ∃ s' h', exec (.clock t d hr a i false) s = .next s' ∧ ThreadNow s s' t h' ∧ Next h h' 4 ∧
        (((s.cache c).slotOf l).any (fun j => ((s.cache c).entry j).locked) = true → Writes h h' d 2 ∧ s'.caches = s.caches) ∧
        (((s.cache c).slotOf l).any (fun j => ((s.cache c).entry j).locked) = false →
          (32 ≤ (s.cache c).locked → Writes h h' d 1 ∧ s'.caches = s.caches) ∧
          ((s.cache c).locked < 32 → Writes h h' d 0 ∧ MemorySame s s' ∧ ∃ j, ((s'.cache c).entry j).line = some l ∧
            ((s'.cache c).entry j).locked = true ∧ ((s'.cache c).entry j).isScratch = false))) ∧
    (Runs s t (iword 0x7C d.toNat a.toNat 0 hr.toNat 0 i) h →
      ∃ s' h', exec (.cunlk t d hr a i false) s = .next s' ∧ ThreadNow s s' t h' ∧ Next h h' 4 ∧ s'.dram = s.dram ∧
        (∀ j, (s.cache c).slotOf l = some j → ((s.cache c).entry j).locked = true → Writes h h' d 0 ∧
          (s'.cache c).entry j = { (s.cache c).entry j with locked := false }) ∧
        ((∀ j, (s.cache c).slotOf l = some j → ((s.cache c).entry j).locked = false) → Writes h h' d 1 ∧ s'.caches = s.caches))))

/--  R195: MCOPY, MFILL and MCMP over min(g[d], imm32) bytes whose ranges lie in buffers, each with its right: the bytes copied or filled, the first
difference, and what g[d] then holds. Answers of reads that the thread still held go. -/
def Obligations.BulkInBuffers : Prop := ∀ (s : State) (t : Nat) (h : Thread) (d : GReg) (hr hs : HReg) (a b : GReg) (i : Imm)
    (m n : Nat) (y z : Buf) (p q : Bool), 1 ≤ i.toNat → i.toNat ≤ 65536 →
  let len := min (h.rg d).toNat i.toNat
  let cost := 1 + (i.toNat + 63) / 64
  let rest := (s.forgetReads t).parts
  (Runs s t (iword 0x3F d.toNat a.toNat b.toNat hr.toNat hs.toNat i) h → InBuffer s h hr (h.rg a) len 1 m y p true →
    InBuffer s h hs (h.rg b) len 1 n z true q →
    ∃ s' h' y', exec (.mcopy t d hr a hs b i) s = .next s' ∧ s'.thread? t = some h' ∧ Next h h' cost ∧
      Writes h h' d (BitVec.ofNat 64 len) ∧ s' = { s with bufs := s'.bufs, parts := rest, eng := { s.eng with threads := s'.eng.threads } } ∧
      s'.buf? m = some y' ∧ (∀ c, c ≠ m → s'.buf? c = s.buf? c) ∧
      ∀ j, y'.data.getD j 0 = if (h.rg a).toNat ≤ j ∧ j < (h.rg a).toNat + len
        then z.data.getD ((h.rg b).toNat + (j - (h.rg a).toNat)) 0 else y.data.getD j 0) ∧
  (Runs s t (iword 0x40 d.toNat a.toNat b.toNat hr.toNat 0 i) h → InBuffer s h hr (h.rg a) len 1 m y p true →
    ∃ s' h' y', exec (.mfill t d hr a b i) s = .next s' ∧ s'.thread? t = some h' ∧ Next h h' cost ∧
      Writes h h' d (BitVec.ofNat 64 len) ∧ s' = { s with bufs := s'.bufs, parts := rest, eng := { s.eng with threads := s'.eng.threads } } ∧
      s'.buf? m = some y' ∧ (∀ c, c ≠ m → s'.buf? c = s.buf? c) ∧
      ∀ j, y'.data.getD j 0 = if (h.rg a).toNat ≤ j ∧ j < (h.rg a).toNat + len then (h.rg b).setWidth 8 else y.data.getD j 0) ∧
  (Runs s t (iword 0x41 d.toNat a.toNat b.toNat hr.toNat hs.toNat i) h → InBuffer s h hr (h.rg a) len 1 m y true p →
    InBuffer s h hs (h.rg b) len 1 n z true q →
    ∃ s' h' k, exec (.mcmp t d hr a hs b i) s = .next s' ∧ OnlyThread { s with parts := rest } s' t h' ∧ Next h h' cost ∧ Writes h h' d (BitVec.ofNat 64 k) ∧
      k ≤ len ∧ (∀ j < k, y.data.getD ((h.rg a).toNat + j) 0 = z.data.getD ((h.rg b).toNat + j) 0) ∧
      (k < len → y.data.getD ((h.rg a).toNat + k) 0 ≠ z.data.getD ((h.rg b).toNat + k) 0))

/--  R197: an atomic of the thread whose part the lead has answered writes the old value to its destination, LCAS also whether it stored; its part is
gone. The model's choices that it rests on: log entry 3. -/
def Obligations.AtomicResults : Prop := ∀ (s : State) (t : Nat) (h : Thread) (d b f : GReg) (v w : VReg) (hr : HReg) (a : GReg) (i : Imm) (x : Bool)
    (dm : Nat × Nat) (r base len pid : Nat) (rd wr : Bool) (p : Part),
  h.tx = none → h.rh hr = .region (some dm) r base len rd wr true → 0 ≤ (offsetOf h a i).toInt →
  (s.partsOf t).find? (fun e => partAtomic e.2.kind || e.2.kind == .group || e.2.kind == .seal) = some (pid, p) →
  s.parts.at? pid = some p → p.st = .done → p.code = 0 →
  let off := (offsetOf h a i).toNat
  let gone (s' : State) (h' : Thread) : Prop :=
    s' = { s with parts := s.parts.del pid, eng := { s.eng with threads := s'.eng.threads } } ∧ s'.thread? t = some h' ∧
      ∀ u, u ≠ t → s'.thread? u = s.thread? u
  (∀ op m c, (op, m, c) ∈ [(0x50, 0, Instr.cas64 t d hr a i b), (0x52, 0, .swap64 t d hr a i b), (0x53, 0, .fadd64 t d hr a i b),
      (0x54, 0, .fand t d hr a i b), (0x55, 0, .fetchOr t d hr a i b), (0x56, if x then 1 else 0, .fmax t d hr a i b x)] →
    Runs s t (iword op d.toNat a.toNat b.toNat hr.toNat m i) h → off + 8 ≤ len → off % 8 = 0 → p.rdata.length = 8 →
    ∃ s' h', exec c s = .next s' ∧ gone s' h' ∧ Next h h' 2 ∧ Writes h h' d (BitVec.ofNat 64 (ofBytes p.rdata))) ∧
  (Runs s t (iword 0x51 d.toNat a.toNat b.toNat hr.toNat 0 i) h → off + 16 ≤ len → off % 16 = 0 → p.rdata.length = 16 →
    d.toNat % 2 = 0 → ∃ s' h', exec (.cas128 t d hr a i b) s = .next s' ∧ gone s' h' ∧ Next h h' 2 ∧
      ∀ g : GReg, h'.rg g = if g = 0 then 0 else if g = d then BitVec.ofNat 64 (ofBytes (p.rdata.take 8))
        else if g = d + 1 then BitVec.ofNat 64 (ofBytes (p.rdata.drop 8)) else h.rg g) ∧
  (Runs s t (iword 0x57 v.toNat a.toNat w.toNat hr.toNat f.toNat i) h → off + 64 ≤ len → off % 64 = 0 → p.rdata.length = 64 →
    ∃ s' h', exec (.lcas t v hr a i w f) s = .next s' ∧ gone s' h' ∧
      h' = { h with g := h'.g, v := h'.v, pc := h.pc + 1, charged := h.charged + 2 } ∧
      Writes h h' f (if p.stored then 1 else 0) ∧ ∀ u, h'.rv u = if u = v then BitVec.ofNat 512 (ofBytes p.rdata) else h.rv u)

/--  R150, R160, R163, R166, R198: PFENCE goes on once no durable store of the thread is pending; TXB reserves a buffer of pool 1 and opens a group; TXA
discards it; TXE closes it with the lead's answer, or with 1 where it holds no staged store and no load; both free the buffer; PSTAT reads the status
word. The model's choices that it rests on: log entry 3. -/
def Obligations.Persistence : Prop := ∀ (s : State) (t : Nat) (h : Thread) (d : GReg),
  (Runs s t (iword 0x60 0 0 0 0 0 0) h → s.storesPending t = false →
    ∃ s', exec (.pfence t) s = .next s' ∧ OnlyThread s s' t { h with pc := h.pc + 1, charged := h.charged + 2 }) ∧
  (Runs s t (iword 0x60 0 0 0 0 0 0) h → s.storesPending t = true → exec (.pfence t) s = .next s) ∧
  (Runs s t (iword 0x61 0 0 0 0 0 0) h → s.poolRoom 1 1 = true →
    ∃ s', exec (.txb t) s = .next s' ∧ s'.f F.POOL_STATUS_ALLOCATED 1 = s.f F.POOL_STATUS_ALLOCATED 1 + 1 ∧
      s' = { s with ctl := s'.ctl, eng := { s.eng with threads := s'.eng.threads } } ∧
      s'.thread? t = some { h with tx := some ⟨none, [], []⟩, wait := none, pc := h.pc + 1, charged := h.charged + 2 }) ∧
  (∀ x, Runs s t (iword 0x62 d.toNat 0 0 0 0 0) h → h.tx = some x →
    (x.staged = [] → x.reads = [] → ∃ s' h', exec (.txe t d) s = .next s' ∧ s'.f F.POOL_STATUS_ALLOCATED 1 = s.f F.POOL_STATUS_ALLOCATED 1 - 1 ∧
      s' = { s with ctl := s'.ctl, out := s'.out, evq := s'.evq, recd := s'.recd, eng := { s.eng with threads := s'.eng.threads } } ∧
      ThreadNow s s' t h' ∧ h' = { h with g := h'.g, tx := none, pc := h.pc + 1, charged := h.charged + 2 } ∧ Writes h h' d 1) ∧
    (∀ y pid p, x.gran = some y → (x.staged ≠ [] ∨ x.reads ≠ []) →
      (s.partsOf t).find? (fun e => partAtomic e.2.kind || e.2.kind == .group || e.2.kind == .seal) = some (pid, p) → s.parts.at? pid = some p →
      p.st = .done → p.code = 0 → ∃ s' h', exec (.txe t d) s = .next s' ∧ s'.f F.POOL_STATUS_ALLOCATED 1 = s.f F.POOL_STATUS_ALLOCATED 1 - 1 ∧
        s' = { s with ctl := s'.ctl, out := s'.out, evq := s'.evq, recd := s'.recd, reach := s'.reach, parts := s.parts.del pid
                      eng := { s.eng with threads := s'.eng.threads } } ∧
        ThreadNow s s' t h' ∧ h' = { h with g := h'.g, tx := none, pc := h.pc + 1, charged := h.charged + 2 } ∧ Writes h h' d p.result)) ∧
  (∀ x, Runs s t (iword 0x63 0 0 0 0 0 0) h → h.tx = some x →
    ∃ s', exec (.txa t) s = .next s' ∧ s'.f F.POOL_STATUS_ALLOCATED 1 = s.f F.POOL_STATUS_ALLOCATED 1 - 1 ∧
      s' = { s with ctl := s'.ctl, out := s'.out, evq := s'.evq, recd := s'.recd, eng := { s.eng with threads := s'.eng.threads } } ∧
      ThreadNow s s' t { h with tx := none, pc := h.pc + 1, charged := h.charged + 2 }) ∧
  (Runs s t (iword 0x64 d.toNat 0 0 0 0 0) h → ∃ s' h', exec (.pstat t d) s = .next s' ∧ OnlyThread s s' t h' ∧ Next h h' 1 ∧
    Writes h h' d (BitVec.ofNat 64 (((if h.ctl then 1 else 0) <<< 62) ||| ((if h.tx.isSome then 1 else 0) <<< 61) |||
      (h.loops.length <<< 58) ||| ((if h.unmir then 1 else 0) <<< 57) ||| ((if s.storesPending t then 1 else 0) <<< 56) |||
      ((if h.ctl then 0 else h.dom) <<< 32) ||| (h.charged % 2 ^ 21))))

/-! Queue, buffer and cache instructions (R199 to R204). -/

/--  R199: QPOST, QCOMP and QSEND on a queue that is not READY return −0x0E and send nothing; on one that is READY they return the length sent, or 0, and
send: of a braid queue, data that fit one packet go in one to the host, a completion in its entry. QCOMP returns −0x10 where its tag is in use or the
depth is full. R200, R141: FARM arms a fiddlehead with the descriptor in the buffer and returns its number; FDISARM of a number that is neither armed
nor has unfurled returns −1, of one that has unfurled 1, and of one armed on a queue of the thread's domain 0, disarming it. Which free fiddlehead
FARM takes is a free value. The model's choices that it rests on: log entries 32, 33, 36 and 182. -/
def Obligations.PostsAndFiddleheads : Prop :=
  (∀ (s : State) (t : Nat) (h : Thread) (d : GReg) (hr hb : HReg) (a b : GReg) (v : VReg) (i : Imm) (q n : Nat)
    (y : Buf) (wr : Bool),
  h.rh hr = .queue q true →
  (Runs s t (iword 0x68 d.toNat a.toNat b.toNat hr.toNat hb.toNat i) h →
    InBuffer s h hb (h.rg b) (min (h.rg d).toNat i.toNat) 1 n y true wr →
    (s.qState q ≠ QS.ready → ∃ s' h', exec (.qpost t d hr a hb b i) s = .next s' ∧ OnlyThread s s' t h' ∧ Next h h' 4 ∧
      Writes h h' d (BitVec.ofInt 64 (-0x0E))) ∧
    (s.qState q = QS.ready → ∃ s' h', exec (.qpost t d hr a hb b i) s = .next s' ∧ ThreadNow s s' t h' ∧ MemorySame s s' ∧
      h' = { h with g := h'.g, posted := h'.posted, pc := h.pc + 1, charged := h.charged + 4 } ∧
      Writes h h' d (BitVec.ofNat 64 (min (h.rg d).toNat i.toNat)) ∧
      (s.isBraid q = true → (s.queue? q).isSome → 0 < min (h.rg d).toNat i.toNat → min (h.rg d).toNat i.toNat ≤ 1024 →
        ∃ m ∈ s'.out.drop s.out.length, m.kind = .braid ∧ m.dst = q ∧ m.args.headD 0 = Pkt.hostWrite ∧
          m.data = s.bufRead n (h.rg b).toNat (min (h.rg d).toNat i.toNat)))) ∧
  (Runs s t (iword 0x69 d.toNat a.toNat b.toNat hr.toNat 0 i) h → i.toNat ≤ 255 →
    let tag := (h.rg a).toNat % 65536
    (s.qState q ≠ QS.ready → ∃ s' h', exec (.qcomp t d hr a b i) s = .next s' ∧ OnlyThread s s' t h' ∧ Next h h' 4 ∧
      Writes h h' d (BitVec.ofInt 64 (-0x0E))) ∧
    (s.qState q = QS.ready → (tag ∈ s.tagsInUse q ∨ s.qDepth q ≤ (s.tagsInUse q).length) →
      ∃ s' h', exec (.qcomp t d hr a b i) s = .next s' ∧ OnlyThread s s' t h' ∧ Next h h' 4 ∧ Writes h h' d (BitVec.ofInt 64 (-0x10))) ∧
    (s.qState q = QS.ready → tag ∉ s.tagsInUse q → (s.tagsInUse q).length < s.qDepth q →
      ∃ s' h', exec (.qcomp t d hr a b i) s = .next s' ∧ ThreadNow s s' t h' ∧ MemorySame s s' ∧
        h' = { h with g := h'.g, posted := h'.posted, pc := h.pc + 1, charged := h.charged + 4 } ∧ Writes h h' d 0 ∧
        (s.isBraid q = true → (s.queue? q).isSome → ∃ m ∈ s'.out.drop s.out.length, m.kind = .braid ∧ m.dst = q ∧ m.args.headD 0 = Pkt.hostWrite ∧
          m.data = State.entryBytes tag ⟨0, i.toNat, h.rg b, 0, 0⟩ (s.f F.Q_RING_CQ_LOG2 q) (s.f F.Q_SEQ_QSEQ_NEXT q)))) ∧
  (Runs s t (iword 0x6A d.toNat a.toNat v.toNat hr.toNat 0 i) h → 1 ≤ i.toNat → i.toNat ≤ 64 →
    (s.qState q ≠ QS.ready → ∃ s' h', exec (.qsend t d hr a v i) s = .next s' ∧ OnlyThread s s' t h' ∧ Next h h' 4 ∧
      Writes h h' d (BitVec.ofInt 64 (-0x0E))) ∧
    (s.qState q = QS.ready → ∃ s' h', exec (.qsend t d hr a v i) s = .next s' ∧ ThreadNow s s' t h' ∧ MemorySame s s' ∧
      h' = { h with g := h'.g, posted := h'.posted, pc := h.pc + 1, charged := h.charged + 4 } ∧
      Writes h h' d (BitVec.ofNat 64 i.toNat) ∧
      (s.isBraid q = true → (s.queue? q).isSome → ∃ m ∈ s'.out.drop s.out.length, m.kind = .braid ∧ m.dst = q ∧ m.args.headD 0 = Pkt.hostWrite ∧
        m.data = (toBytes 64 (h.rv v).toNat).take i.toNat)))) ∧
  (∀ (s : State) (t : Nat) (h : Thread) (d : GReg) (hr : HReg) (a : GReg) (n : Nat) (y : Buf) (wr : Bool),
  (Runs s t (iword 0x6B d.toNat a.toNat 0 hr.toNat 0 0) h → InBuffer s h hr (h.rg a) 64 64 n y true wr →
    let desc : List U64 := (List.range 8).map fun i => BitVec.ofNat 64 (bufValue y ((h.rg a).toNat + 8 * i) 8)
    State.fiddleBad (desc.getD 0 0).toNat (desc.getD 1 0).toNat (desc.getD 4 0).toNat = false → s.farmReason h desc = none →
    ∃ s' h' k, exec (.farm t d hr a) s = .next s' ∧ ThreadNow s s' t h' ∧ Next h h' 4 ∧ Writes h h' d (BitVec.ofNat 64 k) ∧ k < 65536 ∧
      (∃ f, s'.fiddles.at? k = some f ∧ f.desc = desc ∧ f.count = 0) ∧ s'.dram = s.dram ∧ s'.queues = s.queues ∧
      ∀ j, j ≠ k → s'.fiddles.at? j = s.fiddles.at? j) ∧
  (Runs s t (iword 0x6C d.toNat a.toNat 0 0 0 0) h →
    let k := (h.rg a).toNat % 65536
    (s.fiddles.at? k = none → ∃ s' h', exec (.fdisarm t d a) s = .next s' ∧ OnlyThread s s' t h' ∧ Next h h' 4 ∧
      Writes h h' d (if k ∈ s.spent then 1 else BitVec.ofInt 64 (-1))) ∧
    (∀ f, s.fiddles.at? k = some f → h.ctl = false → s.qDomain f.q ≠ h.dom → ∃ s' h', exec (.fdisarm t d a) s = .next s' ∧
      OnlyThread s s' t h' ∧ Next h h' 4 ∧ Writes h h' d (BitVec.ofInt 64 (-1))) ∧
    (∀ f, s.fiddles.at? k = some f → (h.ctl = true ∨ s.qDomain f.q = h.dom) → ∃ s' h', exec (.fdisarm t d a) s = .next s' ∧
      ThreadNow s s' t h' ∧ Next h h' 4 ∧ Writes h h' d 0 ∧ s'.fiddles.at? k = none ∧ MemorySame s s' ∧
      ∀ j, j ≠ k → s'.fiddles.at? j = s.fiddles.at? j)))

/--  R201, R256 to R259: BALLOC grants a zeroed buffer, owned by the thread with a count of 1, or fails with NO_BUFFER; BFREE, BREF, BUNREF and BLEN on
the thread's buffer. Which buffer is granted is the command's operand: the spec leaves it open. The model's choices that it rests on: log entries 24
and 34. -/
def Obligations.BufferInstructions : Prop := ∀ (s : State) (t : Nat) (h : Thread) (d : GReg) (hr : HReg) (i : Imm) (idx x : Nat) (b : Buf) (rd wr : Bool),
  let p := i.toNat
  (Runs s t (iword 0x70 d.toNat 0 0 hr.toNat 0 i) h → s.flag F.POOL_CTL_ENG_OPEN p = true → h.rh hr = .invalid →
    (s.poolOn p = true → s.poolFree p ≠ 0 → idx < s.f F.POOL_CTL_COUNT p → s.buf? (p * 2 ^ 20 + idx) = none →
      ∃ s' h' rd' wr', exec (.balloc t d hr i idx) s = .next s' ∧ s'.thread? t = some h' ∧
        s' = { s with ctl := s'.ctl, bufs := s'.bufs, eng := { s.eng with threads := s'.eng.threads } } ∧
        s'.buf? (p * 2 ^ 20 + idx) = some ⟨.owned, t, 1, [(t, 1)], []⟩ ∧ (∀ c, c ≠ p * 2 ^ 20 + idx → s'.buf? c = s.buf? c) ∧
        h' = { h with g := h'.g, h := h'.h, pc := h.pc + 1, charged := h.charged + 4 } ∧ Writes h h' d 0 ∧
        ∀ k, h'.rh k = if k = hr then .buffer (p * 2 ^ 20 + idx) rd' wr' else h.rh k) ∧
    ((s.poolOn p = false ∨ s.poolFree p = 0) →
      ∃ s' h', exec (.balloc t d hr i idx) s = .next s' ∧ s'.thread? t = some h' ∧ s'.bufs = s.bufs ∧ s'.dram = s.dram ∧
        h' = { h with g := h'.g, h := h'.h, pc := h.pc + 1, charged := h.charged + 4 } ∧ Writes h h' d 0x0B ∧ h'.rh hr = .invalid)) ∧
  (h.rh hr = .buffer x rd wr → s.buf? x = some b → b.owner = t → 0 < b.refs → (b.st = .owned ∨ b.st = .shared) →
    (Runs s t (iword 0x71 d.toNat 0 0 hr.toNat 0 0) h →
      (b.refs = 1 → ∃ s' h', exec (.bfree t d hr) s = .next s' ∧ ThreadNow s s' t h' ∧ s'.dram = s.dram ∧
        h' = { h with g := h'.g, h := h'.h, pc := h.pc + 1, charged := h.charged + 4 } ∧ Writes h h' d 0 ∧ h'.rh hr = .invalid ∧
        s'.buf? x = (if s.flag F.POOL_CTL_ENG_OPEN (x / 2 ^ 20) then some ⟨.zeroing, 0, 0, [], []⟩ else none) ∧
        ∀ c, c ≠ x → s'.buf? c = s.buf? c) ∧
      (b.refs ≠ 1 → ∃ s' h', exec (.bfree t d hr) s = .next s' ∧ OnlyThread s s' t h' ∧ Next h h' 4 ∧ Writes h h' d 0x14)) ∧
    (Runs s t (iword 0x72 d.toNat 0 0 hr.toNat 0 0) h → b.refs < 255 →
      ∃ s' h' b', exec (.bref t d hr) s = .next s' ∧ s' = { s with bufs := s'.bufs, eng := { s.eng with threads := s'.eng.threads } } ∧
        ThreadNow s s' t h' ∧ Next h h' 4 ∧ Writes h h' d (BitVec.ofNat 64 (b.refs + 1)) ∧ s'.buf? x = some b' ∧
        b'.refs = b.refs + 1 ∧ b'.data = b.data ∧ b'.owner = t ∧ b'.st = .shared ∧ ∀ c, c ≠ x → s'.buf? c = s.buf? c) ∧
    (Runs s t (iword 0x73 d.toNat 0 0 hr.toNat 0 0) h → 1 < b.held.get 0 t → 1 < b.refs →
      ∃ s' h' b', exec (.bunref t d hr) s = .next s' ∧ s' = { s with bufs := s'.bufs, eng := { s.eng with threads := s'.eng.threads } } ∧
        ThreadNow s s' t h' ∧ Next h h' 4 ∧ Writes h h' d (BitVec.ofNat 64 (b.refs - 1)) ∧ s'.buf? x = some b' ∧
        b'.refs = b.refs - 1 ∧ b'.data = b.data ∧ b'.owner = t ∧ ∀ c, c ≠ x → s'.buf? c = s.buf? c) ∧
    (Runs s t (iword 0x73 d.toNat 0 0 hr.toNat 0 0) h → b.held.get 0 t ≤ 1 → FaultsWith (.bunref t d hr) s t h 0x0A) ∧
    (Runs s t (iword 0x74 d.toNat 0 0 hr.toNat 0 0) h →
      ∃ s' h', exec (.blen t d hr) s = .next s' ∧ OnlyThread s s' t h' ∧ Next h h' 4 ∧
        Writes h h' d (BitVec.ofNat 64 (2 ^ s.f F.POOL_CTL_SIZE_LOG2 (x / 2 ^ 20)))))

/--  R202 to R204, R250: the cache instructions. CINV, CWB and CWBI over a range, CLOCK and CUNLK, and in control mode CINV.ALL, CEN and CDIS over a mask
of clusters; CSTAT; the DIS_REQ of a cluster. What they change lies in the caches, their words and the events; of memory only the dirty lines that an
invalidation drops. The model's choices that it rests on: log entries 38, 40, 181 and 186. -/
def Obligations.CacheInstructions : Prop := ∀ (s : State) (t : Nat) (h : Thread) (d : GReg) (hr : HReg) (a b : GReg) (i : Imm) (c : Nat),
  (∀ op right ins, (op, right, ins) ∈ [(0x78, State.Right.write, Instr.cinv t d hr a i b), (0x79, .read, .cwb t d hr a i b),
      (0x7A, .read, .cwbi t d hr a i b)] →
    ∀ o, Runs s t (iword op d.toNat a.toNat b.toNat hr.toNat 0 i) h →
    s.ea (h.rh hr) (offsetOf h a i) (h.rg b).toNat right 1 = .inl o →
    ∃ s' h' n, exec ins s = .next s' ∧ ThreadNow s s' t h' ∧ Next h h' 4 ∧ Writes h h' d (BitVec.ofNat 64 n) ∧
      s'.queues = s.queues ∧ s'.bufs = s.bufs ∧ (op ≠ 0x78 → MemorySame s s') ∧
      ((∀ k, ((s.cache k).entries.any fun e => e.2.dirty.isSome) = false) → MemorySame s s')) ∧
  (h.ctl = false → (Runs s t (iword 0x78 d.toNat 0 0 0 1 i) h → FaultsWith (.cinvAll t d i) s t h 0x09) ∧
    (Runs s t (iword 0x7D d.toNat 0 0 0 0 i) h → FaultsWith (.cen t d i) s t h 0x09) ∧
    (Runs s t (iword 0x7E d.toNat 0 0 0 0 i) h → FaultsWith (.cdis t d i) s t h 0x09)) ∧
  (h.ctl = true → i.toNat ≤ 255 →
    (Runs s t (iword 0x78 d.toNat 0 0 0 1 i) h → ∃ s' h', exec (.cinvAll t d i) s = .next s' ∧ ThreadNow s s' t h' ∧ Next h h' 4 ∧
      Writes h h' d (BitVec.ofNat 64 (maskOf ((bitsOf 8 i.toNat).filter fun k => !s.cacheOn k))) ∧ s'.dram = s.dram ∧
      ∀ k ∈ bitsOf 8 i.toNat, s.cacheOn k = false → s'.f F.CCH_STATUS_FULLINV k = 1) ∧
    (Runs s t (iword 0x7D d.toNat 0 0 0 0 i) h → ∃ s' h', exec (.cen t d i) s = .next s' ∧ ThreadNow s s' t h' ∧ Next h h' 4 ∧
      Writes h h' d (BitVec.ofNat 64 (maskOf ((bitsOf 8 i.toNat).filter fun k => s.flag F.CCH_STATUS_FULLINV k))) ∧ s'.dram = s.dram ∧
      ∀ k ∈ bitsOf 8 i.toNat, s.flag F.CCH_STATUS_FULLINV k = true → s'.cacheOn k = true) ∧
    (Runs s t (iword 0x7E d.toNat 0 0 0 0 i) h → ∃ s' h' n, exec (.cdis t d i) s = .next s' ∧ ThreadNow s s' t h' ∧ Next h h' 4 ∧
      Writes h h' d (BitVec.ofNat 64 n) ∧ MemorySame s s' ∧ ∀ k ∈ bitsOf 8 i.toNat, s'.cacheOn k = false)) ∧
  (Runs s t (iword 0x7F d.toNat a.toNat 0 0 0 0) h → ∃ s' h', exec (.cstat t d a) s = .next s' ∧ OnlyThread s s' t h' ∧ Next h h' 4 ∧
    Writes h h' d (s.cstatWord ((h.rg a).toNat % 8))) ∧
  (c < 8 → ∃ s', exec (.disReq c) s = .next s' ∧ s'.cacheOn c = false ∧ MemorySame s s' ∧ s'.eng = s.eng)

/-! Streams, cipher, seals, time (R205 to R207, R210). -/

/--  R205, R288: STILE and SWAIT take the answer of their tile part, which is gone afterwards: STILE copies the tile's bytes from g[d] on into the
buffer; SREL takes the code of its release, and is INVALID in a control program, which has no queue; SSTAT reads the stream's state. The model's
choices that it rests on: log entries 3 and 125. -/
def Obligations.StreamInstructions : Prop := ∀ (s : State) (t : Nat) (h : Thread) (d : GReg) (hr hb : HReg) (a b : GReg) (dm : Option (Nat × Nat)) (r pid : Nat)
    (q : Part),
  h.rh hr = .stream dm r true →
  (TilePart s t pid q → q.st = .done →
    (∀ x y rd, Runs s t (iword 0x80 d.toNat a.toNat b.toNat hr.toNat hb.toNat 0) h → h.rh hb = .buffer x rd true → s.buf? x = some y →
      ∃ s' h', exec (.stile t d hr a b hb) s = .next s' ∧ ThreadNow s s' t h' ∧ Next h h' 4 ∧
        s' = { s with bufs := s'.bufs, parts := s.parts.del pid, eng := { s.eng with threads := s'.eng.threads } } ∧
        (q.code ≠ 0 → Writes h h' d (negCode q.code) ∧ s'.bufs = s.bufs) ∧
        (q.code = 0 → q.rdata.length ≤ (h.rg d).toNat → Writes h h' d (negCode 0x06) ∧ s'.bufs = s.bufs) ∧
        (q.code = 0 → (h.rg d).toNat < q.rdata.length →
          let bs := (q.rdata.drop (h.rg d).toNat).take (s.bufSize x)
          Writes h h' d (BitVec.ofNat 64 bs.length) ∧ BytesInBuffer s s' x y 0 bs)) ∧
    (Runs s t (iword 0x82 d.toNat a.toNat 0 hr.toNat 0 0) h →
      ∃ s' h', exec (.swait t d hr a) s = .next s' ∧ ThreadNow s s' t h' ∧ Next h h' 4 ∧
        s' = { s with parts := s.parts.del pid, eng := { s.eng with threads := s'.eng.threads } } ∧
        Writes h h' d (if q.code = 0 then 0 else negCode q.code))) ∧
  (∀ v, Runs s t (iword 0x81 d.toNat a.toNat 0 hr.toNat 0 0) h → h.ready = some v →
    ∃ s' h', exec (.srel t d hr a) s = .next s' ∧ OnlyThread s s' t h' ∧ Next { h with ready := none } h' 4 ∧ Writes h h' d v) ∧
  (∀ n, Runs s t (iword 0x81 d.toNat a.toNat 0 hr.toNat 0 0) h → h.start = .control n → h.ready = none → h.relWait = none →
    ∃ s' h', exec (.srel t d hr a) s = .next s' ∧ OnlyThread s s' t h' ∧ Next h h' 4 ∧ Writes h h' d (negCode 0x10)) ∧
  (∀ x, Runs s t (iword 0x83 d.toNat 0 0 hr.toNat 0 0) h → s.streamOf r = some x →
    ∃ s' h', exec (.sstat t d hr) s = .next s' ∧ OnlyThread s s' t h' ∧ Next h h' 4 ∧
      Writes h h' d (BitVec.ofNat 64 (s.f F.STR_STATUS_FIRST_SEG x <<< 32 ||| s.f F.STR_STATUS_RESIDENT x <<< 16 ||| s.strState x)))

/--  R206: GENC and GDEC work in place on additional data, message and tag in a row in a buffer; a tag that does not match leaves the message zero and
AUTH_FAIL; SHK hashes bytes of a buffer into a line register. The model's choices that it rests on: log entry 172. -/
def Obligations.CipherAndHash : Prop := ∀ (s : State) (t : Nat) (h : Thread) (d : GReg) (hr : HReg) (a b : GReg) (k : VReg) (i : Imm)
    (x : Nat) (y : Buf) (rd : Bool),
  let n := min (h.rg d).toNat i.toNat
  let m := (h.rg b).toNat
  let o := (h.rg a).toNat
  let cost := 1 + (i.toNat + 63) / 64
  let key := (toBytes 64 (h.rv k).toNat).take 32
  let iv := ((toBytes 64 (h.rv k).toNat).drop 32).take 12
  let changed (s' : State) : Prop := s' = { s with bufs := s'.bufs, eng := { s.eng with threads := s'.eng.threads } }
  (n % 16 = 0 → 16 ≤ n → n ≤ 65536 → m ≤ 256 → 20 ∉ s.supply.gated → InBuffer s h hr (h.rg a) (m + n + 16) 1 x y rd true →
    (Runs s t (iword 0x88 d.toNat a.toNat b.toNat hr.toNat k.toNat i) h →
      let sealed := Config.gcmSeal key iv (s.bufRead x o m) (s.bufRead x (o + m) n)
      ∃ s' h', exec (.genc t d hr a b k i) s = .next s' ∧ ThreadNow s s' t h' ∧ Next h h' cost ∧ Writes h h' d 0 ∧ changed s' ∧
        BytesInBuffer s s' x y (o + m) (fitBytes n sealed.1 ++ fitBytes 16 sealed.2)) ∧
    (Runs s t (iword 0x89 d.toNat a.toNat b.toNat hr.toNat k.toNat i) h →
      ∃ s' h', exec (.gdec t d hr a b k i) s = .next s' ∧ ThreadNow s s' t h' ∧ Next h h' cost ∧ changed s' ∧
        match Config.gcmOpen key iv (s.bufRead x o m) (s.bufRead x (o + m) n) (s.bufRead x (o + m + n) 16) with
        | some p => Writes h h' d 0 ∧ BytesInBuffer s s' x y (o + m) (fitBytes n p)
        | none => Writes h h' d (negCode 0x12) ∧ BytesInBuffer s s' x y (o + m) (List.replicate n 0))) ∧
  (InBuffer s h hr (h.rg a) n 1 x y true rd → Runs s t (iword 0x8A d.toNat a.toNat k.toNat hr.toNat 0 i) h →
    ∃ s' h', exec (.shk t d hr a k i) s = .next s' ∧ OnlyThread s s' t h' ∧
      h' = { h with g := h'.g, v := h'.v, pc := h.pc + 1, charged := h.charged + cost } ∧ Writes h h' d (BitVec.ofNat 64 n) ∧
      ∀ u, h'.rv u = if u = k then BitVec.ofNat 512 (ofBytes (fitBytes 64 (Config.shake256 (s.bufRead x o n) 64))) else h.rv u)

/--  R182, R207, R210, R442: SEAL takes the answer of its request; EVT posts event 0x0480 + n, at most 16 of a slot in a reach; TIME and CAL read stack
time in ns and calendar time in µs; HIST adds a sample of g[a] to a program histogram. The model's choices that it rests on: log entries 3 and 183. -/
def Obligations.SealsEventsTime : Prop := ∀ (s : State) (t : Nat) (h : Thread) (d a : GReg) (hr : HReg) (i : Imm),
  (∀ dm r base len wr at_ pid p, Runs s t (iword 0x8B d.toNat 0 0 hr.toNat 0 0) h → h.rh hr = .region dm r base len true wr at_ →
    s.regionClass r = 1 → (s.partsOf t).find? (fun e => partAtomic e.2.kind || e.2.kind == .group || e.2.kind == .seal) = some (pid, p) →
    s.parts.at? pid = some p → p.st = .done → p.code = 0 →
    ∃ s' h', exec (.seal t d hr) s = .next s' ∧ ThreadNow s s' t h' ∧ Next h h' 4 ∧ Writes h h' d p.result ∧
      s' = { s with parts := s.parts.del pid, eng := { s.eng with threads := s'.eng.threads } }) ∧
  (Runs s t (iword 0x98 0 a.toNat 0 0 0 i) h → i.toNat < 128 →
    let j := if h.ctl then 0xFFFF else h.slot
    let n := s.eng.evtCount.get 0 j
    (16 ≤ n → ∃ s', exec (.evt t a i) s = .next s' ∧ OnlyThread s s' t { h with pc := h.pc + 1, charged := h.charged + 4 }) ∧
    (n < 16 → ∃ s', exec (.evt t a i) s = .next s' ∧ ThreadNow s s' t { h with pc := h.pc + 1, charged := h.charged + 4 } ∧
      s'.eng = { s.eng with threads := s'.eng.threads, evtCount := s'.eng.evtCount } ∧ s'.eng.evtCount.get 0 j = n + 1 ∧ (∀ k, k ≠ j → s'.eng.evtCount.get 0 k = s.eng.evtCount.get 0 k) ∧
      { s' with eng := s.eng } = s.event (0x480 + i.toNat) [j, (h.rg a).toNat % 2 ^ 32, (h.rg a).toNat / 2 ^ 32])) ∧
  (Runs s t (iword 0x99 d.toNat 0 0 0 0 0) h → ∃ s' h', exec (.time t d) s = .next s' ∧ OnlyThread s s' t h' ∧ Next h h' 4 ∧
    Writes h h' d (BitVec.ofNat 64 s.time)) ∧
  (Runs s t (iword 0x9A d.toNat 0 0 0 0 0) h → ∃ s' h', exec (.cal t d) s = .next s' ∧ OnlyThread s s' t h' ∧ Next h h' 4 ∧
    Writes h h' d (if s.recd.rtcSet then BitVec.ofNat 64 (s.recd.rtc / 10 ^ 12) else 0)) ∧
  (∀ k, Runs s t (iword 0x9B 0 a.toNat 0 0 0 i) h → i.toNat < 8 →
    s.recd.frame.index.findIdx? (fun e => e == (if h.ctl then 0x3FF else h.slot, i.toNat)) = some k →
    ∃ s', exec (.hist t a i) s = .next s' ∧ ThreadNow s s' t { h with pc := h.pc + 1, charged := h.charged + 4 } ∧
      s' = { s with recd := { s.recd with frame := { s.recd.frame with prog := s'.recd.frame.prog } }
                    eng := { s.eng with threads := s'.eng.threads } } ∧
      (let c := 64 * k + binOf (h.rg a).toNat
       s'.recd.frame.prog.get 0 c = min (2 ^ 32 - 1) (s.recd.frame.prog.get 0 c + 1) ∧
         ∀ e, e ≠ c → s'.recd.frame.prog.get 0 e = s.recd.frame.prog.get 0 e))

/-! Control mode (R208, R209, R218, R220, R223). -/

/--  R208, R209, R220: CFGS on a word of this device. An address that names no word gives 1; what `stageCode` refuses gives its code, a full staging
store 3; else the ST bits of g[b] are the staged word of the open group, and the group's other words stay. Nothing else changes. The model's choices
that it rests on: log entries 55 and 58. -/
def Obligations.StageWords : Prop := ∀ (s : State) (t : Nat) (h : Thread) (d a b : GReg), h.ctl = true →
  Runs s t (iword 0x90 d.toNat a.toNat b.toNat 0 0 0) h →
  (s.ctlTarget (h.rg a) = none →
    ∃ s' h', exec (.cfgs t d a b) s = .next s' ∧ OnlyThread s s' t h' ∧ NextCtl h h' ∧ Writes h h' d 1) ∧
  ∀ dev k, s.ctlTarget (h.rg a) = some (dev, k) → s.ownTarget dev = none →
    let code := s.stageCode (s.ownWords (s.stage.opened.getD [])) k (h.rg b)
    (code ≠ 0 → ∃ s' h', exec (.cfgs t d a b) s = .next s' ∧ OnlyThread s s' t h' ∧ NextCtl h h' ∧ Writes h h' d (BitVec.ofNat 64 code)) ∧
    (code = 0 → s.stageFull dev k = true →
      ∃ s' h', exec (.cfgs t d a b) s = .next s' ∧ OnlyThread s s' t h' ∧ NextCtl h h' ∧ Writes h h' d 3) ∧
    (code = 0 → s.stageFull dev k = false →
      ∃ s' h' g, exec (.cfgs t d a b) s = .next s' ∧ ThreadNow s s' t h' ∧ NextCtl h h' ∧ Writes h h' d 0 ∧
        s' = { s with stage := { s.stage with opened := some g }, eng := { s.eng with threads := s'.eng.threads } } ∧
        g.find? (State.isStaged k (s.stageDev dev k)) = some ⟨k, s.stageDev dev k, h.rg b &&& BitVec.ofNat 64 (stMask k)⟩ ∧
        ∀ x, State.isStaged k (s.stageDev dev k) x = false → (x ∈ g ↔ x ∈ s.stage.opened.getD []))

/--  R208, R223: CFGR reads the committed value, with S the staged ST bits of the open group over it, and faults with 0x02 where no word is named; CFGI
answers the code of its checks and where it is 0 has the effect of the immediate fields. Outside control mode they, and the other control-mode
instructions, fault with 0x09. The model's choices that it rests on: log entry 54. -/
def Obligations.ReadAndWriteWords : Prop := ∀ (s : State) (t : Nat) (h : Thread) (d a b : GReg) (x : Bool) (i : Imm),
  (h.ctl = true → Runs s t (iword 0x91 d.toNat a.toNat 0 0 (if x then 1 else 0) 0) h →
    (s.ctlTarget (h.rg a) = none → FaultsWith (.cfgr t d a x) s t h 0x02) ∧
    ∀ dev k, s.ctlTarget (h.rg a) = some (dev, k) → s.ownTarget dev = none →
      ∃ u h', exec (.cfgr t d a x) s = .next (u.afterRead k) ∧ OnlyThread s u t h' ∧ NextCtl h h' ∧
        Writes h h' d (match (s.stage.opened.getD []).find? (State.isStaged k (s.stageDev dev k)) with
          | some y => if x then mergeBits (s.readWord k) y.v (stMask k) else s.readWord k
          | none => s.readWord k)) ∧
  (h.ctl = true → Runs s t (iword 0x93 d.toNat a.toNat b.toNat 0 0 0) h →
    (s.ctlTarget (h.rg a) = none →
      ∃ s' h', exec (.cfgi t d a b) s = .next s' ∧ OnlyThread s s' t h' ∧ NextCtl h h' ∧ Writes h h' d 1) ∧
    ∀ dev k, s.ctlTarget (h.rg a) = some (dev, k) → s.ownTarget dev = none →
      ∃ u h', exec (.cfgi t d a b) s = .next (if s.immCode k (h.rg b) = 0 then u.immDo k (h.rg b) else u) ∧ OnlyThread s u t h' ∧
        NextCtl h h' ∧ Writes h h' d (BitVec.ofNat 64 (s.immCode k (h.rg b)))) ∧
  (h.ctl = false →
    (Runs s t (iword 0x90 d.toNat a.toNat b.toNat 0 0 0) h → FaultsWith (.cfgs t d a b) s t h 0x09) ∧
    (Runs s t (iword 0x91 d.toNat a.toNat 0 0 (if x then 1 else 0) 0) h → FaultsWith (.cfgr t d a x) s t h 0x09) ∧
    (Runs s t (iword 0x92 d.toNat 0 0 0 0 0) h → FaultsWith (.cfgc t d) s t h 0x09) ∧
    (Runs s t (iword 0x93 d.toNat a.toNat b.toNat 0 0 0) h → FaultsWith (.cfgi t d a b) s t h 0x09) ∧
    (Runs s t (iword 0x94 d.toNat 0 0 0 0 i) h → FaultsWith (.wwait t d i) s t h 0x09) ∧
    (Runs s t (iword 0x95 0 0 0 0 0 i) h → FaultsWith (.drst t i) s t h 0x09))

/--  R208, R209, R221: CFGC gives 5 without an open group and 4 where the device is not in service; it sends a group to the master, waits, and takes the
master's answer. WWAIT waits for its weir and gives the weir count. A DRST while a save runs waits for it, as R233 orders every reset (WarmReset and
ControlReset say what it does otherwise). The model's choices that it rests on: log entries 3 and 8. -/
def Obligations.GroupsAndWaits : Prop := ∀ (s : State) (t : Nat) (h : Thread) (d : GReg) (i : Imm), h.ctl = true →
  (Runs s t (iword 0x92 d.toNat 0 0 0 0 0) h →
    (∀ c, h.ready = some c → ∃ s' h', exec (.cfgc t d) s = .next s' ∧ OnlyThread s s' t h' ∧ NextCtl h h' ∧ Writes h h' d c) ∧
    (h.ready = none → s.stage.closing = none → s.stage.opened = none →
      ∃ s' h', exec (.cfgc t d) s = .next s' ∧ OnlyThread s s' t h' ∧ NextCtl h h' ∧ Writes h h' d 5) ∧
    (∀ g, h.ready = none → s.stage.closing = none → s.stage.opened = some g → s.memberState ≠ 2 →
      ∃ s' h', exec (.cfgc t d) s = .next s' ∧ ThreadNow s s' t h' ∧ NextCtl h h' ∧ Writes h h' d 4 ∧
        s' = { s with stage := { s.stage with opened := none }, eng := { s.eng with threads := s'.eng.threads } }) ∧
    (∀ g, h.ready = none → s.stage.closing = none → s.stage.opened = some g → s.memberState = 2 → s.isMaster = false →
      (s.ownWords g).all (fun w => keySpace w.1 != 8) = true →
      ∃ s', exec (.cfgc t d) s = .next s' ∧
        s' = { s with stage := { s.stage with opened := none, closing := some g, closeWords := State.groupAddrs g }
                      out := s.out ++ [cas s.master 0x17 (1 :: 0 :: wordItems (State.groupAddrs g))] })) ∧
  (Runs s t (iword 0x94 d.toNat 0 0 0 0 i) h →
    (h.wait = none → ∃ s', exec (.wwait t d i) s = .next s' ∧ OnlyThread s s' t { h with wait := some (s.weirCount + i.toNat) }) ∧
    (∀ w, h.wait = some w → s.weirCount < w → exec (.wwait t d i) s = .next s) ∧
    (∀ w, h.wait = some w → w ≤ s.weirCount →
      ∃ s' h', exec (.wwait t d i) s = .next s' ∧ OnlyThread s s' t h' ∧ NextCtl h h' ∧ Writes h h' d (BitVec.ofNat 64 w))) ∧
  (∀ r, (i.toNat = 1 ∨ i.toNat = 2) → Runs s t (iword 0x95 0 0 0 0 0 i) h → s.deviceOff = false → s.flash.run = some r → r.committed = false →
    ∃ r', exec (.drst t i) s = .next { s with flash := { s.flash with run := some r' } } ∧ r' = { r with reset := max r.reset i.toNat })

/--  R218: an access of another device's program to a word of this device is answered to that device: CFGS with the code of its checks, CFGR with the
value read, CFGI with the code, and where that is 0 the immediate fields act. An answer lets this device's program go on. The model's choices that it
rests on: log entry 9. -/
def Obligations.RemoteControl : Prop := ∀ (s : State) (src k : Nat) (v : U64),
  (∃ s', exec (.remoteControlAccess src .cfgs k v) s = .next s' ∧ SendsNotice s s' src [0x0A, 3, k, (BitVec.ofNat 64 (s.stageCode [] k v)).toNat]) ∧
  (∃ s', exec (.remoteControlAccess src .cfgr k v) s = .next s' ∧ SendsNotice (s.afterRead k) s' src [0x0A, 3, k, (s.readWord k).toNat]) ∧
  (∃ u, SendsNotice s u src [0x0A, 3, k, (BitVec.ofNat 64 (s.immCode k v)).toNat] ∧
    exec (.remoteControlAccess src .cfgi k v) s = .next (if s.immCode k v = 0 then u.immDo k v else u)) ∧
  (∀ h, s.thread? State.ctlThread = some h → h.wait = some 0 → h.ended = none → s.stage.closing = none →
    ∃ s', exec (.remoteControlAccess src .answer k v) s = .next s' ∧ OnlyThread s s' State.ctlThread { h with ready := some v, wait := none })

/-! Boot and boot window (R212 to R217, R300, R306, R315, R411, R456). -/

/--  R411, R412: at stage 0x03 the eligible firmware copy with the higher SVN runs, copy A when they are equal: FW_SVN and FW_COPY say so, event 0x0E01
names it, and the boot stands at stage 0x04. A copy that does not verify, or is below the floor, posts 0x0E02. With none eligible the boot stops with
error 3 or 4 and PHASE reads FAILED. R300, R301, R306, R315: at stage 0x04, with a population that the SPD checks pass and every populated channel
trained, the channels read TRAINED with their ranks, DRAM_CTL and DRAM_CAP describe the DRAM, every byte of it reads 0, no line is poisoned, and the
boot stands at stage 0x05. A population at fault stops the boot with error 5 and the mask of the channels at fault. The model's choices that it rests
on: log entries 74, 75 and 76. -/
def Obligations.BootStages : Prop :=
  (∀ (s : State) (a b : FwCopy), s.f F.MGW_BOOT_STAGE = 3 → s.f F.MGW_STATUS_PHASE = 0 →
  let mayA := fwVerifies a && !(s.belowFloor a)
  let mayB := fwVerifies b && !(s.belowFloor b)
  let r := (s.fwReject 1 a).fwReject 2 b
  (mayA = false → mayB = false → ∃ detail t, exec (.firmwareVerify a b) s = .next t ∧
    Sets r t [F.MGW_BOOT_ERROR.is (if fwVerifies a || fwVerifies b then 4 else 3), F.MGW_BOOT_ERR_DETAIL.is detail, F.MGW_STATUS_PHASE.is 5] ∧
    (∀ i, detail.testBit i = true ↔ (i = 0 ∧ fwVerifies a = false) ∨ (i = 1 ∧ fwVerifies b = false) ∨
      (i = 8 ∧ fwVerifies a = true) ∨ (i = 9 ∧ fwVerifies b = true))) ∧
  (∀ c n, (mayA = true ∧ (mayB = true → fwSvn b ≤ fwSvn a) ∧ c = a ∧ n = 1) ∨
      (mayB = true ∧ (mayA = true → fwSvn a < fwSvn b) ∧ c = b ∧ n = 2) →
    ∃ d u, Sets { r with sec := { s.sec with fwDigest := d } } u [F.SEC_STATUS_FW_SVN.is (fwSvn c), F.SEC_STATUS_FW_COPY.is n, F.MGW_BOOT_STAGE.is 4] ∧
      exec (.firmwareVerify a b) s = .next (u.event 0x0E01 [n, fwSvn c]))) ∧
  (∀ (s : State) (chans : List ChanTrain), s.f F.MGW_BOOT_STAGE = 4 → s.f F.MGW_STATUS_PHASE = 0 →
  (spdFaults chans ≠ [] → ∃ t, exec (.dramTrainingDone chans) s = .next t ∧
    Sets s t [F.MGW_BOOT_ERROR.is 5, F.MGW_BOOT_ERR_DETAIL.is (maskOf (spdFaults chans)), F.MGW_STATUS_PHASE.is 5]) ∧
  (spdFaults chans = [] → chans.length ≤ 16 → (∀ c ∈ chans, c.modules ≠ [] → c.trained = true) →
    ∃ t, exec (.dramTrainingDone chans) s = .next t ∧
      t = { s with ctl := t.ctl, out := t.out, evq := t.evq, recd := t.recd, chans := t.chans, dram := { s.dram with mem := [], poison := [] } } ∧
      t.f F.MGW_BOOT_STAGE = 5 ∧ t.f F.MGW_STATUS_PHASE = 0 ∧
      (∀ c x, chans[c]? = some x → x.modules ≠ [] →
        t.f F.CH_STATUS_TRAINED c = 1 ∧ t.f F.CH_STATUS_RANKS c = ((x.modules.map (·.ranks)).foldl (· + ·) 0) % 2 ^ (F.CH_STATUS_RANKS.hi + 1 - F.CH_STATUS_RANKS.lo)) ∧
      (∀ c, (chans[c]?.map fun x => x.modules).getD [] = [] → t.f F.CH_STATUS_TRAINED c = s.f F.CH_STATUS_TRAINED c) ∧
      ∀ a, t.dram.mem.get 0 a = 0))

/--  R212, R213, R395, R456: PERST_N rises; the PCIe link is up once the core's rails are good; at stage 0x06 the boot window becomes ready: stage 0x07,
PHASE 1, stack time 0. R212 to R214, R217, R374: writes of the boot window while it answers. The doorbells take their value; EQ_OVERFLOW is cleared,
with EQ_LOST, by a 1; BASE and LOG2 of a ring change only while its EN is 0, and EN is set only where it may be: the control ring from stage 0x07 on
with LOG2 4 to 12, the event ring with LOG2 6 to 16, whose numbering then begins at 0. A REGISTER_WRITE of a word of the window is that write; of a
control word its immediate fields act, where no control program runs that could stage the others. The model's choices that it rests on: log entries
57, 73, 77 and 78. -/
def Obligations.BootWindow : Prop :=
  (∀ (s : State),
  exec .perstN s = .next { s with pins := { s.pins with perst := true } } ∧
  (s.pins.perst = true → 3 ≤ s.f F.MGW_BOOT_STAGE → s.deviceOff = false →
    exec .pcieLinkUp s = .next { s with pins := { s.pins with pcie := true } }) ∧
  (s.f F.MGW_BOOT_STAGE = 6 → s.f F.MGW_STATUS_PHASE = 0 →
    (∃ t, exec .bootWindowReady s = .next t ∧ t.time = 0 ∧ t.f F.MGW_BOOT_STAGE = 7 ∧ t.f F.MGW_STATUS_PHASE = 1 ∧ MemorySame s t ∧
      t = { s with time := 0, ctl := t.ctl, out := t.out, evq := t.evq, recd := t.recd, fv := t.fv
                   supply := { s.supply with lastTest := t.supply.lastTest, endTest := t.supply.endTest }
                   flash := { s.flash with iv := t.flash.iv } }) ∧
    (s.recd.checkpoint = none → ∃ u, exec .bootWindowReady s = .next u ∧
      Sets (s.setTime 0) u [F.MGW_BOOT_STAGE.is 7, F.MGW_STATUS_PHASE.is 1]))) ∧
  (∀ (s : State) (v : U64), s.windowOpen = true →
  OnlySets (.mgwCqDoorbellWrite v) s [F.MGW_CQ_DOORBELL_TAIL.is (State.fld v F.MGW_CQ_DOORBELL_TAIL)] ∧
  OnlySets (.mgwEqHeadWrite v) s [F.MGW_EQ_HEAD_HEAD.is (State.fld v F.MGW_EQ_HEAD_HEAD)] ∧
  (State.fld v F.MGW_STATUS_EQ_OVERFLOW = 1 → OnlySets (.eqOverflowClear v) s [F.MGW_STATUS_EQ_OVERFLOW.is 0, F.MGW_STATUS_EQ_LOST.is 0]) ∧
  (State.fld v F.MGW_STATUS_EQ_OVERFLOW = 0 → exec (.eqOverflowClear v) s = .next s) ∧
  (let on := s.flag F.MGW_CQ_BASE_EN
   let base := if on then s.f F.MGW_CQ_BASE_BASE else State.fld v F.MGW_CQ_BASE_BASE
   let log := if on then s.f F.MGW_CQ_BASE_LOG2 else State.fld v F.MGW_CQ_BASE_LOG2
   let en := State.fld v F.MGW_CQ_BASE_EN = 1 ∧ (on = true ∨ s.f F.MGW_BOOT_STAGE = 7 ∧ 4 ≤ log ∧ log ≤ 12)
   (en → OnlySets (.mgwCqBaseWrite v) s [F.MGW_CQ_BASE_BASE.is base, F.MGW_CQ_BASE_LOG2.is log, F.MGW_CQ_BASE_EN.is 1, F.MGW_STATUS_CQ_RUN.is 1]) ∧
   (¬ en → OnlySets (.mgwCqBaseWrite v) s [F.MGW_CQ_BASE_BASE.is base, F.MGW_CQ_BASE_LOG2.is log, F.MGW_CQ_BASE_EN.is 0, F.MGW_STATUS_CQ_RUN.is 0])) ∧
  (s.eqEnabled = true → State.fld v F.MGW_CQ_BASE_EN = 0 → OnlySets (.mgwEqBaseWrite v) s [F.MGW_CQ_BASE_EN.is 0 0 2]) ∧
  (s.eqEnabled = false → State.fld v F.MGW_CQ_BASE_EN = 1 → 6 ≤ State.fld v F.MGW_CQ_BASE_LOG2 → State.fld v F.MGW_CQ_BASE_LOG2 ≤ 16 → s.evq.kept = [] →
    ∃ t, exec (.mgwEqBaseWrite v) s = .next t ∧ Sets { s with evq := { s.evq with seq := 0, everEn := true } } t
      [F.MGW_CQ_BASE_BASE.is (State.fld v F.MGW_CQ_BASE_BASE) 0 2, F.MGW_CQ_BASE_LOG2.is (State.fld v F.MGW_CQ_BASE_LOG2) 0 2, F.MGW_CQ_BASE_EN.is 1 0 2]) ∧
  (s.eqEnabled = false → State.fld v F.MGW_CQ_BASE_EN = 1 → 6 ≤ State.fld v F.MGW_CQ_BASE_LOG2 → State.fld v F.MGW_CQ_BASE_LOG2 ≤ 16 →
    ∃ t, exec (.mgwEqBaseWrite v) s = .next t ∧ t.eqEnabled = true ∧ t.evq.kept = [] ∧ t.evq.everEn = true ∧ EventsOnly s t) ∧
  OnlySets (.registerWrite (wkey 256 0 5) v) s [F.MGW_CQ_DOORBELL_TAIL.is (State.fld v F.MGW_CQ_DOORBELL_TAIL)] ∧
  OnlySets (.registerWrite (wkey 256 0 7) v) s [F.MGW_EQ_HEAD_HEAD.is (State.fld v F.MGW_EQ_HEAD_HEAD)] ∧
  (∀ k, keySpace k ≠ 256 →
    (wordExists k = false → exec (.registerWrite k v) s = .next s) ∧
    (wordExists k = true → s.thread? State.ctlThread = none →
      exec (.registerWrite k v) s = .next (if s.immCode k v = 0 then s.immDo k v else s))) ∧
  exec (.registerWrite (wkey 256 0 5) v) s = exec (.mgwCqDoorbellWrite v) s ∧
  exec (.registerWrite (wkey 256 0 4) v) s = exec (.mgwCqBaseWrite v) s ∧
  exec (.registerWrite (wkey 256 0 6) v) s = exec (.mgwEqBaseWrite v) s ∧
  exec (.registerWrite (wkey 256 0 7) v) s = exec (.mgwEqHeadWrite v) s ∧
  exec (.registerWrite (wkey 256 0 1) v) s = exec (.eqOverflowClear v) s ∧
  exec (.registerWrite (wkey 256 0 0) v) s = .next s)

/-! Resets (R230 to R233, R344, R372, R457). -/

/--  R6, R230, R416, R457: a cold reset while no save runs: the straps are sampled, DRAM reads 0, the core is empty, the flash keeps what it holds, a new
nonce is drawn, and every other control word is at its After reset value but for the bits that every reset keeps. R233: while a save runs that has no
commit record, it waits for it. The model's choices that it rests on: log entries 80 and 83. -/
def Obligations.ColdReset : Prop := ∀ (s : State) (x y : Nat), s.Inv →
  (s.flash.run = none → ∃ t, exec (.pwronRstN x y) s = .next t ∧ t.strapX = x % 8 ∧ t.strapY = y % 8 ∧ t.time = 0 ∧ CoreGone t ∧ t.reach = [] ∧ FlashSame s t ∧
    (∀ a, t.dram.mem.get 0 a = 0) ∧ t.dram.poison = [] ∧ t.f F.SEC_NONCE_TOKEN_NONCE = (Config.freeValue s.fv).toNat ∧
    ∀ k, k ≠ F.SEC_NONCE_TOKEN_NONCE.key 0 0 → WordReset s t 3 k) ∧
  (∀ r, s.flash.run = some r → r.committed = false →
    ∃ r', exec (.pwronRstN x y) s = .next { s with flash := { s.flash with run := some r' } } ∧ r' = { r with reset := 3 })

/--  R208, R212, R230, R338, R339, R372: SYS_RST_N, MGW_RESET with KIND 2 and DRST 2, the warm reset. Where no save is armed or runs, or one has its
commit record: the core is empty, DRAM reads 0, the flash keeps what it holds, PHASE reads 2 and the supply powers down. Where one is armed, the save
begins with the reset after it. R233: where a save runs without its commit record, the reset waits for it. A word without the CONFIRM value changes
nothing. The model's choices that it rests on: log entry 85. -/
def Obligations.WarmReset : Prop := ∀ (s : State) (v : U64) (k : Nat) (h : Thread),
  (∀ c : Instr, c = .sysRstN ∨ (c = .mgwResetWarm v ∧ s.pins.pcie = true ∧ State.fld v F.MGW_RESET_CONFIRM = 0xA5C3 ∧ State.fld v F.MGW_RESET_KIND = 2) ∨
      (c = .drst k 2 ∧ h.ctl = true ∧ Runs s k (iword 0x95 0 0 0 0 0 2) h) →
    s.deviceOff = false →
    ((s.flash.run = none ∧ s.flag F.SV_STATUS_ARMED = false) ∨ (∃ r, s.flash.run = some r ∧ r.committed = true) → ∃ t, exec c s = .next t ∧ CoreGone t ∧ t.reach = [] ∧ FlashSame s t ∧ t.time = 0 ∧
      (∀ a, t.dram.mem.get 0 a = 0) ∧ t.f F.MGW_STATUS_PHASE = 2 ∧ t.seqState = 17 ∧ t.supply.downFor = 1 ∧ t.supply.down = 15 ∧
      t.strapX = s.strapX ∧ t.strapY = s.strapY ∧ t.pins.pcie = false) ∧
    (s.flash.run = none → s.flag F.SV_STATUS_ARMED = true → ∃ t, exec c s = .next t ∧ t.flash.run = some ⟨4, 0, s.time, s.calNow, 2, false, false⟩ ∧
      t.f F.SV_STATUS_SAVE_STATE = 3 ∧ t.f F.MGW_STATUS_PHASE = 3 ∧ t.f F.SV_STATUS_LAST_TRIGGER = 4 ∧ t.parts = [] ∧ t.queues = [] ∧ t.eng.threads = []) ∧
    (∀ r, s.flash.run = some r → r.committed = false → ∃ r', exec c s = .next { s with flash := { s.flash with run := some r' } } ∧
      r' = { r with reset := max r.reset 2 })) ∧
  (State.fld v F.MGW_RESET_CONFIRM ≠ 0xA5C3 → exec (.mgwResetWarm v) s = .next s)

/--  R208, R212, R230, R232, R251, R416: MGW_RESET with KIND 1 and without STACK, and DRST 1, on a device alone: the core is empty, every byte of memory
is as it was, the flash keeps what it holds, PHASE reads 1 where the boot had ended, a new nonce is drawn, and the words of the spaces LINK, DOMAIN,
QUEUE and PROGRAM are at their After reset values but for the bits a control reset keeps. With STACK, at a member: the reset is ordered for the next
weir, and the master tells every device. The model's choices that it rests on: log entries 81, 82, 83, 87 and 189. -/
def Obligations.ControlReset : Prop := ∀ (s : State) (v : U64) (n : Nat) (h : Thread), 
  (∀ c : Instr, (c = .mgwResetControl v ∧ State.fld v F.MGW_RESET_CONFIRM = 0xA5C3 ∧ State.fld v F.MGW_RESET_KIND = 1 ∧ State.fld v F.MGW_RESET_STACK = 0) ∨
      (c = .drst n 1 ∧ h.ctl = true ∧ Runs s n (iword 0x95 0 0 0 0 0 1) h) →
    s.Inv → s.windowOpen = true → s.flash.run = none → s.devices ≤ 1 →
    ∃ t, exec c s = .next t ∧ CoreGone t ∧ t.reach = s.reach ∧ FlashSame s t ∧ MemorySame s t ∧ (∀ l, l ∈ t.dram.poison → l ∈ s.dram.poison) ∧
      t.strapX = s.strapX ∧ t.strapY = s.strapY ∧ t.time = s.time ∧ (s.f F.MGW_BOOT_STAGE = 7 → t.f F.MGW_STATUS_PHASE = 1) ∧
      t.f F.SEC_NONCE_TOKEN_NONCE = (Config.freeValue s.fv).toNat ∧
      ∀ k, keySpace k = 3 ∨ keySpace k = 5 ∨ keySpace k = 7 ∨ keySpace k = 8 → WordReset s t 1 k) ∧
  (State.fld v F.MGW_RESET_CONFIRM = 0xA5C3 → State.fld v F.MGW_RESET_KIND = 1 → State.fld v F.MGW_RESET_STACK = 1 → s.memberState = 2 →
    ∀ c : Instr, c = .mgwResetStack v ∨ (c = .mgwResetControl v ∧ s.isMaster = true ∧ s.windowOpen = true) →
      ∃ t, exec c s = .next t ∧ StageNow s t { s.stage with stackReset := true } (if s.isMaster then casAll s 0x18 [0x0D] else []))

/--  R344, R372: POWER_DOWN_GAP with every rail of the state off: the next lower state's rails go off; below the lowest, a warm reset starts the sequence
again, and any other power-down ends with only the moss domain up. R232, R296: once the stack-wide words have come, each of them has its stack-wide
bits, and the device admits parts again; stated for a device without a save image, open windows or parts. The model's choices that it rests on: log
entries 150 and 189. -/
def Obligations.PowerDownAndCopiedWords : Prop :=
  (∀ (s : State), s.seqState = 17 → s.supply.offDue = [] →
  (1 < s.supply.down → ∃ t, exec .powerDownGap s = .next t ∧ RailsOff { s with supply := { s.supply with down := s.supply.down - 1 } } t) ∧
  (s.supply.down ≤ 1 → s.supply.downFor = 1 → s.Inv → ∃ t, exec .powerDownGap s = .next t ∧ t.seqState = 0 ∧ t.f F.MGW_STATUS_PHASE = 0 ∧
    t = { s with ctl := t.ctl, supply := t.supply } ∧ t.supply.chainIn = s.supply.chainIn ∧ t.supply.chainRet = s.supply.chainRet ∧
    t.supply.down = 0 ∧ t.f F.SUP_INPUT_IN_CODE = s.f F.SUP_INPUT_IN_CODE ∧
    ∀ k, keySpace k ≠ 15 → k ≠ F.MGW_STATUS_PHASE.key 0 0 → t.word k = s.word k) ∧
  (s.supply.down ≤ 1 → s.supply.downFor ≠ 1 → ∃ t, exec .powerDownGap s = .next t ∧ t.seqState = 18 ∧ CoreGone t ∧ FlashSame s t ∧
    t.f F.MGW_STATUS_PHASE = s.f F.MGW_STATUS_PHASE ∧ ∀ a, t.dram.mem.get 0 a = 0)) ∧
  (∀ (s : State) (ws : List (Nat × U64)), s.stage.copying = true → s.flash.image = none → s.parts = [] →
  (ws.map Prod.fst).Nodup → (∀ w ∈ ws, keySpace w.1 ≠ 11) → (∀ r < 256, s.flag F.STR_CTL_SVALID r = false) →
  ∃ t, exec (.stackWordsCopyDone ws) s = .next t ∧ t = { s with ctl := t.ctl, stage := { s.stage with copying := false } } ∧
    (∀ w ∈ ws, t.word w.1 = mergeBits (s.word w.1) w.2 (wideMask w.1)) ∧
    ∀ k, (∀ w ∈ ws, w.1 ≠ k) → t.word k = s.word k)

/-! Side interfaces (R356, R456, R467). -/

/--  R356, R456, R467: the I3C target answers its three words and ENTDAA gives it its address; BYPASS shifts its bits one clock late, IDCODE gives
0x1641274B, SAMPLE/PRELOAD gives the pins and takes the chain, EXTEST drives it while every host port is disabled. Nothing else changes. The model's
choices that it rests on: log entry 79. -/
def Obligations.SideInterfaces : Prop := ∀ (s : State) (addr : BitVec 7) (tdi pins chain : List Bool),
  let rb (vs : List Nat) : Msg := ⟨.readback, 0, vs, []⟩
  let off : State := { s with pins := { s.pins with extest := false } }
  (∃ t, exec (.i3cTargetRead 0x00) s = .next t ∧ Sent s t [rb [0x00, s.ident.toNat]]) ∧
  (∃ t, exec (.i3cTargetRead 0x10) s = .next t ∧ Sent s t [rb [0x10, (s.word (F.SUP_SEQ_SEQ_STATE.key 0 0)).toNat]]) ∧
  (∃ t, exec (.i3cTargetRead 0x08) s = .next t ∧ Sent s t [rb [0x08, (s.bootWord 0x018).toNat]]) ∧
  exec (.entdaa addr) s = .next { s with pins := { s.pins with i3c := addr.toNat } } ∧
  (∃ t, exec (.jtagBypass tdi) s = .next t ∧ Sent off t [rb (((false :: tdi).take tdi.length).map fun b => if b then 1 else 0)]) ∧
  (∃ t, exec .jtagIdcode s = .next t ∧ Sent off t [rb [0x1641274B]]) ∧
  (∃ t, exec (.jtagSamplePreload pins chain) s = .next t ∧
    Sent { off with pins := { off.pins with preload := chain } } t [rb (pins.map fun b => if b then 1 else 0)]) ∧
  (∃ t, exec .jtagExtest s = .next t ∧ t = { s with pins := { s.pins with extest := true } } ∧
    t.extestDrives = if s.portsOff then some s.pins.preload else none)

/-! Programs from start to end (R148, R151, R173 to R181, R214, R215). -/

/--  R148, R151, R183: the invocation that has waited longest takes a free thread of its cluster: its registers, its handles, its slot's image and
limits; INVOCATIONS and RUNNING count it. `w` is the state as its handles bind: the engine's clock runs, and a wait over 10 µs is counted. R176, R181,
R215: a timeout ends a program with PROGRAM_BUDGET; one that waits in PFENCE, TXE or an atomic goes on to its end first. A control program's WWAIT
does not count. The model's choices that it rests on: log entries 15, 27, 190 and 193. -/
def Obligations.InvocationLife : Prop :=
  (∀ (s : State) (c t : Nat) (i : Inv) (hs : Vector Handle 8),
  s.eng.waiting.find? (fun j => j.cluster == c) = some i → s.supply.gated.contains c = false → s.freeThread c = some t →
  let u := (s.dropInv i.start).wakeEngine t
  let w := if i.since + 10000 < s.time then u.reachEvent 0x0405 c [c] else u
  let g := w.startRegs i.g1 i.g2 (BitVec.ofNat 64 i.len)
  i.slot < 1024 → w.slotOpen i.slot i.dom = true → i.h0 = .invalid → State.bindAll (w.bindHandle i g) i.h0 (w.slotDecls i.slot) = .inr hs →
  ∃ s' h, exec (.invocationStart c) s = .next s' ∧ s'.thread? t = some h ∧
    h.pc = 0 ∧ h.g = g ∧ h.rg 1 = i.g1 ∧ h.rg 2 = i.g2 ∧ h.rg 3 = BitVec.ofNat 64 i.len ∧ h.rg 4 = BitVec.ofNat 64 s.index ∧ h.h = hs ∧
    (∀ v, h.rv v = 0) ∧ h.ctl = false ∧ h.dom = i.dom ∧ h.slot = i.slot ∧ h.img = s.slotImage i.slot ∧
    h.budget = s.f F.PRG_LIMITS_BUDGET i.slot ∧ h.timeoutUs = s.f F.PRG_LIMITS_TIMEOUT_US i.slot ∧ h.ended = none ∧ h.charged = 0 ∧
    (∀ k, k ≠ t → s'.thread? k = s.thread? k) ∧ s'.dram = s.dram ∧ s'.queues = s.queues ∧ s'.out = s.out ∧
    s'.f F.PRG_STATS_INVOCATIONS i.slot = satAdd 32 (s.f F.PRG_STATS_INVOCATIONS i.slot) 1) ∧
  (∀ (s : State) (t : Nat) (h : Thread), s.thread? t = some h → h.ended = none →
  let late : Thread := { h with ended := some ⟨0x0D, 0, 0⟩ }
  (t ≠ 15 → s.syncWait t h = false → ∃ s', exec (.invocationTimeout t) s = .next s' ∧ OnlyThread s s' t late) ∧
  (t ≠ 15 → s.syncWait t h = true → ∃ s', exec (.invocationTimeout t) s = .next s' ∧ OnlyThread s s' t { h with timedOut := true }) ∧
  (t = 15 → h.wait = none → s.syncWait t h = false → ∃ s', exec .controlProgramTimeout s = .next s' ∧ OnlyThread s s' t late) ∧
  (t = 15 → h.wait = none → s.syncWait t h = true → ∃ s', exec .controlProgramTimeout s = .next s' ∧ OnlyThread s s' t { h with timedOut := true }) ∧
  (∀ w, t = 15 → h.wait = some w → 0 < w → exec .controlProgramTimeout s = .next s))

/--  R178, R209, R214, R215: a control program that has ended with EXIT is written back: QW6 and QW7, QW0 with DONE, MSI-X vector 1; its open group is
discarded, its thread free, CTL_BUSY 0. A descriptor that its checks refuse is written back with OUTCOME 0x04 and the head moves on; one of KIND 2
that passes starts its slot's program on thread 15 in control mode. The model's choices that it rests on: log entries 30 and 37. -/
def Obligations.ControlPrograms : Prop := ∀ (s : State) (n : Nat) (desc img : List U64) (h : Thread) (r : U64),
  let q0 := (desc.getD 0 0).toNat
  let back (i o : Nat) (d : List U64) (v : U64) : List Msg :=
    [⟨.descriptor, 0, [i, 6, o <<< 56], []⟩, ⟨.descriptor, 0, [i, 7, v.toNat], []⟩,
      ⟨.descriptor, 0, [i, 0, (d.getD 0 0).toNat ||| 2 ^ 63], []⟩, ⟨.msix, 0, [1], []⟩]
  (s.thread? 15 = some h → h.start = .control n → h.ended = some ⟨0, 0, r⟩ → h.tx = none → s.partsOf 15 = [] → s.bufs = [] →
    ∃ t, exec (.invocationCompletion 15) s = .next t ∧ t.thread? 15 = none ∧ (∀ k, k ≠ 15 → t.thread? k = s.thread? k) ∧
      t.stage = { s.stage with opened := none, closing := none } ∧ t.f F.MGW_STATUS_CTL_BUSY = 0 ∧
      t.out = s.out ++ back s.eng.desc.1 0 s.eng.desc.2 r ∧ t.dram = s.dram ∧ t.queues = s.queues ∧
      t.f F.DEV_CTLSTAT_CTL_RUN = satAdd 32 (s.f F.DEV_CTLSTAT_CTL_RUN) 1) ∧
  (s.flag F.MGW_STATUS_CQ_RUN = true → s.f F.MGW_STATUS_PHASE = 1 → s.thread? 15 = none →
    s.f F.MGW_STATUS_CQ_HEAD ≠ s.f F.MGW_CQ_DOORBELL_TAIL % 2 ^ s.f F.MGW_CQ_BASE_LOG2 → s.supply.gated.contains 0 = false →
    s.f F.MGW_CQ_BASE_LOG2 ≤ 16 →
    let head := (s.f F.MGW_STATUS_CQ_HEAD + 1) % 2 ^ s.f F.MGW_CQ_BASE_LOG2
    let u := (s.wakeEngine 15).setF F.MGW_STATUS_CQ_HEAD head
    (u.descRefused desc = true → ∃ t, exec (.controlDescriptorFetch desc img) s = .next t ∧ t.f F.MGW_STATUS_CQ_HEAD = head ∧
      t.out = s.out ++ back (s.f F.MGW_STATUS_CQ_HEAD) 4 desc 0 ∧ t.eng = s.eng ∧
      t.f F.DEV_CTLSTAT_CTL_FAILED = satAdd 32 (s.f F.DEV_CTLSTAT_CTL_FAILED) 1) ∧
    (∀ hs, u.descRefused desc = false → bits q0 7 0 = 2 →
      State.bindAll (u.bindControl (u.startRegs (desc.getD 3 0) (desc.getD 4 0) 0)) .invalid (u.slotDecls (desc.getD 1 0).toNat) = .inr hs →
      ∃ t h', exec (.controlDescriptorFetch desc img) s = .next t ∧ t.f F.MGW_STATUS_CQ_HEAD = head ∧ t.f F.MGW_STATUS_CTL_BUSY = 1 ∧
        t.thread? 15 = some h' ∧ h'.ctl = true ∧ h'.pc = 0 ∧ h'.h = hs ∧ h'.slot = (desc.getD 1 0).toNat ∧
        h'.img = s.slotImage (desc.getD 1 0).toNat ∧ h'.rg 1 = desc.getD 3 0 ∧ h'.rg 2 = desc.getD 4 0 ∧ h'.ended = none ∧
        (∀ k, k ≠ 15 → t.thread? k = s.thread? k) ∧ t.out = s.out ∧ t.dram = s.dram))

/-! Weirs and groups (R221 to R229). -/

/--  R225 to R228: a commit round. The cutoff opens it and announces the list's last group; PREP is answered by a device that holds words; PREP_ACK is
taken once from each device asked; the decision is GO with every answer, and NOGO where one is missing, which is counted; GO and NOGO are heard once.
R222, R225, R227, R229: at a weir the count goes on; without a round no group commits; with GO the one group of the list commits, and the words of it
in space DEVICE take their ST fields. A device in doubt asks, is told, and counts a NOGO; after DOUBT_MAX it is excluded. The model's choices that it
rests on: log entries 8, 65 and 89. -/
def Obligations.Weirs : Prop :=
  (∀ (s : State) (w last dev : Nat) (failed withdrawn : List Nat),
  let keep (o : Outcome) : List Outcome := (o :: s.stage.history).take 16
  (s.ruling = true → s.stage.round = none → ∃ t n asked acked, exec .weirCutoff s = .next t ∧
    StageNow s t { s.stage with round := some (s.weirCount + 1, n), prep := some (s.weirCount + 1, n), outcome := none, asked := asked, acked := acked }
      (casAll s 0x14 [1, s.weirCount + 1, n]) ∧
    (State.fitting [] s.stage.groups = s.stage.groups → n = s.stage.maxSeq) ∧ (∀ d ∈ asked, d ≠ s.index ∧ s.isMember d = true)) ∧
  (s.memberState = 2 → s.isMaster = false → s.stage.doubt = false →
    (∃ t u, exec (.prep w last) s = .next t ∧ Sets s u (if w = 0 then [] else [F.WEIR_COUNT.is (w - 1)]) ∧
      StageNow u t { s.stage with prep := some (w, last), outcome := none }
        (if s.holdsWords last then [cas s.master 0x14 (2 :: w :: u.recheck last)] else [])) ∧
    (s.stage.prep = some (w, last) → (s.stage.outcome.any fun o => o.weir == w) = false →
      (∃ t, exec (.go w withdrawn) s = .next t ∧
        StageNow s t { s.stage with outcome := some ⟨w, true, last, withdrawn⟩, history := keep ⟨w, true, last, withdrawn⟩ } []) ∧
      (∃ t, exec (.nogo w) s = .next t ∧
        Sets { s with stage := { s.stage with outcome := some ⟨w, false, last, []⟩, history := keep ⟨w, false, last, []⟩ } } t
          [F.WEIR_STATS_DEFERRED.up s]))) ∧
  (s.ruling = true → s.stage.round = some (w, last) → dev ∈ s.stage.asked → (s.stage.acked.any fun a => a.1 == dev) = false →
    exec (.prepAck dev w failed) s = .next { s with stage := { s.stage with acked := s.stage.acked ++ [(dev, failed)] } }) ∧
  (s.ruling = true → s.stage.round = some (w, last) →
    ((∀ d ∈ s.stage.asked, (s.stage.acked.any fun a => a.1 == d) = true) →
      let gone := (s.stage.acked.flatMap Prod.snd).eraseDups
      let o : Outcome := ⟨w, true, last, gone⟩
      ∃ t m, exec .weirDecision s = .next t ∧ StageNow s t { s.stage with round := none, misses := m, outcome := some o, history := keep o } (casAll s 0x14 (3 :: w :: gone))) ∧
    (s.stage.asked = [dev] → (s.stage.acked.any fun a => a.1 == dev) = false →
      (s.stage.acked.foldl (fun (m : SMap Nat) a => m.del a.1) s.stage.misses).get 0 dev + 1 < s.f F.WEIR_CTL_MISS_LIMIT →
      let o : Outcome := ⟨w, false, last, []⟩
      ∃ t m, exec .weirDecision s = .next t ∧
        Sets { s with out := s.out ++ casAll s 0x14 [4, w], stage := { s.stage with round := none, misses := m, outcome := some o, history := keep o } } t
          [F.WEIR_STATS_DEFERRED.up s, F.WEIR_STATS_MISSED.up s, F.WEIR_STATS_MISS_DEV.is dev]))) ∧
  (∀ (s : State) (mv w last dev : Nat) (g : Group) (withdrawn old : List Nat),
  (s.memberState = 1 ∨ s.memberState = 2 → s.stage.stackReset = false → s.flash.install = false →
    ∃ t, exec (.weirApply ⟨mv, old⟩) s = .next t ∧ t.weirCount = (s.weirCount + 1) % 2 ^ (F.WEIR_COUNT.hi + 1 - F.WEIR_COUNT.lo) ∧
      t.f F.HU_GAUGE_V_MV = mv % 2 ^ (F.HU_GAUGE_V_MV.hi + 1 - F.HU_GAUGE_V_MV.lo) ∧ t.stage.round = none ∧
      (s.stage.doubt = false → s.stage.outcome = none → s.stage.prep = none → t.stage.groups = s.stage.groups) ∧
      (s.stage.doubt = false → s.stage.outcome = some ⟨s.weirCount + 1, true, last, []⟩ → s.stage.groups = [g] → g.seq ≤ last →
        (∀ x ∈ g.words, keySpace x.1 = 1) → (g.words.map Prod.fst).Nodup →
        t.stage.groups = [] ∧ t.stage.outcome = none ∧ (∀ x ∈ g.words, t.word x.1 = mergeBits (s.word x.1) x.2 (commitMask x.1)) ∧
        (g.mine = true → g.seq % 2 ^ 32 = s.f F.WEIR_GROUP_GROUP_SEQ → t.f F.WEIR_GROUP_GROUP_STATE = 2))) ∧
  (∀ o, dev < 64 → s.ruling = true → s.stage.history.find? (fun x => x.weir == w) = some o →
    ∃ t, exec (.weirOutcomeQuery dev w) s = .next t ∧ Sent s t [cas dev 0x14 (6 :: w :: (if o.went then 1 else 0) :: o.withdrawn)]) ∧
  (s.stage.doubt = true → s.stage.prep = some (w, last) → s.parts = [] →
    ∃ t, exec (.weirOutcome w false withdrawn) s = .next t ∧
      Sets { s with stage := { s.stage with doubt := false, prep := none, outcome := none, history := (⟨w, false, last, withdrawn⟩ :: s.stage.history).take 16 } } t [F.WEIR_STATS_DEFERRED.up s]) ∧
  (s.Inv → s.stage.doubt = true → s.parts = [] → ∃ t, exec .doubtMaxExpiry s = .next t ∧ t.stage.doubt = false ∧ t.memberState = 3 ∧
    t.isMember t.index = false ∧ t.f F.STK_EXCL_LAST_EXCL = s.index ∧ t.f F.STK_EXCL_LAST_CAUSE = 2))

/--  R221, R222, R388, R402: closing a group. The master answers each request: refused, 0; accepted, its GROUP_SEQ, and it holds its own words. A device
checks and holds the words it is sent, and says so; none discards the group; copied stack-wide words make a device JOINING. The answer goes to the
program that closed the group. The model's choices that it rests on: log entries 8, 63, 64 and 91. -/
def Obligations.GroupClosing : Prop := ∀ (s : State) (m : GroupMsg) (n : Nat) (ws : List (Nat × U64)),
  (s.ruling = true → m.dev ≠ s.index → m.dev < 64 →
    (m.othersOk = false → ∃ t, exec (.groupCloseRequest m) s = .next t ∧ t.out.getLast? = some (cas m.dev 0x17 [3, 0]) ∧
      t.stage = { s.stage with nextSeq := s.stage.nextSeq + 1, maxSeq := s.stage.nextSeq }) ∧
    (∀ k, (∀ x ∈ s.stage.groups, x.seq ≠ s.stage.nextSeq) → (s.closeAtMaster m).2 = some k → ∃ t x, exec (.groupCloseRequest m) s = .next t ∧ k = s.stage.nextSeq ∧
      t.out.getLast? = some (cas m.dev 0x17 [3, k]) ∧ t.stage.nextSeq = k + 1 ∧ x ∈ t.stage.groups ∧ x.seq = k ∧
      ∀ y ∈ wordsFor s.index m.words, y ∈ x.words)) ∧
  (s.memberState = 2 → ws ≠ [] → (s.checkOwn ws).2 = true → ∃ t x, exec (.groupWords (some n) ws) s = .next t ∧ x ∈ t.stage.groups ∧ x.seq = n ∧
    (∀ y ∈ ws, y ∈ x.words) ∧ t.out.getLast? = some (cas s.master 0x17 [2, n, 1])) ∧
  (s.memberState = 2 → ws ≠ [] → (s.checkOwn ws).2 = false → ∃ t, exec (.groupWords (some n) ws) s = .next t ∧ t.stage = s.stage ∧
    t.out.getLast? = some (cas s.master 0x17 [2, n, 0])) ∧
  (s.memberState = 2 → exec (.groupWords (some n) []) s = .next { s with stage := { s.stage with groups := s.stage.groups.filter fun y => y.seq != n } }) ∧
  (s.memberState = 0 → (∀ x ∈ ws, keySpace x.1 = 5) → (ws.map Prod.fst).Nodup → ∃ t, exec (.groupWords none ws) s = .next t ∧ t.memberState = 1 ∧
    ∀ x ∈ ws, t.word x.1 = mergeBits (s.word x.1) x.2 (wideMask x.1)) ∧
  (∀ g h, s.stage.closing = some g → s.thread? 15 = some h →
    (∃ t u, exec (.groupCloseAnswer none) s = .next t ∧ u = { s with stage := { s.stage with closing := none } } ∧
      OnlyThread u t 15 { h with ready := some 4 }) ∧
    (∃ t, exec (.groupCloseAnswer (some n)) s = .next t ∧ t.thread? 15 = some { h with ready := some 0 } ∧ t.stage.closing = none ∧
      t.f F.WEIR_GROUP_GROUP_SEQ = n % 2 ^ (F.WEIR_GROUP_GROUP_SEQ.hi + 1 - F.WEIR_GROUP_GROUP_SEQ.lo) ∧ t.f F.WEIR_GROUP_GROUP_STATE = 1 ∧
      ∃ x ∈ t.stage.groups, x.seq = n ∧ x.mine = true))

/-! Links, revocation, reads that clear (R24 to R27, R29, R77, R78, R107, R109, R110, R257, R265, R298, R319, R408). -/

/--  R77, R78, R95, R107, R109: a lane's lock and its loss (event 0x0103, and a host port down), a host port's link up (event 0x0101) and down (event
0x0102, its pauses end, and what waited for them is gone), and PORT_OFF of one port, which clears its enables. The model's choices that it rests on:
log entries 68, 130 and 194. -/
def Obligations.LinksAndPorts : Prop := ∀ (s : State) (o p lane reason : Nat), o < 12 → p < 8 → lane < 96 →
  let down : List (Fld × Nat × Nat × Nat) := [F.LNK_STATUS_PORT_UP.is (withBit (s.f F.LNK_STATUS_PORT_UP o) p false) o,
    F.LNK_STATUS_PORT_PAUSED.is (withBit (s.f F.LNK_STATUS_PORT_PAUSED o) p false) o,
    F.LNK_STATUS_EDDY_XOFF.is (withBit (s.f F.LNK_STATUS_EDDY_XOFF o) p false) o]
  let gone : State := { s with tp := { s.tp with paused := s.tp.paused.filter fun e => e.1 != 8 * o + p } }
  (s.f F.LNK_CTL_ROLE (lane / 8) ≠ 0 → s.f F.LNK_CTL_ROLE (lane / 8) ≠ 2 →
    OnlySets (.laneLock lane) s [F.LNK_STATUS_LANE_LOCK.is (withBit (s.f F.LNK_STATUS_LANE_LOCK (lane / 8)) (lane % 8) true) (lane / 8)]) ∧
  ((s.f F.LNK_STATUS_LANE_LOCK (lane / 8)).testBit (lane % 8) = true → s.f F.LNK_CTL_ROLE (lane / 8) ≠ 1 →
    SetsPosts (.laneLockLoss lane) s [F.LNK_STATUS_LANE_LOCK.is (withBit (s.f F.LNK_STATUS_LANE_LOCK (lane / 8)) (lane % 8) false) (lane / 8)] 0x0103
      [lane]) ∧
  (s.f F.LNK_CTL_ROLE o = 1 → s.f F.LNK_STATUS_LANE_LOCK o = 0xFF → p < s.portCount o → (s.f F.LNK_CTL_PORT_EN o).testBit p = true → (s.f F.LNK_STATUS_PORT_UP o).testBit p = false →
    SetsPosts (.portLinkUp o p) s [F.LNK_STATUS_PORT_UP.is (withBit (s.f F.LNK_STATUS_PORT_UP o) p true) o] 0x0101 [o, p, 1600 / s.portCount o]) ∧
  (s.f F.LNK_CTL_ROLE o = 1 → (s.f F.LNK_STATUS_PORT_UP o).testBit p = true → 
    ∃ u, Sets gone u down ∧ exec (.portLinkDown o p reason) s = .next (u.event 0x0102 [o, p, reason])) ∧
  (s.stage.opened = none → s.stage.closing = none → s.stage.groups = [] → (s.f F.LNK_STATUS_PORT_UP o).testBit p = true →
    ∃ u t, Sets gone u down ∧ exec (.portOff o (BitVec.ofNat 8 (2 ^ p))) s = .next t ∧
      Sets (u.event 0x0102 [o, p, 1]) t [F.LNK_CTL_PORT_EN.is (withBit (s.f F.LNK_CTL_PORT_EN o) p false) o,
        F.LNK_CTL_DURABLE_EN.is (withBit (s.f F.LNK_CTL_DURABLE_EN o) p false) o, F.MGW_STATUS_DUR_ANY.is (t.f F.MGW_STATUS_DUR_ANY)] ∧
      (t.f F.MGW_STATUS_DUR_ANY = 1 ↔ ∃ k < 12, t.f F.LNK_CTL_DURABLE_EN k ≠ 0))

/--  R24, R25, R27, R29: revocation of a region: REVOKE marks it REVOKING and tells every device, the mark does so there, and the drain, complete on this
device, makes it REVOKED; a mapping's drain clears DRAIN_PENDING. Nothing else changes. The model's choices that it rests on: log entries 9 and 131.
-/
def Obligations.Revocations : Prop := ∀ (s : State) (r d : Nat),
  (s.regionValid r = true → s.f F.REG_STATE_REVOKE_STATE r = 0 → ∃ t, exec (.revoke r) s = .next t ∧
    Sets { s with out := s.out ++ casAll s 0x18 [1, r] } t [F.REG_STATE_REVOKE_STATE.is 1 r]) ∧
  (s.regionValid r = true → s.f F.REG_STATE_REVOKE_STATE r ≠ 0 → exec (.revoke r) s = .next s) ∧
  (s.f F.REG_STATE_REVOKE_STATE r = 0 → OnlySets (.revocationMark r) s [F.REG_STATE_REVOKE_STATE.is 1 r]) ∧
  (s.f F.REG_STATE_REVOKE_STATE r = 1 →
    (s.regionDrained r = true → OnlySets (.revokeDrainComplete r) s [F.REG_STATE_REVOKE_STATE.is 2 r]) ∧
    (s.regionDrained r = false → exec (.revokeDrainComplete r) s = .next s)) ∧
  (s.flag F.DOM_CTL_DRAIN_PENDING d = true → s.mappingsDrained d = true →
    ∃ t, exec (.mappingDrainComplete d) s = .next t ∧ Sets { s with drains := s.drains.del d } t [F.DOM_CTL_DRAIN_PENDING.is 0 d])

/--  R110, R265, R298, R319, R408: the reads that clear return the word as it was and restart its peak: at 0, or at the free count of the pool. R257: a
buffer that has been zeroed is free. -/
def Obligations.ReadsThatClear : Prop := ∀ (s : State) (n i : Nat) (b : Buf),
  (∃ t, exec .eddyPeakRead s = .next t ∧
    Sets { s with out := s.out ++ [readMsg [F.TP_QUEUE_STAT_EDDY_PEAK.key 0 0, (s.word (F.TP_QUEUE_STAT_EDDY_PEAK.key 0 0)).toNat]] } t
      [F.TP_QUEUE_STAT_EDDY_PEAK.is 0]) ∧
  (n < 16 → ∃ t, exec (.lowFreeRead n) s = .next t ∧
    Sets { s with out := s.out ++ [readMsg [F.POOL_STATUS_LOW_FREE.key n 0, (s.word (F.POOL_STATUS_LOW_FREE.key n 0)).toNat]] } t
      [F.POOL_STATUS_LOW_FREE.is (s.poolFree n) n]) ∧
  (n < 256 → ∃ t v, exec (.waitPeakRead n) s = .next t ∧ bits v 15 0 = bits (s.word (F.STR_ERR_WAIT_NOW.key n 0)).toNat 15 0 ∧
    bits v 31 16 = min 65535 (s.waiters n).length ∧ bits v 63 32 = bits (s.word (F.STR_ERR_WAIT_NOW.key n 0)).toNat 63 32 ∧
    Sets { s with out := s.out ++ [readMsg [F.STR_ERR_WAIT_NOW.key n 0, v]] } t [F.STR_ERR_WAIT_PEAK.is 0 n]) ∧
  (n < 16 → ∃ t, exec (.zqRunsRead n) s = .next t ∧
    Sets { s with out := s.out ++ [readMsg [F.CH_REFRESH_ZQ_RUNS.key n 0, (s.word (F.CH_REFRESH_ZQ_RUNS.key n 0)).toNat]] } t
      [F.CH_REFRESH_ZQ_RUNS.is 0 n]) ∧
  (∃ t v, exec .timeErrMaxRead s = .next t ∧ bits v F.STK_TIME_TIME_ERR_MAX.hi F.STK_TIME_TIME_ERR_MAX.lo = s.f F.STK_TIME_TIME_ERR_MAX ∧
    Sets { s with out := s.out ++ [readMsg [F.STK_TIME_TIME_ERR_MAX.key 0 0, v]] } t [F.STK_TIME_TIME_ERR_MAX.is 0]) ∧
  (s.buf? (n * 2 ^ 20 + i) = some b → b.st = .zeroing → s.f F.POOL_STATUS_STATE n = 1 → ∃ t, exec (.zeroingDone n i) s = .next t ∧
    t = { s with bufs := t.bufs } ∧ t.buf? (n * 2 ^ 20 + i) = none ∧ ∀ k, k ≠ n * 2 ^ 20 + i → t.buf? k = s.buf? k)

/-! DRAM channels (R30, R302 to R317). -/

/--  R303, R308 to R310, R314: a request joins its channel and wakes its rank, a read behind a queued write of its line is served from the newest data; a
command slot issues the one request that waits and opens its row; clean read data are delivered as memory has them, and an uncorrectable line is
counted, reported and poisoned; a rank with no request enters power-down and closes its row. None changes a byte of memory. R30, R307, R311, R312,
R316, R317: a refresh wakes every rank and closes the rows; a calibration's correction is bounded by CAL_LIMIT; a ZQ latch is counted; the hottest
module is TEMP_C; a scrub read goes on; a line on the medium settles the write that waits for it. The model's choices that it rests on: log entries
132, 133 and 134. -/
def Obligations.DramChannels : Prop :=
  (∀ (s : State) (c port id line sub rank row ns : Nat) (data : List Byte), s.trained c = true → port ≤ 6 →
  sub < 2 → rank < s.f F.CH_STATUS_RANKS c →
  let x := s.chan c
  let n := sub * 8 + rank
  let q (w : Bool) : DReq := ⟨port, id, line, sub, rank, row, w, data, 0, false⟩
  let fresh := (x.reqs.any fun y => y.id == id) = false ∧ (x.issued.any fun e => e.1.id == id) = false
  (fresh → (x.reqs.any fun y => y.isWrite && y.line == line) = false → ∃ t, exec (.dramRequest c port id line sub rank row false data) s = .next t ∧
    ChanNow s t c { x with reqs := x.reqs ++ [q false], issued := x.issued, asleep := x.asleep.filter (· != n) }) ∧
  (∀ y, fresh → (x.reqs.filter fun y => y.isWrite && y.line == line).getLast? = some y →
    ∃ t, exec (.dramRequest c port id line sub rank row false data) s = .next t ∧ ChanNow s t c { x with last := some (id, y.data) }) ∧
  (fresh → (x.reqs.filter fun y => y.isWrite && y.sub == sub).length < 64 →
    ∃ t, exec (.dramRequest c port id line sub rank row true data) s = .next t ∧
      ChanNow s t c { x with reqs := x.reqs ++ [q true], asleep := x.asleep.filter (· != n),
                             issued := x.issued.map fun e => if e.1.line = line then (e.1, true) else e }) ∧
  (∀ w, x.reqs = [q w] → x.calRun ≠ 1 → x.zqRun = false → s.flag F.CH_STATUS_THROTTLED c = false → s.flash.run = none → 2 * ns < s.portNs port →
    ∃ t y, exec (.dramCommandSlot c sub ns) s = .next t ∧ t = { s with chans := t.chans, recd := t.recd } ∧ t.chan c = y ∧ y.reqs = [] ∧
      y.issued = (if w then x.issued else x.issued ++ [({ q w with age := ns }, false)]) ∧ y.rows.at? n = some row ∧
      ∀ k, k ≠ c → t.chan k = s.chan k) ∧
  (∀ e, x.issued.find? (fun e => e.1.id == id) = some e →
    (∃ t, exec (.dramReadData c id .clean) s = .next t ∧
      ChanNow s t c { x with issued := x.issued.filter fun y => y.1.id != e.1.id, last := some (e.1.id, s.readDram (64 * e.1.line) 64) }) ∧
    (s.regionOfGran (e.1.line / 1024) = none → ∃ t, exec (.dramReadData c id .uncorrectable) s = .next t ∧ t.isPoisoned e.1.line = true ∧
      t.f F.CH_ECC_UNCORR c = satAdd (F.CH_ECC_UNCORR.hi + 1 - F.CH_ECC_UNCORR.lo) (s.f F.CH_ECC_UNCORR c) 1 ∧ MemorySame s t)) ∧
  (s.flag F.DRM_CTL_PD_EN = true → (x.reqs.any fun y => y.sub == sub && y.rank == rank) = false → x.calDue = false → x.calRun ≠ 1 →
    x.zqDue = false → x.zqRun = false → x.asleep.contains n = false →
    ∃ t, exec (.powerDownEntry c sub rank) s = .next t ∧ ChanNow s t c { x with asleep := n :: x.asleep, rows := x.rows.del n })) ∧
  (∀ (s : State) (c sub lane module v line rank : Nat) (drift : Int),
  (s.trained c = true →
    (∃ t y, exec (.refresh c none) s = .next t ∧ Sets { s with chans := t.chans } t [F.CH_REFRESH_REFRESHES.up s c] ∧ t.chan c = y ∧
      y.rows = [] ∧ y.asleep = [] ∧ y.reqs = (s.chan c).reqs ∧ y.zqRun = (s.chan c).zqDue ∧ ∀ k, k ≠ c → t.chan k = s.chan k) ∧
    ((s.chan c).calRun = 1 → -(s.f F.DRM_CAL_CAL_LIMIT : Int) ≤ drift → drift ≤ s.f F.DRM_CAL_CAL_LIMIT →
      ∃ t, exec (.calibrationRefresh c sub lane drift) s = .next t ∧
        Sets { s with chans := t.chans } t [F.CH_CAL_CAL_RUNS.up s c, F.CH_CAL_LAST_DRIFT_PS.is (BitVec.ofInt 16 drift).toNat c,
          F.CH_CAL_MAX_DRIFT_PS.is (max (s.f F.CH_CAL_MAX_DRIFT_PS c) drift.natAbs) c] ∧
        t.chan c = { s.chan c with calRun := 2 }) ∧
    ((s.chan c).calRun = 1 → (s.f F.DRM_CAL_CAL_LIMIT : Int) < drift →
      ∃ t, exec (.calibrationRefresh c sub lane drift) s = .next t ∧
        t.f F.CH_CAL_LAST_DRIFT_PS c = s.f F.DRM_CAL_CAL_LIMIT % 2 ^ 16) ∧
    ((s.chan c).zqRun = true → ∃ t, exec (.zqLatchRefresh c) s = .next t ∧ Sets { s with chans := t.chans } t [F.CH_REFRESH_ZQ_RUNS.up s c] ∧
      t.chan c = { s.chan c with zqRun := false }) ∧
    (module < s.f F.DRM_CTL_MODS_PER_CH → (s.chan c).temps = [] → v < s.f F.DRM_CAL_THROTTLE_C → (s.chan c).mr4Hot = false →
      (s.chan c).tooHot = false → s.flag F.CH_STATUS_HOT c = false → s.flag F.CH_STATUS_THROTTLED c = false →
      ∃ t, exec (.moduleSensorRead c module (some v)) s = .next t ∧
        Sets { s with chans := t.chans, recd := t.recd } t [F.CH_STATUS_TEMP_C.is v c] ∧ (t.chan c).temps = [(module, some v)]) ∧
    (s.flag F.DRM_ECC_SCRUB_EN = true → line < s.moduleLines → s.scrub.1 + 1 < s.moduleLines →
      ∃ t, exec (.patrolScrubRead c line sub rank .clean false) s = .next t ∧ t.scrub = (s.scrub.1 + 1, s.scrub.2) ∧
        t.chan c = { s.chan c with scrubbed := (s.chan c).scrubbed + 1 } ∧ MemorySame s t)) ∧
  (∀ u pid p, s.dram.unsettled = [u] → u.who = .part pid → u.mirror = none → s.tstate ≠ TS.holding → s.parts.at? pid = some p →
    (∀ k, p.org ≠ .thread k) → (∀ e ∈ s.parts, e.2.st ≠ .heldSeal) → u.lines.contains line = true →
    (u.lines.filter (· != line) = [] → ∃ t p', exec (.dramWriteOnMedium line) s = .next t ∧
      t = { s with dram := { s.dram with unsettled := [] }, parts := t.parts } ∧ t.parts.at? pid = some p' ∧
      p' = { p with st := .done, code := 0, result := u.result, doneLen := u.len, solo := u.solo } ∧ ∀ k, k ≠ pid → t.parts.at? k = s.parts.at? k) ∧
    (u.lines.filter (· != line) ≠ [] → exec (.dramWriteOnMedium line) s =
      .next { s with dram := { s.dram with unsettled := [{ u with lines := u.lines.filter (· != line) }] } })))

/-! Streams (R274 to R283, R289, R291, R292). -/

/--  R274, R275, R278, R291, R292, R326: loads and fetches, each in the turn of its rank. The last image of a load that fits is its segment's home and
LOAD_BUSY reads 0; an image that cannot be read ends the load with cause 1. A fetched tile is resident with its bytes in its slot; a tile whose flash
read fails is in recovery for its lines, each asked of the twin; when its recovery runs out it is on the poison list. R279 to R283, R289: the window.
A release is counted at the controller and its count taken over by the other holders; a new FIRST advances the window by one; a schedule instant
inside the window, or at a holder that is not the controller, only moves on, and one just past it forces one release; a stalled read ends TILE_LATE;
the next holder takes over as controller. The model's choices that it rests on: log entries 14, 124, 126, 127 and 129. -/
def Obligations.StreamBlock : Prop :=
  (∀ (s : State) (r seg tile i g j : Nat) (away : List (Nat × Option (List Byte))) (img : List Byte) (w : Slot), r < 256 →
  (s.saving = false → (s.stream r).load = some (i, g) → seg = s.f F.STR_LOAD_SEG_FIRST r + i → s.flashTurn (Config.tileChan r seg 0) 5 = true →
    (s.srcImage away (s.f F.STR_LOAD_SRC_REGION r) g = none →
      ∃ t, exec (.streamLoadImageDone r away) s = .next t ∧ t.f F.STR_LOADSTAT_LOAD_CAUSE r = 1 ∧ t.f F.STR_STATUS_LOAD_BUSY r = 0 ∧
        (t.stream r).load = none ∧ MemorySame s t) ∧
    (s.srcImage away (s.f F.STR_LOAD_SRC_REGION r) g = some img → imgOk (rdList img) seg = true → img.length = rdList img 8 → blocksOk img = true →
      (pairImage img (s.strMine r seg)).length ≤ s.strGran r * granBytes →
      s.homeBytes + (pairImage img (s.strMine r seg)).length ≤ s.f F.FL_CAP_HOME_GIB * 2 ^ 30 → i + 1 = s.f F.STR_LOAD_SEG_N r →
      ∃ t, exec (.streamLoadImageDone r away) s = .next t ∧ (t.stream r).loaded.at? seg = some (pairImage img (s.strMine r seg)) ∧
        (t.stream r).load = none ∧ t.f F.STR_STATUS_LOAD_BUSY r = 0 ∧ (∀ k, k ≠ seg → (t.stream r).loaded.at? k = (s.stream r).loaded.at? k) ∧
        MemorySame s t)) ∧
  (s.slotOfSeg r seg = some (j, w) → (s.stream r).loaded.at? seg = some img → s.saving = false → s.strRunning r = true → s.strMine r seg tile = true →
    tile < imgTiles (rdList img) → w.tiles.contains tile = false → (w.recov.any fun e => e.1 == tile) = false → s.listed r seg tile = false →
    w.bad.contains tile = false →
    let x := tileEnt (rdList img) tile
    (s.fetchTurn r seg tile = true →
      s.flashTurn (Config.tileChan r seg tile) (if (s.waitersOf r seg tile).isEmpty then 5 else 2) = true → x.off + x.slen ≤ img.length → ∃ t w', exec (.tileFetchComplete r seg tile) s = .next t ∧
      (t.stream r).slots.at? j = some w' ∧ w'.pos = w.pos ∧ w'.hdr = true ∧ w'.tiles.contains tile = true ∧
      t.readDram (s.slotBase r j + x.off) x.slen = (img.drop x.off).take x.slen) ∧
    (s.twinAble = true → ∃ t w', exec (.tileFlashReadFail r seg tile) s = .next t ∧ (t.stream r).slots.at? j = some w' ∧ w'.pos = w.pos ∧
      (tile, s.time, linesOf (s.slotBase r j + x.off) x.slen) ∈ w'.recov ∧ w'.tiles = w.tiles)) ∧
  (s.slotOfSeg r seg = some (j, w) → (w.recov.any fun e => e.1 == tile) = true → (∃ k < 256, s.flag F.STR_POISON_PVALID r k = false) →
    seg < 2 ^ 13 → tile < 2 ^ 14 → s.waitersOf r seg tile = [] →
    ∃ t w', exec (.tileRecoveryTimeout r seg tile) s = .next t ∧ t.listed r seg tile = true ∧
      t.f F.STR_ERR_POISONED r = satAdd (F.STR_ERR_POISONED.hi + 1 - F.STR_ERR_POISONED.lo) (s.f F.STR_ERR_POISONED r) 1 ∧
      (t.stream r).slots.at? j = some w' ∧ (w'.recov.any fun e => e.1 == tile) = false)) ∧
  (∀ (s : State) (r seg p dev q tag n pid : Nat) (pt : Part), r < 256 → s.strRunning r = true →
  let x := s.stream r
  (s.controls r = true → x.inherited.contains (dev, q, tag) = false → s.posOf r seg = some p → p < x.first + s.strN r → s.posOk r p = true →
    seg < s.strSegs r → x.counts.get 0 p + 1 < s.f F.STR_RELEASE_QUORUM r → (p ≠ x.first → x.counts.get 0 x.first < s.f F.STR_RELEASE_QUORUM r) →
    ∃ t, exec (.releaseCount r seg dev q tag none) s = .next t ∧ (t.stream r).counts.get 0 p = x.counts.get 0 p + 1 ∧
      (∀ k, k ≠ p → (t.stream r).counts.get 0 k = x.counts.get 0 k) ∧ (t.stream r).first = x.first ∧ t.dram = s.dram) ∧
  (s.strHolds r = true → s.posOf r seg = some p → p < x.first + s.strN r → n ≠ 0 →
    ∃ t, exec (.releaseCount r seg dev q tag (some n)) s = .next t ∧ (t.stream r).counts.get 0 p = n ∧ (t.stream r).first = x.first ∧ t.dram = s.dram) ∧
  (s.strHolds r = true → s.controls r = false →
    ∃ t, exec (.newFirst r (x.first + 1)) s = .next t ∧ (t.stream r).first = x.first + 1 ∧ t.dram = s.dram ∧
      (s.strWrap r = false → s.strSegs r ≤ x.first + 1 → t.strState r = SS.ended)) ∧
  (s.strHolds r = true → s.flag F.STR_RELEASE_SCHED_EN r = true → x.sched < s.f F.STR_RELEASE_SCHED_LEN r →
    let pos := x.pass * s.strSegs r + s.f F.STR_SCHED_SEG r x.sched
    (pos < x.first + s.strN r ∨ s.controls r = false → ∃ t, exec (.scheduleCheck r) s = .next t ∧ t = { s with streams := t.streams } ∧
      t.stream r = { x with sched := x.sched + 1 } ∧ ∀ k, k ≠ r → t.stream k = s.stream k) ∧
    (s.controls r = true → pos = x.first + s.strN r → s.posOk r pos = true → 0 < s.strSegs r →
      ∃ t, exec (.scheduleCheck r) s = .next t ∧ (t.stream r).first = x.first + 1 ∧
        t.f F.STR_STATS_FORCED r = satAdd (F.STR_STATS_FORCED.hi + 1 - F.STR_STATS_FORCED.lo) (s.f F.STR_STATS_FORCED r) 1)) ∧
  (s.parts.at? pid = some pt → s.isWaiter r pt = true → s.slotOfSeg r (tileSeg pt) = none →
    ∃ t p', exec (.tileStallTimeout r pid) s = .next t ∧ t.parts.at? pid = some p' ∧
      p' = { pt with st := .done, code := Code.tileLate, result := 0, doneLen := 0, rdata := [] } ∧ (∀ k, k ≠ pid → t.parts.at? k = s.parts.at? k) ∧
      Sets { s with parts := t.parts, reach := t.reach } t [F.STR_STATS_LATE.up s r]) ∧
  (s.strController r = some s.index → s.controls r = false → s.queues = [] →
    ∃ u, Sets { s with streams := u.streams } u [F.STR_STATUS_CONTROLLER.is 1 r] ∧ u.stream r = { x with inherited := x.recent } ∧
      exec (.streamControllerTakeover r) s = .next (u.event 0x070A [r, s.index])))

/-! Commands of a queue (R114 to R145). -/

/--  R116, R123, R128, R425: an access command that may start makes its part; stated for an access in one piece on this device, which waits there for its
admission. Nothing else changes. The model's choices that it rests on: log entry 20. -/
def Obligations.AccessCommands : Prop := ∀ (s : State) (q tag : Nat) (x : Queue) (c : Cmd) (g : Tgt), c.tgt = some g →
  (∀ op kind n d e i, (op, kind, n, d, e, i) ∈ [(Op.read, PartKind.read, c.length, [], [], Instr.read q tag),
      (Op.write, .write, c.length, c.data.take c.length, [], .write q tag), (Op.writeAtomic, .unit, c.length, c.data.take c.length, [], .writeAtomic q tag),
      (Op.compareWrite, .compare, c.length, (c.data.take c.length).take c.length, c.data.drop c.length, .compareWrite q tag),
      (Op.fetchAdd, .fetchAdd, 8, (toBytes 8 (c.q 3)).take 8, [], .fetchAdd q tag)] →
    MayRun s q tag op x c → 0 < n → g.off % granBytes + n ≤ granBytes →
    (if op = Op.read then s.readDev g.region g.off else s.leadDev g.region g.off) = s.index →
    ∃ t, exec i s = .next t ∧ OnePart s t q tag c (State.newPart (.cmd q tag) kind s.index g.region g.off n d e)) ∧
  (MayRun s q tag Op.append x c → s.leadDev g.region (s.frontier g.region) = s.index →
    ∃ t, exec (.append q tag) s = .next t ∧ OnePart s t q tag c
      { State.newPart (.cmd q tag) .append s.index g.region g.off c.length c.data [] with
        expect := if bit (c.q 0) 9 then some (c.q 3) else none, lim := s.qDomain q }) ∧
  (MayRun s q tag Op.invoke x c → s.leadDev g.region g.off = s.index →
    ∃ t d, exec (.invoke q tag) s = .next t ∧ OnePart s t q tag c (State.newPart (.cmd q tag) .invoke s.index g.region g.off c.length d [])) ∧
  (∀ sel seg tile, MayRun s q tag Op.tileRead x c → sel = c.q 4 → seg = bits (c.q 3) 31 0 → tile = bits (c.q 3) 63 32 →
    (s.tilePart (.cmd q tag) g.region sel seg tile c.length 0).dev = s.index →
    ∃ t, exec (.tileRead q tag) s = .next t ∧ OnePart s t q tag c (s.tilePart (.cmd q tag) g.region sel seg tile c.length 0)) ∧
  (∀ r d, MayRun s q tag Op.segmentRelease x c → s.regionValid g.region = true → s.f F.REG_STATE_REVOKE_STATE g.region = 0 → s.streamOf g.region = some r → s.controls r = false → s.strController r = some d →
    ∃ t, exec (.segmentRelease q tag) s = .next t ∧
      t = { s with queues := t.queues, out := s.out ++ [cas d 0x18 [0x09, r, bits (c.q 3) 31 0, s.index, q, tag]] } ∧
      t.cmd? q tag = some { c with started := true })

/--  R124, R127, R133 to R135, R142, R143, R145: ABORT of a command that has not started gives both ABORTED, and one without a target completes with
ABORT_NO_TARGET; ELOG_READ of an empty log and QUEUE_RESTART with the right FREEZE_SEQ complete; KILL puts the queue into ERROR; the log's selectors
take their values; a CLOSING queue without commands is FREE. The model's choices that it rests on: log entries 48, 53 and 177. -/
def Obligations.QueueControl : Prop := ∀ (s : State) (q tag : Nat) (x : Queue) (c e : Cmd) (v : U64),
  (MayRun s q tag Op.abort x c → c.parts = [] →
    let target := bits (c.q 3) 15 0
    (target = tag → ∃ t, exec (.abort q tag) s = .next t ∧
      t.cmd? q tag = some { c with started := true, outcome := some ⟨0x04, 0, BitVec.ofNat 64 target, 0, 0⟩ } ∧ t.parts = s.parts ∧ t.dram = s.dram) ∧
    (target ≠ tag → s.cmd? q target = some e → e.outcome = none → e.started = false → e.op ≠ Op.elogRead → e.op ≠ Op.abort → e.parts = [] →
      ∃ t, exec (.abort q tag) s = .next t ∧ t.parts = s.parts ∧ t.dram = s.dram ∧
        t.cmd? q tag = some { c with started := true, abort := some target, outcome := some ⟨0x02, 0, BitVec.ofNat 64 target, 0, 0⟩ } ∧
        t.cmd? q target = some { e with outcome := some ⟨0x02, 0, 0, 0, 0⟩, hold := none, awaiting := [] })) ∧
  (MayRun s q tag Op.elogRead x c → x.elog = [] → c.parts = [] → ∃ t, exec (.elogRead q tag) s = .next t ∧ t.dram = s.dram ∧ t.parts = s.parts ∧
    t.out = s.out ∧ t.cmd? q tag = some { c with started := true, sent := true, awaiting := [], outcome := some ⟨0, min 255 (s.f F.Q_SEQ_ELOG_NEXT q - c.q 3), BitVec.ofNat 64 (s.f F.Q_SEQ_ELOG_NEXT q % 2 ^ 32), 0, 0⟩ }) ∧
  (MayRun s q tag Op.queueRestart x c → c.parts = [] → s.qState q = QS.frozen → c.q 3 = s.f F.Q_STATUS_FREEZE_SEQ q → q < 270336 →
    ∃ t, exec (.queueRestart q tag) s = .next t ∧ t.qState q = QS.ready ∧ t.cmd? q tag = some { c with started := true, outcome := some ⟨0, 0, 0, 0, 0⟩ } ∧
      t.dram = s.dram ∧ t.parts = s.parts) ∧
  (s.qState q = QS.ready ∨ s.qState q = QS.frozen → q < 270336 → ∃ t, exec (.kill q) s = .next t ∧ t.qState q = QS.error ∧ t.dram = s.dram) ∧
  OnlySets (.elogWordSelect q v) s [F.Q_CMD_ELOG_SEL.is (bits v.toNat 15 12) q, F.Q_CMD_ELOG_WORD.is (bits v.toNat 11 9) q] ∧
  (s.queue? q = some x → s.qState q = QS.closing → x.cmds = [] → s.firedTags q = [] → q < 270336 → ∃ t, exec (.queueCloseDone q) s = .next t ∧ t.qState q = QS.free ∧
    t.queue? q = none ∧ (∀ k, k ≠ q → t.queue? k = s.queue? k) ∧ (t.fiddles.any fun f => f.2.q == q) = false ∧ t.dram = s.dram)

/--  R22, R23, R31, R116, R121, R125, R126, R128, R130: a part of a VOLATILE region this device leads is performed when it is admitted: a read takes the
bytes, a write changes exactly its bytes; when it comes home its command has its outcome; the completion writes the entry and frees the tag. A HOLD is
answered, and ends in a cancel or a release; a caught command ends ABORTED. The model's choices that it rests on: log entries 20, 21 and 53. -/
def Obligations.PartsAndCompletions : Prop := ∀ (s : State) (pid q tag src dev : Nat) (p : Part) (x : Queue) (c : Cmd),
  let mine (e : Nat × Part) : Bool := e.2.grp == tag && State.sameHome e.2.org (.remote src tag)
  (PartIs s pid p → p.org = .cmd q tag → p.dev = s.index → p.st = .waiting → p.onHold = false → s.mates p = [(pid, p)] → p.cnt = 1 →
    s.admissionHeld = false → s.isVolatile p.region = true → s.leadDev p.region p.off = s.index → s.regionValid p.region = true →
    s.f F.REG_STATE_REVOKE_STATE p.region = 0 → s.admit6 p.region p.off (partWrites p.kind) = .pass → p.chunks = [] → CachesSound s →
    s.sealWaits p.region p.off p.len = false → (∀ l ∈ linesOf (s.place p.region p.off).2 p.len, s.isPoisoned l = false) →
    (p.kind = .read → ∃ t p', exec (.partAdmission pid) s = .next t ∧ PartIs t pid p' ∧ p'.st = .done ∧ p'.code = 0 ∧ p'.doneLen = p.len ∧
      p'.rdata = s.readDram (s.place p.region p.off).2 p.len ∧ MemorySame s t ∧ t.queues = s.queues) ∧
    (p.kind = .write → s.writeBlocked pid p = false → p.data.length = p.len →
      ∃ t p', exec (.partAdmission pid) s = .next t ∧ PartIs t pid p' ∧ p'.st = .done ∧ p'.code = 0 ∧ p'.doneLen = p.len ∧ t.queues = s.queues ∧
        ∀ a, t.dram.mem.get 0 a = if (s.place p.region p.off).2 ≤ a ∧ a < (s.place p.region p.off).2 + p.len
          then p.data.getD (a - (s.place p.region p.off).2) 0 else s.dram.mem.get 0 a)) ∧
  (PartIs s pid p → p.org = .thread tag → p.st = .done → p.reported = false → p.onHold = false →
    ∃ t, exec (.partCompletion pid) s = .next t ∧ OnlyPart s t pid { p with reported := true }) ∧
  (PartIs s pid p → p.org = .cmd q tag → p.st = .done → p.reported = false → p.onHold = false → p.code = 0 → s.cmd? q tag = some c → c.op = Op.write → c.parts = [pid] →
    c.outcome = none → ∃ t, exec (.partCompletion pid) s = .next t ∧ t.cmd? q tag = some { c with outcome := some ⟨0, 0, 0, p.doneLen, 0⟩ } ∧
      PartIs t pid { p with reported := true } ∧ t.dram = s.dram ∧ t.out = s.out) ∧
  (s.queue? q = some x → (x.cmds.find? fun c => c.tag == tag) = some c → State.mayComplete x c = true → s.fiddles = [] → q < 270336 →
    ∃ t, exec (.commandCompletion q tag) s = .next t ∧ t.cmd? q tag = none ∧ t.dram = s.dram ∧
      t.f F.Q_SEQ_QSEQ_NEXT q = (s.f F.Q_SEQ_QSEQ_NEXT q + 1) % 2 ^ 32 ∧ ∀ k ∈ c.parts, t.parts.at? k = none) ∧
  (s.parts.filter mine = [] → ∃ t, exec (.partHold src tag) s = .next t ∧ Sent s t [⟨.holdAnswer, src, [tag, 0], []⟩]) ∧
  (s.parts.filter mine = [(pid, p)] → PartIs s pid p →
    (State.catchable p = false → ∃ t, exec (.partHold src tag) s = .next t ∧ Sent s t [⟨.holdAnswer, src, [tag, 0], []⟩]) ∧
    (State.catchable p = true → p.kind ≠ .invoke → (s.eng.threads.vals.any fun h => h.start == Start.remote src tag) = false →
      ∃ t, exec (.partHold src tag) s = .next t ∧ PartIs t pid { p with onHold := true } ∧
        t.out = s.out ++ [⟨.holdAnswer, src, [tag, 1], []⟩] ∧ t.dram = s.dram ∧ t.queues = s.queues) ∧
    exec (.partCancelOrRelease src tag true) s = .next { s with parts := s.parts.filter fun e => !mine e } ∧
    ∃ t, exec (.partCancelOrRelease src tag false) s = .next t ∧ OnlyPart s t pid { p with onHold := false }) ∧
  (∀ who, s.cmd? q tag = some c → c.hold = some who → who ≠ 65536 → who ≠ tag → c.asked = [dev] → c.answers = [] → c.parts = [pid] → PartIs s pid p →
    p.dev = dev → dev ≠ s.index → p.st = .forwarded → s.targetOpen q c = true → ∃ t d, exec (.partHoldAnswer q tag dev true) s = .next t ∧ t.cmd? q tag = some d ∧
      d.outcome = some ⟨0x02, 0, 0, 0, 0⟩ ∧ PartIs t pid { p with st := .cancelled } ∧ t.dram = s.dram)

/-! The remote access transport (R79 to R110). -/

/--  R82 to R88, R96, R97, R115: braid packets. One that fails the checks of R82 is dropped and counted; a duplicate is answered with a SACK and does
nothing else; a PSN 16,384 or more beyond is discarded and counted. The next one in order is counted; a message that admission refuses is answered
with RNR; an admitted WRITE, READ_REQ or ATOMIC makes its part, a capsule its command; a tag in use or a full queue puts the queue into ERROR. The
model's choices that it rests on: log entries 41, 42, 174 and 178. -/
def Obligations.BraidMessages : Prop := ∀ (s : State) (q : Nat) (h : BraidHdr) (x : Queue) (d : List Byte), s.queue? q = some x →
  let sized : List (Instr × Nat × Nat) := [(.braidWrite h d, h.msgLen, Pkt.write), (.braidReadReq h (d.take 8) (d.drop 8), 16, Pkt.readReq),
    (.braidCapsule h d, h.msgLen, Pkt.capsule), (.braidAtomic h (d.take 8) ((d.drop 8).take 8) (d.drop 16), 24, Pkt.atomic)]
  let y : Queue := { x with rxNext := (h.psn + 1) % 2 ^ 32, rxSeen := [], sinceSack := x.sinceSack + 1, lastTs := h.ts, lastUse := s.time }
  let u := s.setQueue q y
  let after := State.psnAfter 32 h.psn x.rxNext
  (∀ e ∈ sized, State.braidGood h e.2.2 = false → s.braidHere h = true → exec e.1 s = .next (Dropped s)) ∧
  (∀ e ∈ sized, s.braidQueue h e.2.2 = some q → s.msg? q h.msn = none →
    (2 ^ 31 ≤ after ∨ h.psn ∈ x.rxSeen → ∃ t, exec e.1 s = .next t ∧
      QueueNow { s with out := s.out ++ [ctlMsg s q x (s.peerQn q) [Pkt.sack, x.rxNext, State.sackMap x.rxNext x.rxSeen, h.ts]] } t q
        { x with sinceSack := 0, lastTs := h.ts }) ∧
    (16384 ≤ after → after < 2 ^ 31 → h.psn ∉ x.rxSeen → exec e.1 s = .next (Dropped s))) ∧
  (InOrder s q x h →
    (∀ e ∈ sized, ∀ c us, s.braidQueue h e.2.2 = some q → u.refuseSize q e.2.1 = some (c, us) → ∃ t, exec e.1 s = .next t ∧ t.parts = s.parts ∧
      t.dram = s.dram ∧ t.out = s.out ++ [ctlMsg s q x (s.peerQn q) [Pkt.rnr, h.msn, c, us]] ∧
      t.f F.TP_SIG_STAT_RNR_SENT = satAdd 32 (s.f F.TP_SIG_STAT_RNR_SENT) 1 ∧
      t.queue? q = some { y with rnr := (h.msn, s.time + 1000 * us) :: x.rnr.filter fun e => e.1 != h.msn }) ∧
    (∀ i kind pk pay acc n need w w' g, (i, kind, pk, pay, acc, n, need, w, w') ∈
        ([(.braidWrite h d, Pkt.write, .write, h.msgLen, h.msgLen, d.length, .write, d, []),
          (.braidReadReq h (d.take 8) (d.drop 8), Pkt.readReq, .read, 16, h.msgLen, h.msgLen, .read, [], []),
          (.braidAtomic h (d.take 8) ((d.drop 8).take 8) (d.drop 16), Pkt.atomic, .compare, 24, 8, 8, .atomic, d.take 8, (d.drop 8).take 8),
          (.braidAtomic h (d.take 8) ((d.drop 8).take 8) (d.drop 16), Pkt.atomic, .fetchAdd, 24, 8, 8, .atomic, d.take 8, [])] :
          List (Instr × Nat × PartKind × Nat × Nat × Nat × Need × List Byte × List Byte)) →
      s.braidQueue h kind = some q → (kind = Pkt.write ∨ h.pktOff = 0) → (kind = Pkt.readReq → d.length = 16) →
      (kind = Pkt.atomic → d.length = 24 ∧ h.msgLen = 8 ∧ h.addr.toNat % 8 = 0 ∧ (d.getD 16 0).toNat = if pk = .compare then 1 else 2) →
      0 < n → h.pktOff + n ≤ h.msgLen → h.msgLen ≤ 2 ^ 28 → h.addr.toNat < 2 ^ 52 → u.refuseSize q pay = none →
      (need ≠ .read → u.refuseTarget q h.addr.toNat acc = none) →
      (u.checkAccess q h.key.toNat h.addr.toNat acc need (u.durablePort h.port h.relay)).2 = (0, some g) → (g.off + h.pktOff) % granBytes + n ≤ granBytes →
      (if need = .read then s.readDev g.region (g.off + h.pktOff) else s.leadDev g.region (g.off + h.pktOff)) = s.index →
      ∃ t, exec i s = .next t ∧ MsgTaken s t q h.msn kind h.msgLen n g
        { State.newPart (.msg q h.msn) pk s.index g.region (g.off + h.pktOff) n w w' with moff := h.pktOff }) ∧
    (s.braidQueue h Pkt.capsule = some q → u.refuseSize q h.msgLen = none → h.pktOff = 0 → d.length = h.msgLen →
      u.capsuleRefused q (State.capsuleWords d) = none →
      ((s.tagsInUse q).contains h.tag = false → (s.tagsInUse q).length < s.qDepth q → ∃ t, exec (.braidCapsule h d) s = .next t ∧
        CmdTaken t q h.msn h.tag (State.capsuleWords d) (d.drop 64) ∧ t.dram = s.dram ∧ t.parts = s.parts) ∧
      ((s.tagsInUse q).contains h.tag = true ∨ s.qDepth q ≤ (s.tagsInUse q).length → s.qState q = QS.ready →
        ∃ t, exec (.braidCapsule h d) s = .next t ∧ t.qState q = QS.error)))

/--  R92 to R95, R97, R115: RoCE requests. A packet beyond the expected PSN causes one NAK, which waits while its port is paused; a duplicate of an
answered message is acknowledged again; an opcode that R92 does not list is answered with an invalid-request NAK; a refused message is answered with
an RNR NAK and stays unreceived; an admitted RDMA WRITE, RDMA READ, compare-and-swap or fetch-add makes its part, and a SEND its command. The model's
choices that it rests on: log entries 19 and 45. -/
def Obligations.CompatMessages : Prop := ∀ (s : State) (q : Nat) (h : RoceHdr) (x : Queue) (d : List Byte) (a b : U64),
  s.roceQueue h = some q → s.queue? q = some x →
  let sized : List (Instr × Nat × Nat) := [(.compatRdmaWrite h d, h.msgLen, 1), (.compatRdmaRead h, 16, s.readPsns h.msgLen),
    (.compatSend h d, h.msgLen, 1), (.compatCompareSwap h a b, 24, 1), (.compatFetchAdd h a, 24, 1)]
  let y (n : Nat) : Queue := { x with rxNext := (x.rxNext + n) % 2 ^ 24, nakSent := false, lastUse := s.time }
  let u (n : Nat) := s.setQueue q (y n)
  let after := State.psnAfter 24 h.psn x.rxNext
  let paused := s.portBit F.LNK_STATUS_PORT_PAUSED (s.compatTx q)
  let nak (l : List Nat) : Msg := s.compatMsg q (Roce.nak :: l) []
  (h.psn ≠ x.rxNext → after < 2 ^ 23 → ∀ e ∈ sized,
    (x.nakSent = false → paused = false → ∃ t, exec e.1 s = .next t ∧
      QueueNow { s with out := s.out ++ [nak [x.rxNext, 0]] } t q { x with nakSent := true }) ∧
    (x.nakSent = false → paused = true → ∃ t, exec e.1 s = .next t ∧
      QueueNow { s with tp := { s.tp with paused := s.tp.paused ++ [(s.compatTx q, nak [x.rxNext, 0])] } } t q { x with nakSent := true }) ∧
    (x.nakSent = true → exec e.1 s = .next s)) ∧
  (h.psn ≠ x.rxNext → 2 ^ 23 ≤ after → ∀ e ∈ sized,
    (s.msg? q h.msn = none → exec e.1 s = .next s) ∧
    (∀ m, s.msg? q h.msn = some m → (m.closed = false → exec e.1 s = .next s) ∧
      (m.closed = true → m.kind = Pkt.write → m.code = 0 → paused = false → ∃ t, exec e.1 s = .next t ∧ Sent s t [s.compatMsg q [Roce.ack, m.psn] []]))) ∧
  (h.psn = x.rxNext → h.known = false → paused = false → ∀ e ∈ sized, ∃ t, exec e.1 s = .next t ∧
    QueueNow { s with out := s.out ++ [nak [h.psn, 2]] } t q (y e.2.2)) ∧
  (h.psn = x.rxNext → h.known = true → h.first = true → s.msg? q h.msn = none → (∀ m ∈ x.msgs, m.closed = true) →
    (∀ e ∈ sized, ∀ c us, (u e.2.2).refuseSize q e.2.1 = some (c, us) → paused = false → ∃ t, exec e.1 s = .next t ∧ t.parts = s.parts ∧ t.dram = s.dram ∧
      t.out = s.out ++ [nak [h.psn, 4, State.rnrCode us]] ∧ t.queue? q = some { x with rxNext := h.psn, nakSent := false, lastUse := s.time }) ∧
    (∀ i kind pk pay acc n len psns need w w' g, (i, kind, pk, pay, acc, n, len, psns, need, w, w') ∈
        ([(.compatRdmaWrite h d, Pkt.write, .write, h.msgLen, h.msgLen, d.length, h.msgLen, 1, .write, d, []),
          (.compatRdmaRead h, Pkt.readReq, .read, 16, h.msgLen, h.msgLen, h.msgLen, s.readPsns h.msgLen, .read, [], []),
          (.compatCompareSwap h a b, Pkt.atomic, .compare, 24, 8, 8, 8, 1, .atomic, toBytes 8 a.toNat, toBytes 8 b.toNat),
          (.compatFetchAdd h a, Pkt.atomic, .fetchAdd, 24, 8, 8, 8, 1, .atomic, toBytes 8 a.toNat, [])] :
          List (Instr × Nat × PartKind × Nat × Nat × Nat × Nat × Nat × Need × List Byte × List Byte)) →
      h.pktOff = 0 → (kind = Pkt.atomic → h.addr.toNat % 8 = 0) → 0 < n → n ≤ len → h.addr.toNat < 2 ^ 52 → (u psns).refuseSize q pay = none →
      (need ≠ .read → (u psns).refuseTarget q h.addr.toNat acc = none) →
      ((u psns).checkAccess q h.rkey.toNat h.addr.toNat acc need (s.durablePort h.port none)).2 = (0, some g) → g.off % granBytes + n ≤ granBytes →
      (if need = .read then s.readDev g.region g.off else s.leadDev g.region g.off) = s.index →
      ∃ t, exec i s = .next t ∧ MsgTaken s t q h.msn kind len n g (State.newPart (.msg q h.msn) pk s.index g.region g.off n w w')) ∧
    ((u 1).refuseSize q h.msgLen = none → h.pktOff = 0 → h.last = true → d.length = h.msgLen → (u 1).capsuleRefused q (State.capsuleWords d) = none →
      let tag := bits ((State.capsuleWords d).getD 0 0).toNat 31 16
      (s.tagsInUse q).contains tag = false → (s.tagsInUse q).length < s.qDepth q → ∃ t, exec (.compatSend h d) s = .next t ∧
        CmdTaken t q h.msn tag (State.capsuleWords d) (d.drop 64) ∧ t.dram = s.dram ∧ t.parts = s.parts))

/--  R82, R86 to R92, R95, R97, R143: acknowledgement. What a SACK or an ACK covers leaves the flight, kept while its message waits; a SACK is due after
packets; a refused message waits whole, in the order of its offsets, and goes again with new PSNs; a packet whose RTO has passed goes again, marked,
and the last try puts the queue into ERROR, as a NAK does; a path comes back; a control frame with a bad VER or BCRC is dropped. The smoothed times a
SACK leaves are free values. The model's choices that it rests on: log entries 44, 45, 200 and 201. -/
def Obligations.Acknowledgements : Prop := ∀ (s : State) (c : CtlHdr) (dq q psn cum msn us now path ts : Nat) (x : Queue) (map : U64),
  s.homed dq = some q → s.homed c.rq = some q → s.queue? q = some x →
  let good : Bool := c.crcOk && c.ver == 1
  let got (p : TxPkt) : Bool := decide (2 ^ 31 ≤ State.psnAfter 32 p.psn cum) ||
    (decide (1 ≤ State.psnAfter 32 p.psn cum ∧ State.psnAfter 32 p.psn cum ≤ 64) && map.getLsbD (State.psnAfter 32 p.psn cum - 1))
  let left (f : TxPkt → Bool) : List Cmd := x.cmds.map fun c =>
    { c with awaiting := c.awaiting.filter fun a => !((x.tx.filter f).map TxPkt.psn).contains a }
  let acked (f : TxPkt → Bool) : Queue := { x with
    tx := x.tx.filter fun p => !f p, cmds := left f, lastUse := if x.tx.filter f = [] then x.lastUse else s.time
    kept := (x.kept ++ x.tx.filter f).filter fun p => (x.tx.filter fun y => !f y).any fun y => y.send == p.send }
  let mine (p : TxPkt) : Bool := p.msg.arg 4 == msn
  (good = true → (∀ p ∈ x.tx, p.buf = none) →
    (∀ p ∈ x.tx, got p = false → ∀ e ∈ x.tx, got e = true → e.sentUs ≤ p.sentUs + s.f F.TP_PATH_REORDER_TOL) →
    ∃ t, exec (.braidSack c cum map ts now) s = .next t ∧
      QueueNow s t q { acked got with rtt := some (Config.smoothRtt x.rtt ((s.time + 2 ^ 32 - ts % 2 ^ 32) % 2 ^ 32)) }) ∧
  (good = false → ∀ i ∈ [Instr.braidSack c cum map ts now, .braidRnr c msn us, .braidEcho ⟨c, us⟩ now], exec i s = .next (Dropped s)) ∧
  (good = true → ∃ t r, exec (.braidRnr c msn us) s = .next t ∧ QueueNow s t q
      { x with tx := x.tx.filter fun p => !mine p, kept := x.kept.filter fun p => !mine p, refused := x.refused ++ r } ∧
    (∀ e ∈ r, e.1 = s.time + 1000 * us ∧ e.2 ∈ x.kept ++ x.tx ∧ mine e.2 = true) ∧
    (∀ p ∈ x.kept ++ x.tx, mine p = true → ∃ e ∈ r, e.2.msg.arg 9 = p.msg.arg 9) ∧ r.Pairwise fun a b => a.2.msg.arg 9 < b.2.msg.arg 9) ∧
  (0 < x.sinceSack → ∃ t, exec (.sackTimer dq) s = .next t ∧
    QueueNow { s with out := s.out ++ [ctlMsg s q x (s.peerQn q) [Pkt.sack, x.rxNext, State.sackMap x.rxNext x.rxSeen, x.lastTs]] } t q
      { x with sinceSack := 0 }) ∧
  (x.sinceSack = 0 → exec (.sackTimer dq) s = .next s) ∧
  (∀ p, s.isBraid q = true → (x.tx.find? fun p => p.psn == psn) = some p →
    (1000 * now < 1000 * p.sentUs + s.rto x p → exec (.retransmitTimeout dq psn now) s = .next s) ∧
    (1000 * p.sentUs + s.rto x p ≤ 1000 * now →
      (p.tries ≤ s.f F.TP_BRAID_RETRY_MAX → ∃ t y m, exec (.retransmitTimeout dq psn now) s = .next t ∧ t.queue? q = some y ∧ t.out = s.out ++ [m] ∧
        (14 ≤ p.msg.args.length → m.arg 1 = p.msg.arg 1 ∧ m.arg 3 = 1 ∧ m.arg 12 = s.time % 2 ^ 32) ∧ m.data = p.msg.data ∧
        (∃ p' ∈ y.tx, p'.psn = psn ∧ p'.tries = p.tries + 1 ∧ p'.sentUs = now ∧ p'.msg = m) ∧ y.cmds = x.cmds ∧ t.dram = s.dram ∧
        t.f F.TP_TX_STAT_RETX_PKTS = satAdd 32 (s.f F.TP_TX_STAT_RETX_PKTS) 1) ∧
      (s.f F.TP_BRAID_RETRY_MAX < p.tries → s.qState q = QS.ready → ∃ t, exec (.retransmitTimeout dq psn now) s = .next t ∧ t.qState q = QS.error))) ∧
  (∀ p until_, (x.tx.find? fun p => p.psn == psn) = none → x.refused = [(until_, p)] → p.psn = psn → until_ ≤ now * 1000 → x.cmds = [] → s.eng.threads = [] →
    let m := s.resent q p p.path
    let again : TxPkt := { p with psn := x.txNext, tries := 1, sentUs := now, msg := { m with args := (m.args.set 1 x.txNext).set 3 0 } }
    ∃ t, exec (.retransmitTimeout dq psn now) s = .next t ∧ QueueNow { s with out := s.out ++ [again.msg] } t q
      { x with refused := [], txNext := (x.txNext + 1) % 2 ^ 32, tx := x.tx ++ [again] }) ∧
  (∀ p, x.paths.at? path = some p → ∃ t y, exec (.pathHoldoffExpiry dq path) s = .next t ∧ QueueNow s t q { x with paths := y } ∧
    y.at? path = some { p with held := false } ∧ ∀ k, k ≠ path → y.at? k = x.paths.at? k) ∧
  (s.isBraid q = false →
    ((∀ p ∈ x.tx, p.buf = none) → ∃ t, exec (.compatAck dq psn) s = .next t ∧ QueueNow s t q (acked fun p => decide (State.psnAfter 24 psn p.psn < 2 ^ 23))) ∧
    (s.qState q = QS.ready → ∃ t, exec (.compatNak dq) s = .next t ∧ t.qState q = QS.error) ∧
    (x.tx ≠ [] → (∀ p ∈ x.tx, p.tries ≤ s.f F.TP_COMPAT_COMPAT_RETRY) → s.portBit F.LNK_STATUS_PORT_PAUSED (s.compatTx q) = false →
      ∃ t, exec (.compatAckTimeout dq) s = .next t ∧
        t.out = s.out ++ x.tx.map TxPkt.msg ∧ t.queue? q = some { x with tx := x.tx.map fun p => { p with tries := p.tries + 1 } } ∧ t.dram = s.dram ∧
        t.f F.TP_TX_STAT_RETX_PKTS = satAdd 32 (s.f F.TP_TX_STAT_RETX_PKTS) x.tx.length) ∧
    (∀ p ∈ x.tx, s.f F.TP_COMPAT_COMPAT_RETRY < p.tries → s.qState q = QS.ready → ∃ t, exec (.compatAckTimeout dq) s = .next t ∧ t.qState q = QS.error))

/--  R79, R80, R107, R109, R388, R393: host frames. What the FEC found is counted; a malformed frame, one without a buffer, and a datagram to another UDP
port are dropped and counted; an address of the device's own is answered for; a packet for an absent device is dropped and counted with an event, one
for another device goes over the cascade. R99, R100: an echo or CNP cuts the rate of its destination, the timer raises the rates, a context at the
line rate is freed. R95, R107: PFC, and what waited for it; a long pause. R101 to R104: a packet of a queue that is not resident is parked, its
fetched context takes it out, a timeout drops it, or refuses its message once in compatible mode. The model's choices that it rests on: log entries
46, 51, 52, 160, 176, 196 and 203. -/
def Obligations.FramesAndRates : Prop := ∀ (s : State) (f : HostFrame) (c : CtlHdr) (addr src : BitVec 128) (dq psn sq bytes dest now q : Nat) (ce : Bool)
    (x : Queue),
  let fec : List (Fld × Nat × Nat × Nat) := [F.LNK_FEC_FEC_CORR.up s (f.port / 8) f.fecCorr, F.LNK_FEC_FEC_UNCORR.up s (f.port / 8) f.fecUncorr]
  let heard : State := if f.fecUncorr = 0 then s else s.reachEvent 0x0104 f.port [f.port / 8, f.port % 8] f.fecUncorr
  (∀ i ∈ [Instr.hostFrameReceive f, .hostRelay f none],
    (s.portServes f.port = false → exec i s = .next s) ∧
    (s.portServes f.port = true →
      (f.noBuf = true → ∃ t, exec i s = .next t ∧ Sets heard t (fec ++ [F.LNK_DROP_RX_NOBUF.up s (f.port / 8)])) ∧
      (f.noBuf = false → f.fcsOk = false ∨ 9216 < f.bytes ∨ 1 < f.tags ∨ f.ipOptions = true ∨ f.fragment = true →
        ∃ t, exec i s = .next t ∧ Sets heard t (fec ++ [F.LNK_DROP_RX_FCS_ERR.up s (f.port / 8)])) ∧
      (f.noBuf = false → f.fcsOk = true → f.bytes ≤ 9216 → f.tags ≤ 1 → f.ipOptions = false → f.fragment = false →
        (f.payload = .icmpOther → ∃ t, exec i s = .next t ∧ Sets heard t fec) ∧
        (f.payload = .solicit addr → s.ownAddr addr = true → ∃ u t, Sets heard u fec ∧ exec i s = .next t ∧
          Sent u t [⟨.ether, f.port, [1, addr.toNat, s.f F.LNK_MAC_MAC_BASE (f.port / 8) + f.port % 8], []⟩]) ∧
        (f.payload = .echo addr → s.ownAddr addr = true → s.time < s.icmp.1 + 10 ^ 9 → s.icmp.2 < 1000 → ∃ u t, Sets heard u fec ∧ exec i s = .next t ∧
          Sent { u with icmp := (s.icmp.1, s.icmp.2 + 1) } t [⟨.ether, f.port, [2, addr.toNat], []⟩]) ∧
        (∀ n, f.payload = .udp src n dq psn sq ce bytes → n ≠ s.f F.TP_BRAID_BRAID_UDP → n ≠ 4791 →
          ∃ t, exec i s = .next t ∧ Sets heard t (fec ++ [F.LNK_DROP_RX_FCS_ERR.up s (f.port / 8)])) ∧
        (f.payload = .udp src (s.f F.TP_BRAID_BRAID_UDP) dq psn sq false bytes → s.f F.TP_BRAID_BRAID_UDP ≠ 4791 →
          (s.present (dq / 2 ^ 19 % 64) = false → ∃ u, Sets heard u fec ∧ exec i s = .next ((Dropped u).event 0x0207 [dq / 2 ^ 19 % 64])) ∧
          (s.present (dq / 2 ^ 19 % 64) = true → dq / 2 ^ 19 % 64 ≠ s.index → ∃ t, exec i s = .next t ∧
            Sets { heard with out := s.out ++ [cas (dq / 2 ^ 19 % 64) 0x10 [bytes, f.port, if s.portBit F.LNK_CTL_DURABLE_EN f.port then 1 else 0, src.toNat,
              s.f F.TP_BRAID_BRAID_UDP, dq, psn, sq, 0]] } t (fec ++ [F.STK_RELAY_RELAYED.up s])) ∧
          (dq / 2 ^ 19 % 64 = s.index → q = dq % 2 ^ 19 → s.qState q ≠ QS.free → s.isBraid q = true → s.flag F.Q_STATUS_RESIDENT q = false →
            s.queue? q = some x → s.poolOn 2 = true → ceilDiv bytes 256 ≤ s.eddyFree → q < 270336 → ∃ t y, exec i s = .next t ∧ t.queue? q = some y ∧
              y = { x with parked := x.parked ++ [(ceilDiv bytes 256, s.time, psn, f.port)], fetching := y.fetching } ∧ t.dram = s.dram ∧ t.out = s.out ∧
              t.f F.TP_EDDY_STAT_EDDY_PARKED = satAdd 32 (s.f F.TP_EDDY_STAT_EDDY_PARKED) 1))))) ∧
  (∀ b n, f.payload = .udp src n dq psn sq ce bytes → s.hostOpen = true → n ≠ 4791 → s.present (dq / 2 ^ 19 % 64) = true → dq / 2 ^ 19 % 64 ≠ s.index →
    ∃ t, exec (.hostRelay f (some b)) s = .next t ∧
      Sets { s with out := s.out ++ [cas (dq / 2 ^ 19 % 64) 0x10 [bytes, f.port, if s.portBit F.LNK_CTL_DURABLE_EN f.port then 1 else 0, src.toNat, n, dq, psn,
        sq, if ce then 1 else 0]] } t [F.STK_RELAY_RELAYED.up s]) ∧
  (s.flag F.TP_CC2_CC_EN = true →
    (∀ i, i = Instr.cnp dest now ∨ (i = .braidEcho ⟨c, dest⟩ now ∧ c.crcOk = true ∧ c.ver = 1 ∧ (s.homed c.rq).isSome = true) →
      ∃ t, exec i s = .next t ∧ t.out = s.out ∧ t.queues = s.queues ∧
        t.f F.TP_TX_STAT_ECHO_RCVD = satAdd 32 (s.f F.TP_TX_STAT_ECHO_RCVD) 1 ∧
        t.rates = s.rates.map fun d => if d.serves dest = true ∧ (∀ c, d.lastCut = some c → s.f F.TP_CC2_CUT_HOLD ≤ now - c) then
          { d with target := d.rate, rate := max ((s.f F.TP_CC_RATE_MIN : Rat) / 10) (d.rate * (1 - d.beta)), calm := 0, lastCut := some now,
                   beta := min ((s.f F.TP_CC_BETA_MAX : Rat) / 256) (d.beta + (s.f F.TP_CC_BETA_STEP : Rat) / 256) } else d) ∧
    (∃ t, exec .rateRiseTimer s = .next t ∧ t = { s with rates := t.rates } ∧ t.rates.length = s.rates.length ∧
      ∀ p ∈ s.rates.zip t.rates, p.2.dest = p.1.dest ∧ ((p.1.line : Rat) ≤ p.1.rate → p.2 = p.1) ∧
        (p.1.rate < p.1.line → p.2.calm = p.1.calm + 1 ∧ p.2.rate = (p.1.rate + p.2.target) / 2 ∧ (p.1.calm < 4 → p.2.target = p.1.target)))) ∧
  (∃ t, exec (.rateContextFree dest) s = .next t ∧ t = { s with rates := t.rates } ∧
    ∀ d, d ∈ t.rates ↔ d ∈ s.rates ∧ ¬ (d.dest = dest ∧ (d.line : Rat) ≤ d.rate)) ∧
  (∀ on, s.portServes f.port = true → s.flag F.LNK_CTL_PFC_EN (f.port / 8) = true →
    ∃ u t, Sets s u [F.LNK_STATUS_PORT_PAUSED.is (withBit (s.f F.LNK_STATUS_PORT_PAUSED (f.port / 8)) (f.port % 8) on) (f.port / 8),
        F.LNK_PAUSE_PAUSE_RX.up s (f.port / 8)] ∧ exec (.pfcPause f.port (s.f F.LNK_CTL_PFC_PRIO (f.port / 8)) on) s = .next t ∧
      t = { u with out := s.out ++ (s.tp.paused.filter fun e => !u.portBit F.LNK_STATUS_PORT_PAUSED e.1).map Prod.snd
                   tp := { s.tp with paused := s.tp.paused.filter fun e => u.portBit F.LNK_STATUS_PORT_PAUSED e.1 } }) ∧
  (s.portBit F.LNK_STATUS_PORT_PAUSED f.port = true → exec (.pauseLong f.port) s = .next (s.event 0x0105 [f.port / 8, f.port % 8])) ∧
  (s.queue? q = some x → q < 270336 →
    (x.fetching = true → s.f F.TP_QUEUE_STAT_RESIDENT < 8192 → ∃ t, exec (.contextFetchComplete q) s = .next t ∧
      t.flag F.Q_STATUS_RESIDENT q = true ∧ t.queue? q = some { x with fetching := false, parked := [], lastUse := s.time } ∧ t.dram = s.dram ∧
      t.f F.TP_QUEUE_STAT_CTX_FETCHES = satAdd 32 (s.f F.TP_QUEUE_STAT_CTX_FETCHES) 1 ∧
      t.f F.POOL_STATUS_ALLOCATED 2 = s.f F.POOL_STATUS_ALLOCATED 2 - (x.parked.map Prod.fst).sum) ∧
    (∀ n since port rest, x.parked = (n, since, psn, port) :: rest →
      (s.isBraid q = true → ∃ t y, exec (.eddyParkTimeout q) s = .next t ∧ t.queue? q = some y ∧
        y = { x with parked := rest, fetching := y.fetching, lastUse := s.time } ∧
        t.f F.TP_EDDY_STAT_EDDY_DROPS = satAdd 32 (s.f F.TP_EDDY_STAT_EDDY_DROPS) 1 ∧ t.f F.POOL_STATUS_ALLOCATED 2 = s.f F.POOL_STATUS_ALLOCATED 2 - n) ∧
      (s.isBraid q = false → s.portBit F.LNK_STATUS_PORT_PAUSED (s.compatTx q) = false → ∃ t y, exec (.eddyParkTimeout q) s = .next t ∧ t.queue? q = some y ∧
        y = { x with parked := rest.filter fun e => e.2.2.1 != psn, fetching := y.fetching, lastUse := s.time } ∧
        s.compatMsg q [Roce.nak, psn, 4, State.rnrCode (s.f F.TP_ADMIT_RETRY_BUSY)] [] ∈ t.out ∧
        t.f F.POOL_STATUS_ALLOCATED 2 = s.f F.POOL_STATUS_ALLOCATED 2 - (n + ((rest.filter fun e => e.2.2.1 == psn).map Prod.fst).sum))))

/-! The twin pair (R47 to R74). -/

/--  R41, R48, R51 to R58: the twin link. A lost octet; a frame that failed its CRC goes again with those after it, and after eight retries of one frame
the link goes down; heartbeats, credits and reserved frames; the read fence; what is forwarded is made a part, and its answer ends it; a MIRROR writes
its lines, and its acknowledgement settles the write; heals. What is received acts as the next frame of its channel. A CREDIT frame of the cascade
issues request-channel credits (R98). The model's choices that it rests on: log entries 109, 112, 113, 117, 195 and 214. -/
def Obligations.TwinFrames : Prop := ∀ (s : State) (l : LinkHdr) (octet vc n silence q tag ns line id src : Nat) (x : MirrorFrame) (r : PartReq) (p : Part)
    (u : Unsettled) (bs : List Byte) (v : U64) (solo : Bool),
  (octet ∈ s.twinOctets → octet ∉ s.twin.octetsDown → NoRecovery s →
    let all : Prop := ∀ o ∈ s.twinOctets, o = octet ∨ o ∈ s.twin.octetsDown
    ∃ t, exec (.twinOctetDown octet) s = .next t ∧ t.twin.octetsDown = octet :: s.twin.octetsDown ∧ (t.f F.TWIN_STATUS_HALF_LINK = 0 ↔ all) ∧
      (all → t.twin.linkDown = true) ∧ (¬ all → t.twin.linkDown = s.twin.linkDown) ∧ t.tstate = s.tstate ∧ t.dram = s.dram ∧ t.queues = s.queues) ∧
  (s.twin.linkDown = false → NoRecovery s →
    let again := s.twin.replay.filter fun e => e.1 == vc && seqLe q e.2.1
    let r := s.twin.retries.getD vc (0, 0)
    let k := if r.1 = q then r.2 + 1 else 1
    ((again.any fun e => e.2.1 == q) = false → exec (.twinFrameCrcFail ⟨vc, q⟩) s = .next s) ∧
    ((again.any fun e => e.2.1 == q) = true → k ≤ 8 → ∃ t, exec (.twinFrameCrcFail ⟨vc, q⟩) s = .next t ∧
      Sent { s with twin := { s.twin with retries := s.twin.retries.set vc (q, k) } } t (again.map fun e => e.2.2.2)) ∧
    ((again.any fun e => e.2.1 == q) = true → 8 < k → ∃ t, exec (.twinFrameCrcFail ⟨vc, q⟩) s = .next t ∧
      t = { s with ctl := t.ctl, twin := { s.twin with octetsDown := s.twinOctets, retries := Twin.retries0, linkDown := true } } ∧
      t.f F.TWIN_STATUS_HALF_LINK = 0 ∧ ∀ o ∈ s.twinOctets, t.f F.LNK_STATUS_LANE_LOCK o = 0)) ∧
  (s.twinOn = true → s.twin.noticeSent = false → CanSend s 3 1 →
    ((∀ k < 4, s.twin.owed.getD k 0 = 0) → ∃ t, exec .heartbeatTimer s = .next t ∧ SentTwin s t 3 1 0x05 []) ∧
    (vc < 4 → s.twin.owed.getD vc 0 ≠ 0 → (∀ k < 4, k ≠ vc → s.twin.owed.getD k 0 = 0) → ∃ t, exec .heartbeatTimer s = .next t ∧
      SentTwin s t 3 1 0x0B [] ∧ (creditOf s).1 = vc ∧ t.twin.owed = s.twin.owed.set vc (s.twin.owed.getD vc 0 - min 4095 (s.twin.owed.getD vc 0)))) ∧
  (l.crVc = 0 → exec (.credit l (some n)) s = .next { s with tp := { s.tp with lent := s.tp.lent.set 0 n (s.tp.lent.get 0 n + l.crCount) } }) ∧
  (s.tstate = TS.mirrored →
    (FrameDue s l 3 → (∀ h ∈ s.twin.held, h.1 ≠ l.crVc) →
      let y := (HeardIn s l 3 1).twin
      ∃ t w, exec (.credit l none) s = .next t ∧
        Sets { s with twin := { y with credits := s.twin.credits.set l.crVc (s.twin.credits.getD l.crVc 0 + l.crCount), replay := w } } t
          [F.TWIN_STATUS_PEER_SEEN.is 1]) ∧
    (l.crCount = 0 → FrameDue s l 3 →
      (∃ t, exec (.heartbeat l) s = .next t ∧ Sets (HeardIn s l 3 1) t [F.TWIN_STATUS_PEER_SEEN.is 1]) ∧
      (n = 0 ∨ 0x0C < n → let y := (HeardIn s l 3 tag).twin
        ∃ w, Sets { s with twin := { y with discarded := y.discarded + 1 } } w [F.TWIN_STATUS_PEER_SEEN.is 1] ∧
          exec (.reservedFrameDiscard ⟨l, n, tag⟩ 3) s = .next (w.event 0x0C0D [n, 3]))) ∧
    (l.crCount = 0 → FrameDue s l vc → n = 0 ∨ 0x0C < n → ∃ t, exec (.reservedFrameDiscard ⟨l, n, tag⟩ vc) s = .next t ∧
      t.twin.discarded = s.twin.discarded + 1 ∧ t.twin.owed = (HeardIn s l vc tag).twin.owed ∧ t.dram = s.dram ∧ t.parts = s.parts ∧ t.queues = s.queues) ∧
    (4000 ≤ silence → ∃ w, Sets { s with twin := { s.twin with helloIn := false }
                                         out := s.out ++ casAll s 0x18 [0x0C, s.index, b2n (s.inService s.index), TS.suspect] } w [F.TWIN_STATUS_STATE.is TS.suspect] ∧
      exec (.readFenceTimeout silence none) s = .next (w.event 0x0C03 [silence])) ∧
    (silence < 4000 → exec (.readFenceTimeout silence none) s = .next s) ∧
    (q ∈ s.twin.unacked → ∃ t, exec (.readFenceTimeout silence (some q)) s = .next t ∧ t.tstate = TS.suspect ∧ t.twin.overdue = some q ∧ t.dram = s.dram ∧
      t.f F.TWIN_STATS_OVERDUE = satAdd 16 (s.f F.TWIN_STATS_OVERDUE) 1) ∧
    (FrameDue s l 2 → l.crCount = 0 → s.twin.noticeSent = false →
      (x.unit = false ∨ (x.last = true ∧ s.twin.unitIn = []) → s.twin.late = [] → s.copyReady (x.off / granBytes) = true → ∃ t, exec (.mirror { x with link := l }) s = .next t ∧ Stores s t x.off x.lines.flatten ∧
        t.gen (x.off / granBytes) = x.gen % 2 ^ 48 ∧ t.twin.seqIn = s.twin.seqIn.set 2 (some ((l.seq + 1) % 2 ^ 32)) ∧ t.queues = s.queues ∧
        ∃ w ∈ t.dram.unsettled, w.who = .mirror l.seq ∧ w.lines = lineUnion (linesOf x.off x.lines.flatten.length)) ∧
      (x.unit = false → s.copyReady (x.off / granBytes) = false → ∃ t, exec (.mirror { x with link := l }) s = .next t ∧ t.dram = s.dram ∧
        t.twin.late = s.twin.late ++ [⟨[(x.off, x.lines.flatten)], x.gen, l.seq, x.front, false⟩]) ∧
      (x.unit = true → x.last = false → ∃ t, exec (.mirror { x with link := l }) s = .next t ∧ t.dram = s.dram ∧
        t.twin.unitIn = s.twin.unitIn ++ [(l.seq, x.off, x.lines.flatten)])) ∧
    (FrameDue s l 2 → l.crCount = 0 → s.twin.lastResyncSeq = none → s.dram.unsettled = [u] → u.mirror = some q → seqLe q l.ackSeq = true → u.lines = [] →
      u.who = .part id → PartIs s id p → p.org = .cmd src tag → (∀ e ∈ s.parts, e.2.st ≠ .heldSeal) →
      ∃ t, exec (.mirrorAck l ns) s = .next t ∧ t.dram.unsettled = [] ∧ MemorySame s t ∧
        PartIs t id { p with st := .done, code := 0, result := u.result, doneLen := u.len, solo := u.solo } ∧
        t.twin.unacked = s.twin.unacked.filter (fun k => !seqLe k l.ackSeq) ∧ t.f F.TWIN_STATS_ACK_MAX_NS = max (s.f F.TWIN_STATS_ACK_MAX_NS) (min ns 65535)) ∧
    (FrameDue s l 0 → l.crCount = 0 → s.twin.noticeSent = false → (∀ g, s.regionOfGran (line / 1024) = some g → s.regionClass g ≠ Cls.stream) →
      s.isPoisoned line = false → CanSend s 1 2 → ∃ t, exec (.healReq ⟨l, line⟩) s = .next t ∧ t.dram = s.dram ∧
        twinMsg (HeardIn s l 0 1) 1 0x09 [64 * line] (s.readDram (64 * line) 64) ∈ t.out) ∧
    (FrameDue s l 1 → l.crCount = 0 → s.recovering line = none →
      (line ∈ s.dram.heals → bs.length = 64 → (∀ e ∈ s.parts, e.2.st ≠ .heldHeal line) →
        ∃ t, exec (.healData ⟨l, line⟩ (some bs)) s = .next t ∧ t.isPoisoned line = false ∧ line ∉ t.dram.heals ∧
          (s.isPoisoned line = true → Stores s t (64 * line) bs) ∧ (s.isPoisoned line = false → MemorySame s t)) ∧
      (∃ t, exec (.healData ⟨l, line⟩ none) s = .next t ∧ t.dram = s.dram)) ∧
    (FrameDue s l 0 → l.crCount = 0 → r.kind = .tile → ∃ t k, exec (.fwdReq src { r with link := some l }) s = .next t ∧ PartIs t s.nextPart k ∧ k.org = .remote src r.id ∧
      k.kind = .tile ∧ k.st = .waiting ∧ t.twin.seqIn = s.twin.seqIn.set 0 (some ((l.seq + 1) % 2 ^ 32)) ∧ t.dram = s.dram)) ∧
  (s.tstate = TS.suspect → s.twin.overdue = none → s.parts = [] → FrameDue s l 3 → l.crCount = 0 → ∃ t, exec (.heartbeat l) s = .next t ∧
    t.tstate = TS.mirrored ∧ t.f F.TWIN_STATUS_PEER_SEEN = 1 ∧ t.dram = s.dram) ∧
  (line ∈ s.dram.heals → s.isPoisoned line = true → (s.parts.filter fun e => e.2.st == .heldHeal line) = [(id, p)] → PartIs s id p →
    ∃ t, exec (.healTimeout line) s = .next t ∧ PartIs t id { p with st := .done, code := Code.poisoned, result := 0, doneLen := 0, rdata := [] } ∧
      MemorySame s t ∧ t.isPoisoned line = true ∧ line ∉ t.dram.heals) ∧
  (line ∉ s.dram.heals → exec (.healTimeout line) s = .next s) ∧
  (let new : Part := { State.newPart (.remote src r.id) r.kind s.index r.region r.off r.len r.data r.data2 with
      expect := r.expect, lim := r.lim, chunks := r.chunks, reads := r.reads, grp := r.grp, cnt := r.cnt, flow := r.flow, passed := r.bound, born := s.time };
    (r.kind = .tile → ∃ t, exec (.fwdReq src { r with link := none }) s = .next t ∧ t = { s with parts := t.parts, nextPart := s.nextPart + 1 } ∧ PartIs t s.nextPart new ∧
      ∀ k, k ≠ s.nextPart → t.parts.at? k = s.parts.at? k) ∧
    (r.kind = .read → s.admissionHeld = false → s.isVolatile r.region = true → s.regionValid r.region = true → s.f F.REG_STATE_REVOKE_STATE r.region = 0 →
      s.leadDev r.region r.off = s.index → s.admit6 r.region r.off false = .pass → CachesSound s → s.sealWaits r.region r.off r.len = false →
      (∀ l ∈ linesOf (s.place r.region r.off).2 r.len, s.isPoisoned l = false) → r.chunks = [] → r.cnt ≤ 1 → (∀ e ∈ s.parts, e.2.grp ≠ r.grp) →
      ∃ t p', exec (.fwdReq src { r with link := none }) s = .next t ∧ PartIs t s.nextPart p' ∧ p'.org = .remote src r.id ∧ p'.st = .done ∧
        p'.code = 0 ∧ p'.rdata = s.readDram (s.place r.region r.off).2 r.len ∧ MemorySame s t)) ∧
  (PartIs s id p → p.st = .forwarded →
    (∃ t, exec (.dataResp id bs) s = .next t ∧ OnlyPart s t id { p with rdata := p.rdata ++ bs }) ∧
    (p.dev ≠ s.twinIdx → (∀ k, p.org ≠ .thread k) →
      (p.kind ≠ .invoke → ∃ t, exec (.fwdResp ⟨none, id, solo⟩ n v q ns) s = .next t ∧
        OnlyPart s t id { p with st := .done, code := n, result := v, stored := ns != 0, solo := solo, doneLen := q, rdata := if n = 0 then p.rdata else [] }) ∧
      (p.kind = .invoke → ∃ t, exec (.fwdResp ⟨none, id, solo⟩ n v q ns) s = .next t ∧
        OnlyPart s t id { p with st := .done, code := n, result := v, stored := false, solo := solo, doneLen := ns, rdata := if n = 0 then p.rdata else [] })) ∧
    (p.dev ≠ s.twinIdx → p.org = .thread tag → n = 0 → ∃ t k, exec (.fwdResp ⟨none, id, solo⟩ n v q ns) s = .next t ∧ PartIs t id k ∧ k.st = .done ∧
      k.code = 0 ∧ k.result = v ∧ k.rdata = p.rdata ∧ ∀ h, s.thread? tag = some h → t.thread? tag = some { h with unmir := h.unmir || solo }))

/--  R57, R59 to R67: the loss of the twin, and grants. What a device does as one of the pair (stated for a pair in which nothing waits), as the arbiter
and as its standby. The numbers of the notices are the model's. The model's choices that it rests on: log entries 9, 111, 115, 116 and 119. -/
def Obligations.TwinGrants : Prop := ∀ (s : State) (l : LinkHdr) (a d pair epoch side src k silence : Nat) (v : U64),
  let next := (s.epoch + 1) % 2 ^ 32
  let asks (x : List (Nat × Nat × Nat)) : Bool := x.any fun e => e.1 == pair && e.2.1 == epoch
  let rest (x : List (Nat × Nat × Nat)) : List (Nat × Nat × Nat) := x.filter fun e => !(e.1 == pair && e.2.1 == epoch)
  (s.tstate = TS.suspect → 8000 ≤ silence ∨ s.twin.overdue ≠ none → s.sentToTwin = [] → NoRecovery s →
    ∃ t, exec (.twinLossTimeout silence) s = .next t ∧ t.tstate = TS.holding ∧ t.epoch = next ∧ t.dram = s.dram ∧ t.parts = s.parts ∧
      (8000 ≤ silence → t.f F.TWIN_STATUS_PEER_SEEN = 0) ∧
      ∀ a, a ≠ 255 → s.arbiterOf s.pair = some a → t.out.getLast? = some (cas a 0x18 [4, s.pair, next, s.side])) ∧
  (silence < 8000 → s.twin.overdue = none → NoRecovery s → exec (.twinLossTimeout silence) s = .next s) ∧
  (Quiet s → NoRecovery s →
    (8000 ≤ silence → s.tstate = TS.resyncSource → ∃ t, exec (.twinLossTimeout silence) s = .next t ∧ PairNow s t TS.solo next (some (next, s.side))) ∧
    (8000 ≤ silence → s.tstate = TS.resyncTarget → ∃ t, exec (.twinLossTimeout silence) s = .next t ∧ PairNow s t TS.fenced next s.twin.grant ∧
      t.twin.noAsk = true) ∧
    (s.tstate = TS.holding →
      (∃ t, exec (.grantRefusal s.pair s.epoch) s = .next t ∧ PairNow s t TS.fenced s.epoch (some (s.epoch, 1 - s.side))) ∧
      (∃ t, exec .holdLimitExpiry s = .next t ∧ t.tstate = TS.fenced ∧ t.epoch = s.epoch ∧ t.twin.grant = s.twin.grant ∧ MemorySame s t)) ∧
    (s.tstate = TS.fenced → ∃ t, exec (.grantRefusal s.pair s.epoch) s = .next t ∧ PairNow s t TS.fenced s.epoch (some (s.epoch, 1 - s.side))) ∧
    (s.tstate = TS.holding ∨ s.tstate = TS.fenced → s.twin.fromTarget = false → s.saving = false →
      (∃ t, exec (.grant s.pair s.epoch a) s = .next t ∧ PairNow s t TS.solo s.epoch (some (s.epoch, s.side))) ∧
      (s.devices = 2 → bit v.toNat 0 = true → bits v.toNat 63 32 = s.epoch → ∃ t, exec (.twinGrant v) s = .next t ∧
        PairNow s t TS.solo s.epoch (some (s.epoch, s.side)))) ∧
    (s.tstate = TS.mirrored → s.saving = false → s.epoch ≤ epoch → epoch < 2 ^ 32 → FrameDue s l 3 → l.crCount = 0 → s.twin.fromTarget = false →
      (∃ t, exec (.saveNotice ⟨l, epoch⟩ false) s = .next t ∧ PairNow s t TS.solo epoch (some (epoch, s.side))) ∧
      (∃ t, exec (.saveNotice ⟨l, epoch⟩ true) s = .next t ∧ PairNow s t TS.fenced epoch (some (epoch, 1 - s.side)) ∧ t.twin.noAsk = true))) ∧
  (pair ≠ s.pair ∨ epoch ≠ s.epoch → exec (.grant pair epoch a) s = .next s ∧ exec (.grantRefusal pair epoch) s = .next s) ∧
  (s.saving = true →
    (s.tstate ≠ TS.suspect → FrameDue s l 3 → l.crCount = 0 → ∃ t, exec (.saveNotice ⟨l, epoch⟩ false) s = .next t ∧
      Sets (HeardIn s l 3 2) t [F.TWIN_STATUS_PEER_SEEN.is 1]) ∧
    ∃ t, exec (.grant s.pair s.epoch a) s = .next t ∧ SendsNotice s t a [6, s.pair, s.epoch, s.side]) ∧
  (bit v.toNat 0 = false ∨ s.devices ≠ 2 → exec (.twinGrant v) s = .next s) ∧
  (s.arbiterOf s.pair = some a → s.saving = false →
    (s.tstate = TS.holding ∨ s.tstate = TS.fenced → s.twin.noAsk = false → ∃ t, exec .grantRequestRetry s = .next t ∧
      SendsNotice s t a [4, s.pair, s.epoch, s.side]) ∧
    (s.twin.reportDue = true → ∃ t, exec .grantReportRetry s = .next t ∧ SendsNotice s t a [7, s.pair, s.epoch, s.side])) ∧
  (s.arbiterOf pair = some s.index →
    let dev := 2 * pair + side
    (s.present dev = false → ∃ t, exec (.grantRequest pair epoch side) s = .next t ∧ SendsNotice s t dev [6, pair, epoch]) ∧
    (s.present dev = true →
      (s.grantedSide pair epoch = some side → ∃ t, exec (.grantRequest pair epoch side) s = .next t ∧ SendsNotice s t dev [5, pair, epoch, s.index]) ∧
      (s.grantedSide pair epoch = some k → k ≠ side → ∃ t, exec (.grantRequest pair epoch side) s = .next t ∧ SendsNotice s t dev [6, pair, epoch]) ∧
      (s.grantedSide pair epoch = none → asks s.twin.pendingGrant = false → s.standbyOf s.index = some d → s.inService d = true →
        ∃ t, exec (.grantRequest pair epoch side) s = .next t ∧
          SendsNotice { s with twin := { s.twin with pendingGrant := s.twin.pendingGrant ++ [(pair, epoch, side)] } } t d [7, pair, epoch, side])) ∧
    (s.grantedSide pair epoch = some side → asks s.twin.pendingGrant = false → ∃ t, exec (.grantReport pair epoch side) s = .next t ∧
      SendsNotice s t dev [7, pair, epoch]) ∧
    (s.grantedSide pair epoch ≠ some side → s.standbyOf s.index = some d → s.inService d = true → ∃ t, exec (.grantReport pair epoch side) s = .next t ∧
      let twin : Twin := { s.twin with arbiter := rest s.twin.arbiter ++ [(pair, epoch, side)], pendingGrant := rest s.twin.pendingGrant ++ [(pair, epoch, 4 + side)] }
      SendsNotice { s with twin := twin } t d [7, pair, epoch, side])) ∧
  (∃ t, exec (.grantRecord pair epoch side src) s = .next t ∧
    SendsNotice { s with twin := { s.twin with standby := if side ≤ 1 then rest s.twin.standby ++ [(pair, epoch, side)] else rest s.twin.standby } } t src
      [7, pair, epoch]) ∧
  ((s.twin.pendingGrant.filter fun e => e.1 == pair && e.2.1 == epoch) = [(pair, epoch, k)] → ¬ (pair = s.pair ∧ epoch = s.epoch) →
    (k < 2 → ∃ u, exec (.grantRecordAck pair epoch) s = .next (u.event 0x0C07 [pair, k, epoch]) ∧
      let twin : Twin := { s.twin with arbiter := s.twin.arbiter ++ [(pair, epoch, k)], pendingGrant := rest s.twin.pendingGrant }
      SendsNotice { s with twin := twin } u (2 * pair + k) [5, pair, epoch, s.index]) ∧
    (k = 2 ∨ k = 3 → ∃ t, exec (.grantRecordAck pair epoch) s = .next t ∧
      SendsNotice { s with twin := { s.twin with pendingGrant := rest s.twin.pendingGrant } } t (2 * pair + k % 2) [6, pair, epoch])) ∧
  (side ≤ 1 → s.grantedSide pair epoch ≠ some (1 - side) → s.standbyOf s.index = some d → ∃ t, exec (.grantDecline (2 * pair + side) epoch) s = .next t ∧
    let left (x : List (Nat × Nat × Nat)) : List (Nat × Nat × Nat) := x.filter fun e => !(e.1 == pair && e.2.1 == epoch && e.2.2 == side)
    let twin : Twin := { s.twin with arbiter := left s.twin.arbiter, standby := left s.twin.standby, pendingGrant := left s.twin.pendingGrant }
    SendsNotice { s with twin := twin } t d [7, pair, epoch, 2]) ∧
  (side ≤ 1 → s.grantedSide pair epoch = some (1 - side) → exec (.grantDecline (2 * pair + side) epoch) s = .next s)

/--  R49, R57, R68 to R71, R350: pairing and resync. A hello is sent while the link is up; one that differs posts the difference; two sides without a
grant become MIRRORED at the higher epoch, a granted side the source of a resync and the other its target; a target takes each granule, and ends at
the weir that RESYNC_DONE names. The model's choices that it rests on: log entries 110, 111, 114, 118, 120 and 173. -/
def Obligations.PairingAndResync : Prop := ∀ (s : State) (l : LinkHdr) (h : HelloFrame) (n a b gran gen weir : Nat) (data : List Byte),
  (s.f F.TWIN_CTL_PAIR_MODE = 1 → s.tstate = TS.pairing ∨ s.tstate = TS.solo ∨ s.tstate = TS.fenced ∨ s.tstate = TS.holding ∨ s.tstate = TS.suspect →
    s.twin.noticeSent = false → CanSend s 3 2 →
    let g := if s.twin.fromSolo then some (s.epoch, s.side) else s.twin.grant
    ∃ t, exec .pairHelloTimer s = .next t ∧ SentTwin s t 3 2 0x06
      ([s.index, s.digest, 0xB0, s.f F.DRM_CAP_CAP_GIB, 1, s.epoch, g.elim 0 (fun x => x.1 + 1), g.elim 0 (fun x => x.2), if s.keepsData then 1 else 0] ++
        s.maybeChanged.flatMap fun e => [e.1, e.2])) ∧
  (FrameDue s l 3 → l.crCount = 0 → s.tstate ≠ TS.suspect → s.twin.noticeSent = false →
    (s.helloMismatch h = some n → ∃ w, Sets (HeardIn s l 3 2) w [F.TWIN_STATUS_PEER_SEEN.is 1] ∧ exec (.pairHello { h with link := l }) s = .next (w.event 0x0C0B [n])) ∧
    (s.helloMismatch h = none → h.epoch < 2 ^ 32 → Quiet s →
      let mine := s.twin.fromSolo || s.holdsGrant
      let theirs := h.grant == some (h.epoch, 1 - s.side)
      (s.tstate = TS.pairing → mine = false → theirs = false → ∃ t, exec (.pairHello { h with link := l }) s = .next t ∧ t.tstate = TS.mirrored ∧
        t.epoch = max s.epoch h.epoch ∧ t.twin.seqIn = [none, none, none, none] ∧ MemorySame s t ∧ t.queues = s.queues ∧
        t.twin.reconcile = lineUnion (s.twin.changed ++ s.flash.restored ++ h.changed.map Prod.fst) ∧ (t.twin.reconcile = [] → t.twin.changed = [])) ∧
      (s.tstate = TS.pairing ∨ s.tstate = TS.fenced → mine = false → theirs = true → ∃ t, exec (.pairHello { h with link := l }) s = .next t ∧
        t.tstate = TS.resyncTarget ∧ t.epoch = h.epoch ∧ t.twin.grant = some (h.epoch, 1 - s.side) ∧ t.queues = s.queues ∧
        ((∀ r, s.isVolatile r = false ∨ s.regionValid r = false) → MemorySame s t)) ∧
      (s.tstate = TS.solo → theirs = false → ∃ t, exec (.pairHello { h with link := l }) s = .next t ∧ t.tstate = TS.resyncSource ∧ t.epoch = s.epoch ∧ MemorySame s t))) ∧
  (s.tstate = TS.mirrored → s.twin.reconcile ≠ [] → s.parts = [] → ∃ w,
    Sets { s with twin := { s.twin with reconcile := [], changed := [] } } w [F.TWIN_RESYNC_CHANGED_GRAN.is 0] ∧
    exec (.reconciliationDone a b) s = .next (w.event 0x0A0D [a, b])) ∧
  (s.tstate = TS.resyncTarget → l.crCount = 0 →
    (FrameDue s l 2 → s.twin.noticeSent = false → data.length = granBytes → s.twin.late = [] → s.copyReady gran = true → ∃ t, exec (.resyncData l gran gen data) s = .next t ∧
      Stores s t (gran * granBytes) data ∧ t.gen gran = gen % 2 ^ 48 ∧ t.twin.copied = s.twin.copied + 1 ∧
      t.f F.TWIN_RESYNC_COPIED_GRAN = min (s.twin.copied + 1) (2 ^ 32 - 1)) ∧
    (FrameDue s l 3 → s.weirCount < weir →
      let y := (HeardIn s l 3 2).twin
      ∃ t, exec (.resyncDone ⟨l, weir⟩) s = .next t ∧ Sets { s with twin := { y with doneWeir := some weir } } t [F.TWIN_STATUS_PEER_SEEN.is 1]))

/-! Flash and the save plan (R320 to R352). -/

/--  R321, R325 to R329, R332 to R338, R343: write-behind cleans a granule of the generation it took; failures retire blocks, unreadable records are
poisoned; scrub and relocation count; the budgets, SPATE flags and the arming test; the channels found at boot. Write-behind, relocation and scrub
complete in their turn only. The model's choices that it rests on: log entries 107, 108, 169, 204, 205 and 206. -/
def Obligations.FlashTier : Prop := ∀ (s : State) (gran chan die block gib mbs dev d : Nat) (full : Bool) (at_ n own : Nat) (r : Retry) (x : ScrubRead) (chans : List FlashTrain) (c0 : FlashTrain),
  (s.cleanFirst gran = false ∨ s.flashTurn (Config.homeDie gran / 16) (s.cleanRank gran) = false → exec (.writeBehindProgramDone gran) s = .next s) ∧
  (s.cleanFirst gran = true → s.flashTurn (Config.homeDie gran / 16) (s.cleanRank gran) = true → s.flag F.FL_CTL_WB_EN = true → s.flash.run = none → gran ∈ s.dram.dirty →
    (s.poolRoom 5 1 = false → ∃ u t, Shared s u ∧ exec (.writeBehindProgramDone gran) s = .next t ∧ t = u.poolFail 5) ∧
    (s.poolRoom 5 1 = true → s.flash.inFlight.at? gran = some (s.gen gran) → s.parts = [] → s.twin.late = [] → ∃ t, exec (.writeBehindProgramDone gran) s = .next t ∧
      t.flash.homes = s.flash.homes.put gran (s.recOf gran) ∧ (s.recOf gran).iv = s.flash.iv + 1 ∧ t.flash.iv = s.flash.iv + 1 ∧
      t.flash.homeWrites.get 0 gran = s.flash.homeWrites.get 0 gran + 1 ∧ t.flash.cleaned = s.flash.cleaned + 1 ∧
      t.dram.dirty = s.dram.dirty.filter (· != gran) ∧ MemorySame s t) ∧
    (s.poolRoom 5 1 = true → s.flash.inFlight.at? gran ≠ some (s.gen gran) → ∃ t, exec (.writeBehindProgramDone gran) s = .next t ∧
      t.flash = { s.flash with iv := s.flash.iv + 1, inFlight := s.flash.inFlight.put gran (s.gen gran), shares := t.flash.shares } ∧
      t.dram = s.dram ∧ t.parts = s.parts ∧ t.queues = s.queues)) ∧
  (∀ i x, (i, x) ∈ [(Instr.flashProgramFailure chan die block, F.NCH_FAIL_PROG_FAIL), (.flashEraseFailure chan die block, F.NCH_FAIL_ERASE_FAIL)] →
    chan < 32 → die < 16 → s.flash.badBlocks.contains (16 * chan + die, block) = false →
    100 * (s.flash.dieFails.get 0 (16 * chan + die) + 1) ≤ Config.blocksPerDie → ∃ t, exec i s = .next t ∧
      t.flash.badBlocks = (16 * chan + die, block) :: s.flash.badBlocks ∧ t.f x chan = counted x s chan ∧
      t.f F.FL_RETIRED_BLOCKS_RETIRED = counted F.FL_RETIRED_BLOCKS_RETIRED s ∧ t.f F.NCH_STATUS_DIES_RET chan = s.f F.NCH_STATUS_DIES_RET chan ∧
      t.flash.homes = s.flash.homes ∧ t.dram = s.dram) ∧
  (r.step ∈ [1, 2] → chan < 32 → ∃ t, exec (.flashReadRetry chan die r gran n) s = .next t ∧ t.f F.FL_ECC_RETRIES = counted F.FL_ECC_RETRIES s ∧
    t.flash.levels = s.flash.levels.put (32 * r.block + chan) r.level ∧ t.flash.homes = s.flash.homes ∧ t.dram = s.dram) ∧
  (r.step = 3 → ∃ t, exec (.flashReadRetry chan die r gran n) s = .next t ∧ t.f F.FL_ECC_SOFT = counted F.FL_ECC_SOFT s ∧ t.flash.levels = s.flash.levels ∧
    t.flash.homes = s.flash.homes ∧ t.dram = s.dram) ∧
  (r.step = 5 → chan < 32 → die < 16 → bit (s.f F.NCH_STATUS_DIES_RET chan) die = false → ∃ t, exec (.flashReadRetry chan die r gran n) s = .next t ∧
    bit (t.f F.NCH_STATUS_DIES_RET chan) die = true ∧ bit (t.f F.NCH_STATUS_DIES_OK chan) die = false ∧ t.flash.homes = s.flash.homes ∧
    ∀ e ∈ s.flash.homes, Config.homeDie e.1 = 16 * chan + die → e.1 ∈ t.dram.dirty) ∧
  (r.step = 4 → ∃ t, exec (.flashReadRetry chan die r gran 1) s = .next t ∧ t.f F.FL_ECC_UNREAD = counted F.FL_ECC_UNREAD s ∧
    t.f F.NCH_ECC_UNREAD chan = counted F.NCH_ECC_UNREAD s chan ∧ (∀ g, g ≠ gran → t.flash.homes.at? g = s.flash.homes.at? g) ∧
    ∀ r, s.flash.homes.at? gran = some r → t.flash.homes.at? gran = some { r with data := [], poison := List.range 1024 }) ∧
  (let c := Config.blockChan block
    let read (y : Flash) : Flash := { y with
      levels := s.flash.levels.put (32 * block + c) x.level, corrected := s.flash.corrected.put c ((s.flash.corrected.get 0 c + x.corrBits) % 2 ^ 20)
      cycles := if x.bad then s.flash.cycles.put block (s.flash.cycles.get 0 block + 1) else s.flash.cycles }
    (s.flashTurn c 6 = true →
      (∃ t, exec (.flashScrub block x false) s = .next t ∧ t.dram = s.dram ∧ t.parts = s.parts ∧
        t.flash = read { s.flash with scrubRead := s.flash.scrubRead + 1, scrubMoved := s.flash.scrubMoved + if x.bad then 1 else 0 }) ∧
      ∃ t, exec (.flashScrub block x true) s = .next t ∧ t.flash = read { s.flash with scrubRead := 0, scrubMoved := 0 } ∧ t.dram = s.dram) ∧
    (s.flashTurn c 6 = false → ∀ b, exec (.flashScrub block x b) s = .next s)) ∧
  (s.flashTurn (Config.blockChan block) 4 = false → exec (.flashRelocation block gib) s = .next s) ∧
  (s.flashTurn (Config.blockChan block) 4 = true → s.flash.adopted = 0 → ∃ t, exec (.flashRelocation block gib) s = .next t ∧
    t.flash = { s.flash with cycles := s.flash.cycles.put block (s.flash.cycles.get 0 block + 1), shares := t.flash.shares } ∧ t.dram = s.dram ∧
    t.f F.FL_TRAFFIC_RELOC_GIB = satAdd 32 (s.f F.FL_TRAFFIC_RELOC_GIB) gib) ∧
  (s.flashTurn (Config.blockChan block) 4 = true → 0 < s.flash.adopted → ∃ t, exec (.flashRelocation block gib) s = .next t ∧
    t.flash = { s.flash with adopted := s.flash.adopted - min gib s.flash.adopted, cycles := t.flash.cycles, shares := t.flash.shares } ∧
    t.f F.SV_AREA_ERASED_GIB = min s.savePresent (s.f F.SV_AREA_ERASED_GIB + min gib s.flash.adopted)) ∧
  exec (.ownBudget mbs) s = .next { s with twin := { s.twin with peerOwn := some mbs } } ∧
  (s.pending = [] → s.stk.slew = 0 → s.flash.budgetAt = some (at_, own) → s.parts = [] → s.twin.late = [] →
    (s.time + 1 < at_ → ∃ t, Sys2Proof.Machine.step s = .next t ∧ t.dram = s.dram ∧ t.flash = s.flash ∧ t.time = s.time + 1) ∧
    (at_ ≤ s.time + 1 → ∃ t, Sys2Proof.Machine.step s = .next t ∧ t.flash.budgetAt = none ∧ t.twin.peerOwn = none ∧
      t.dram.budget = (match s.twin.peerOwn with
        | some m => if s.budgetShared then min own (m * 2 ^ 20) else own
        | none => own) ∧ MemorySame s t)) ∧
  (let out (b : Bool) : List Nat := if b then dev :: s.spates.filter (· != dev) else s.spates.filter (· != dev);
    (dev ≠ s.index ^^^ 1 → ∀ b o, exec (.spateFlags dev b full o d) s = .next { s with spates := out b }) ∧
    (dev = s.index ^^^ 1 → s.parts = [] → s.twin.late = [] → ∀ b o, exec (.spateFlags dev b full o d) s = .next
      { s with spates := out b, twin := { s.twin with peerSpate := b, peerFull := full, peerOver := o } })) ∧
  (let rate := min (mbs * 950000) 200000000000
    let u0 : State := { s with flash := { s.flash with rate := rate } }
    (s.flag F.SV_STATUS_ARMED = true → s.flash.run = none → ∃ t, exec (.saveRateRetest mbs) s = .next t ∧ Sets u0 t [F.SV_INPUTS_SAVE_RATE_MBS.is (rate / 1000000)]) ∧
    (s.flag F.SV_CTL_ARM = true → s.f F.SV_STATUS_SAVE_STATE = 0 → s.flash.run = none → ∃ u w, Sets u0 u [F.SV_INPUTS_SAVE_RATE_MBS.is (rate / 1000000)] ∧
      (u.ownBudget < 4 * 2 ^ 30 → Sets u w [F.SV_CTL_ARM.is 0] ∧ exec (.armingTestDone mbs) s = .next (w.event 0x0A02 [u.ownBudget / 2 ^ 20])) ∧
      (4 * 2 ^ 30 ≤ u.ownBudget → Sets u w [F.SV_STATUS_ARMED.is 1, F.SV_STATUS_SAVE_STATE.is 1] ∧
        exec (.armingTestDone mbs) s = .next (w.event 0x0A01 [u.ownBudget / 2 ^ 20, rate / 1000000])))) ∧
  (s.f F.MGW_BOOT_STAGE = 5 → s.f F.MGW_STATUS_PHASE = 0 →
    OnlySets (.flashScanDone []) s [F.MGW_BOOT_ERROR.is 6, F.MGW_BOOT_ERR_DETAIL.is (2 ^ 32 - 1), F.MGW_STATUS_PHASE.is 5] ∧
    (n = 16 ∨ n = 32 → chans.length = n → chans.head? = some c0 → (∀ c ∈ chans, c.ok = true ∧ 0 < c.dies ∧ c.dies ≤ 16 ∧ c.gbit ≤ 2048 ∧ c.dies = c0.dies ∧ c.part = c0.part) →
      ∃ t, exec (.flashScanDone chans) s = .next t ∧ t.f F.MGW_BOOT_STAGE = 6 ∧ t.f F.FL_POP_CH_MASK = 2 ^ n - 1 ∧ t.f F.FL_POP_DIES_PER_CH = c0.dies ∧
        t.f F.FL_POP_DIE_GBIT = c0.gbit ∧ (∀ c < n, t.f F.NCH_STATUS_TRAINED c = 1) ∧ t.flash = { s.flash with iv := (s.flash.iv / 2 ^ 40 + 1) * 2 ^ 40 } ∧
        t.dram = s.dram ∧ ∀ i, s.flash.image = some i → t.f F.SV_STATUS_IMAGE = 1 ∧ t.f F.SV_STATUS_IMAGE_KIND = i.kind % 4 ∧ t.f F.SV_STATUS_SAVE_STATE = 6))

/--  R338 to R348, R373: the power-fail save from its triggers to the restore. An armed device begins the save, an unarmed one posts 0x0A09; metadata,
records and commit record follow; after the commit record the device halts, resumes, or waits for the dwell of a good input; a loss of power leaves
the flash; a restore brings the records back. The model's choices that it rests on: log entries 92, 93, 95, 96, 98, 102 and 104. -/
def Obligations.SavePlan : Prop := ∀ (s : State) (code ms gran : Nat) (r : SaveRun) (i : Image) (x : Rec),
  (s.flag F.SV_STATUS_ARMED = false → exec .saveNowHalt s = .next s ∧ exec .saveNowResume s = .next s) ∧
  (s.flag F.SV_STATUS_ARMED = true → s.flash.run = none → NoRecovery s → (∀ e ∈ s.parts, e.2.st ≠ .heldFull ∧ ∀ l, e.2.st ≠ .heldHeal l) →
    (∃ t, exec .saveNowHalt s = .next t ∧ SaveBegun s t 3 1) ∧ (∃ t, exec .saveNowResume s = .next t ∧ SaveBegun s t 3 2) ∧
    (s.deviceOff = false → (∃ t, exec .pfailN s = .next t ∧ SaveBegun s t 1 0 ∧ t.flash.pfailLow = true) ∧
      (∃ t, exec (.inputFailed code) s = .next t ∧ SaveBegun s t 2 0 ∧ t.f F.SUP_INPUT_IN_GOOD_NOW = 0 ∧ t.f F.SUP_INPUT_IN_FAILED = 1))) ∧
  (s.flag F.SV_STATUS_ARMED = false → s.flash.run = none → s.deviceOff = false →
    exec .pfailN s = .next ({ s with flash := { s.flash with pfailLow := true } }.event 0x0A09 [1]) ∧
    (∃ t, exec (.inputFailed code) s = .next t ∧ t.f F.SUP_INPUT_IN_GOOD_NOW = 0 ∧ t.f F.SUP_INPUT_IN_FAILED = 1 ∧ t.f F.SUP_INPUT_IN_CODE = code % 1024 ∧
      t.f F.SUP_INPUT_IN_FAIL_CNT = counted F.SUP_INPUT_IN_FAIL_CNT s ∧ t.dram = s.dram ∧ t.queues = s.queues)) ∧
  (s.seqState ≠ 18 → exec .pfailNHigh s = .next { s with flash := { s.flash with pfailLow := false } } ∧
    (∃ t, exec (.inputGood code) s = .next t ∧ t.f F.SUP_INPUT_IN_GOOD_NOW = 1 ∧ t.f F.SUP_INPUT_IN_FAILED = 0 ∧ t.f F.SUP_INPUT_IN_CODE = code % 1024 ∧
      t.dram = s.dram ∧ t.queues = s.queues)) ∧
  (s.Inv → s.seqState = 18 → s.supply.downFor = 0 → s.flag F.SUP_INPUT_IN_GOOD_NOW = true → ∃ t, exec .pfailNHigh s = .next t ∧ CoreGone t ∧
    t.f F.MGW_STATUS_PHASE = 0 ∧ t.f F.SUP_INPUT_IN_GOOD_NOW = 1 ∧ ∀ a, t.dram.mem.get 0 a = 0) ∧
  (s.flash.run = some r → r.committed = false →
    ((∀ j, s.flash.image = some j → j.seq ≠ s.flash.lastSeq + 1) → ∃ t j, exec .saveMetadataDone s = .next t ∧
      t = { s with flash := { s.flash with image := some j, iv := s.flash.iv + 2 }, recd := t.recd } ∧ j.seq = s.flash.lastSeq + 1 ∧ j.kind = 2 ∧ j.trigger = r.trigger ∧ j.recs = [] ∧
      j.dirty = s.dram.dirty ∧ j.changed = s.twin.changed ∧ j.epoch = s.epoch ∧ j.grant = s.twin.grant ∧ j.logs = s.logs) ∧
    (s.flash.image = some i → r.recorded = false → i.seq = s.flash.lastSeq + 1 → ∃ t j, exec .saveRecordsDone s = .next t ∧
      t.flash = { s.flash with image := some j, run := some { r with recorded := true }, iv := s.flash.iv + i.dirty.length } ∧ j = { i with recs := j.recs } ∧
      t.dram = s.dram ∧ (i.dirty.Nodup → ∀ k g, i.dirty[k]? = some g → j.recs.at? g = some { s.recOf g with
        kind := 2, seq := i.seq, ordinal := k, iv := s.flash.iv + 1 + k, keyGen := i.keyGen }) ∧ ∀ g, g ∉ i.dirty → j.recs.at? g = none) ∧
    (s.flash.image = some i → r.recorded = true → r.reset = 0 →
      (r.mode = 0 → s.flash.pfailLow = false → s.flag F.SUP_INPUT_IN_GOOD_NOW = true → ∃ t, exec (.saveCommitDone ms) s = .next t ∧
        t.flash = { s.flash with image := some { i with kind := 1, commit := some (s.commitRec r i) }, run := some { r with committed := true }, lastSeq := i.seq,
                                 iv := s.flash.iv + 1 } ∧
        t.f F.SV_STATUS_SAVE_STATE = 4 ∧ t.f F.MGW_STATUS_PHASE = 4 ∧ t.f F.SV_STATS_SAVES = counted F.SV_STATS_SAVES s ∧
        t.f F.SV_LAST_LAST_SAVE_MS = ms % 2 ^ 32 ∧ t.dram = s.dram) ∧
      (r.mode = 1 ∨ r.mode = 0 ∧ s.flash.pfailLow = true → ∃ t, exec (.saveCommitDone ms) s = .next t ∧ t.flash.image = some { i with kind := 1, commit := some (s.commitRec r i) } ∧
        t.flash.run = none ∧ t.flash.lastSeq = i.seq ∧ t.f F.SV_STATUS_SAVE_STATE = 5 ∧ t.f F.SV_STATUS_ARMED = 0 ∧ t.f F.SV_CTL_ARM = 0 ∧ t.supply.downFor = 0) ∧
      (r.mode = 2 → i.recs.sorted = true → ∃ t, exec (.saveCommitDone ms) s = .next t ∧ t.flash.image = none ∧ t.flash.run = none ∧ t.flash.lastSeq = i.seq ∧
        t.f F.SV_STATUS_SAVE_STATE = 1 ∧ t.f F.MGW_STATUS_PHASE = 1 ∧ t.f F.SV_STATUS_RESUMED = 1 ∧ t.dram.dirty = [] ∧ MemorySame s t ∧
        ∀ e ∈ i.recs, t.flash.homes.at? e.1 = some e.2))) ∧
  (s.flash.run = some r → r.committed = true →
    (s.flash.pfailLow = false → s.flag F.SUP_INPUT_IN_GOOD_NOW = true → s.flash.image = some i → i.recs.sorted = true → ∃ t, exec .resumeDwell s = .next t ∧
      t.flash.image = none ∧ t.flash.run = none ∧ t.f F.SV_STATUS_SAVE_STATE = 1 ∧ t.f F.MGW_STATUS_PHASE = 1 ∧ t.f F.SV_STATUS_RESUMED = 1 ∧ MemorySame s t ∧
      ∀ e ∈ i.recs, t.flash.homes.at? e.1 = some e.2) ∧
    (∃ t, exec .pfailN s = .next t ∧ t.flash.run = none ∧ t.flash.image = s.flash.image ∧ t.f F.SV_STATUS_SAVE_STATE = 5 ∧ t.supply.downFor = 0)) ∧
  (s.Inv → s.flash.run = none → ∃ t, exec .powerLost s = .next t ∧ CoreGone t ∧ FlashSame s t ∧ ∀ a, t.dram.mem.get 0 a = 0) ∧
  (s.Inv → s.flash.run = some r → r.committed = false → s.flash.image = none → ∃ t j, exec .powerLost s = .next t ∧ t.flash.image = some j ∧ j.kind = 3 ∧
    j.seq = s.flash.lastSeq + 1 ∧ CoreGone t) ∧
  (s.f F.SV_STATUS_SAVE_STATE = 7 → s.flash.image = some i → i.kind = 1 → i.cfg = [] → i.recs = [(gran, x)] → s.flash.homes = [] → s.granDurable gran = true →
    x.data.sorted = true → (∀ e ∈ x.data, e.1 < granBytes) → x.poison = [] → ∃ t, exec (.restoreDone ms) s = .next t ∧
      (∀ o < granBytes, t.dram.mem.get 0 (gran * granBytes + o) = x.data.get 0 o) ∧
      (∀ a, s.granDurable (a / granBytes) = false → t.dram.mem.get 0 a = s.dram.mem.get 0 a) ∧ t.gen gran = x.gen % 2 ^ 48 ∧ t.flash.image = none ∧
      t.flash.homes.at? gran = some x ∧ t.f F.SV_STATUS_SAVE_STATE = 0 ∧ t.f F.SV_RESTORE_LOST_GRAN = 0 ∧ t.epoch = i.epoch % 2 ^ 32 ∧ t.twin.grant = i.grant ∧
      ∀ q ∈ t.durableHere, t.f F.REG_STATE_UNRESTORED q = 0)

/-! The moss domain: sequencing, rails, hold-up bank, clocks (R355 to R384). -/

/--  R357, R361 to R365: the sequence table read at boot; SEQ_SYNC takes the device from state to state and into RUN; guard, chain and gap begin a turn
and enable the state's rails; the limits go on without the chain and without SEQ_SYNC, and count. The model's choices that it rests on: log entry 148.
-/
def Obligations.Sequencing : Prop := ∀ (s : State) (a b : TableCopy) (level : Bool),
  let with_ (x : Supply) : State := { s with supply := x }
  let moved : Supply := { s.supply with guard := true, turn := 0, chainOut := false, retGiven := false, seqStart := if s.seqState + 1 = 1 then s.time else s.supply.seqStart }
  (s.seqState = 0 → s.f F.MGW_BOOT_STAGE = 0 → s.f F.MGW_STATUS_PHASE = 0 →
    (tableOk a = false → tableOk b = false → SetsPosts (.bootSequenceTableRead a b) s [F.MGW_BOOT_STAGE.is 1, F.MGW_BOOT_ERROR.is 1, F.MGW_BOOT_ERR_DETAIL.is 3,
      F.MGW_STATUS_PHASE.is 5, F.SUP_SEQ_EXCLUDED.is 1, F.SUP_SEQ_EXCL_CAUSE.is 1, F.SUP_SEQ_EXCL_RAIL.is 0] 0x0B07 [1, 0]) ∧
    (∀ x c, (c = 1 ∧ x = a ∧ tableOk a = true ∧ (tableOk b = true → tq b 1 ≤ tq a 1)) ∨ (c = 2 ∧ x = b ∧ tableOk b = true ∧ (tableOk a = true → tq a 1 < tq b 1)) →
      ∃ t, exec (.bootSequenceTableRead a b) s = .next t ∧ t = { s with ctl := t.ctl, supply := { s.supply with table := x } } ∧ t.f F.MGW_BOOT_STAGE = 2 ∧
        t.f F.SUP_SEQ_TABLE_COPY = c ∧ t.f F.SUP_SEQ_TABLE_SEQ = tq x 1 % 2 ^ 32 ∧ t.f F.HU_CTL_HU_MIN_J = bits (tq x 4) 31 0 ∧
        ∀ n < 32, ∀ j < 4, t.word (wkey 15 n j) = BitVec.ofNat 64 (tRail x n j))) ∧
  (s.syncReleased = true → s.seqState < 15 →
    (∃ t, exec .seqSyncRise s = .next t ∧ Sets (with_ moved) t [F.SUP_SEQ_SEQ_STATE.is (s.seqState + 1)]) ∧
    (s.table ≠ [] → ∃ t, exec .syncLimit s = .next t ∧ t.supply = moved ∧ t.seqState = s.seqState + 1 ∧
      t.f F.SUP_TIMING_SYNC_TIMEOUTS = counted F.SUP_TIMING_SYNC_TIMEOUTS s ∧ t.dram = s.dram)) ∧
  (s.syncReleased = true → s.seqState = 15 →
    (s.isExcluded = false → ∃ t, exec .seqSyncRise s = .next t ∧ t.seqState = 16 ∧ t.f F.MGW_BOOT_STAGE = 3 ∧ t.f F.CLK_PLL_PLL_LOCK = 0x1F ∧
      t.f F.CLK_STATUS_POWERED = 0x7000FF ∧ t.f F.CLK_STATUS_CLOCKED = 0x7000FF ∧ t.supply.chainOut = (decide (s.index = 0) || s.supply.chainIn)) ∧
    (s.isExcluded = true → ∃ t, exec .seqSyncRise s = .next t ∧ t.seqState = 17 ∧ t.f F.MGW_STATUS_PHASE = 5 ∧ t.supply.downFor = 3 ∧ t.supply.down = 15)) ∧
  (16 ≤ s.seqState → exec .seqSyncRise s = .next s) ∧
  (1 ≤ s.seqState → s.seqState < 16 →
    let due : Prop := s.isExcluded = false ∧ ∃ n < 32, RailDue s n
    let free : Prop := s.isExcluded = true ∨ ∀ n < 32, ¬ RailDue s n
    (s.supply.guard = true →
      (s.index ≠ 0 → s.supply.chainIn = false → exec .seqGuardEnd s = .next (with_ { s.supply with guard := false })) ∧
      (s.index = 0 ∨ s.supply.chainIn = true →
        (due → exec .seqGuardEnd s = .next (with_ { s.supply with guard := false, turn := 1 })) ∧
        (free → exec .seqGuardEnd s = .next (with_ { s.supply with guard := false, turn := 3, chainOut := true })))) ∧
    (s.supply.guard = false → s.supply.turn = 0 → s.index ≠ 0 →
      (due → exec (.seqChainIn true) s = .next (with_ { s.supply with chainIn := true, turn := 1 }) ∧
        ∃ t, exec .chainLimit s = .next t ∧ t.supply = { s.supply with turn := 1 } ∧ t.f F.SUP_TIMING_CHAIN_TIMEOUTS = counted F.SUP_TIMING_CHAIN_TIMEOUTS s ∧ t.dram = s.dram) ∧
      (free → exec (.seqChainIn true) s = .next (with_ { s.supply with chainIn := true, turn := 3, chainOut := true }))) ∧
    (s.supply.guard = false → s.index = 0 → s.supply.turn = 3 → s.supply.chainRet = false → s.supply.retGiven = false → ∃ t, exec .chainLimit s = .next t ∧
      t.supply = { s.supply with retGiven := true } ∧ t.f F.SUP_TIMING_CHAIN_TIMEOUTS = counted F.SUP_TIMING_CHAIN_TIMEOUTS s ∧ t.dram = s.dram) ∧
    (s.supply.turn = 1 → (∃ n < 32, RailDue s n) → ∃ t, exec .railEnableGap s = .next t ∧ t = { s with ctl := t.ctl, supply := { s.supply with turn := 2 } } ∧
      ∀ n < 32, (RailDue s n → t.railOn n = true ∧ t.rstate n = 1 ∧ t.f F.RL_EDGES_CHATTER_LAST n = 0) ∧
        (¬ RailDue s n → t.railOn n = s.railOn n ∧ t.rstate n = s.rstate n))) ∧
  (s.inRun = true → s.index ≠ 0 → exec (.seqChainIn level) s = .next (with_ { s.supply with chainIn := level, chainOut := level })) ∧
  exec (.seqChainRet level) s = .next (with_ { s.supply with chainRet := level })

/--  R366 to R372, R383: rails. Chatter is counted while a rail settles; the dwell makes it good, the limit fails it, and in sequencing a failure
excludes the device; in RUN a fault of a critical rail stops the device, another one only fails the rail; warnings are posted once; a rail of a power-
down is confirmed off. The model's choices that it rests on: log entry 147. -/
def Obligations.Rails : Prop := ∀ (s : State) (rail code : Nat), rail < 32 →
  (s.rstate rail = 1 →
    OnlySets (.chatterEdge rail) s [F.RL_EDGES_CHATTER_LAST.up s rail,
      F.RL_EDGES_CHATTER_MAX.is (max (s.f F.RL_EDGES_CHATTER_MAX rail) (counted F.RL_EDGES_CHATTER_LAST s rail)) rail, F.RL_STATUS_GOOD_IN.is 0 rail] ∧
    (∃ t, exec (.railSettleDwell rail) s = .next t ∧ t.rstate rail = 2 ∧ t.f F.RL_STATUS_GOOD_IN rail = 1 ∧ t.railOn rail = s.railOn rail ∧ OtherRails s t rail ∧
      t.dram = s.dram ∧ t.queues = s.queues ∧
      (s.supply.turn = 2 → (∀ n < 32, n ≠ rail → s.railUsed n = true → tStateOn s.table n = s.seqState → s.rstate n ≠ 1) →
        t.supply = { s.supply with turn := 3, chainOut := true })) ∧
    (s.seqState < 16 → s.isExcluded = false → tDeps s.table rail = [] → ∃ t, exec (.railSettleLimit rail) s = .next t ∧ t.rstate rail = 3 ∧ t.railOn rail = false ∧
      bit (t.f F.SUP_RAILS_RAILS_FAILED) rail = true ∧ t.f F.RL_EDGES_FAULTS rail = counted F.RL_EDGES_FAULTS s rail ∧ t.isExcluded = true ∧
      t.f F.SUP_SEQ_EXCL_CAUSE = 2 ∧ t.f F.SUP_SEQ_EXCL_RAIL = rail ∧ OtherRails s t rail ∧ t.dram = s.dram)) ∧
  (s.rstate rail = 2 → s.inRun = true → tDeps s.table rail = [] → code < 1024 →
    (tCritical s.table rail = false → bits (tDomains s.table rail) 19 8 = 0 → ∃ t, exec (.railFault rail code) s = .next t ∧ t.rstate rail = 3 ∧ t.railOn rail = false ∧
      bit (t.f F.SUP_RAILS_RAILS_FAILED) rail = true ∧ t.f F.RL_STATUS_SENSE_CODE rail = code ∧ t.inRun = true ∧ OtherRails s t rail ∧ t.dram = s.dram ∧ t.queues = s.queues) ∧
    (tCritical s.table rail = true → ∃ t, exec (.railFault rail code) s = .next t ∧ t.seqState = 17 ∧ t.supply.downFor = 2 ∧ t.isExcluded = true ∧
      t.f F.SUP_SEQ_EXCL_CAUSE = 3 ∧ t.f F.SUP_SEQ_EXCL_RAIL = rail)) ∧
  (s.rstate rail = 2 → tLevels s.table rail = true → s.flag F.RL_STATUS_WARN_NOW rail = false → code < 1024 → ∃ u,
    exec (.railWarning rail code) s = .next (u.event 0x0B02 [rail, code, if bits (tRail s.table rail 1) 49 40 < code then 1 else 0]) ∧
      u = { s with ctl := u.ctl, recd := u.recd } ∧ u.f F.RL_STATUS_WARN_NOW rail = 1 ∧ u.f F.RL_EDGES_WARNINGS rail = counted F.RL_EDGES_WARNINGS s rail ∧
      u.f F.RL_STATUS_SENSE_CODE rail = code ∧ u.f F.RL_EXTREMES_MIN_CODE rail = min code (s.f F.RL_EXTREMES_MIN_CODE rail) ∧
      u.f F.RL_EXTREMES_MAX_CODE rail = max code (s.f F.RL_EXTREMES_MAX_CODE rail) ∧ OtherRails s u rail) ∧
  OnlySets (.railWarningClear rail) s [F.RL_STATUS_WARN_NOW.is 0 rail] ∧
  (s.seqState = 17 → rail ∈ s.supply.offDue →
    let left : State := { s with supply := { s.supply with offDue := s.supply.offDue.filter (· != rail) } }
    exec (.railOffConfirmed rail true) s = .next left ∧ ∃ t, exec (.railOffConfirmed rail false) s = .next t ∧ Sets left t [F.RL_EDGES_FAULTS.up s rail])

/--  R376, R378 to R381, R437, R468: the discharge test starts, is deferred, and ends with the bank's capacity; engines, clusters and blocks are gated
and wake; a PLL that loses its lock is counted, and stops a device in RUN; THERM_TRIP. The model's choices that it rests on: log entries 145, 146 and
149. -/
def Obligations.BankAndClocks : Prop := ∀ (s : State) (mv us k ns : Nat) (x : BankTest),
  let with_ (y : Supply) : State := { s with supply := y }
  (s.supply.testDue = true → s.supply.test = none → s.inRun = true → s.flash.run = none → s.f F.CLK_STATUS_STANDBY_STATE ≠ 2 →
    (mv < s.huReady → SetsPosts (.dischargeTestStart mv true) s [F.HU_TESTS_TESTS_DEFERRED.up s, F.HU_TESTS_LAST_RESULT.is 5] 0x0B0B [5]) ∧
    SetsPosts (.dischargeTestStart mv false) s [F.HU_TESTS_TESTS_DEFERRED.up s, F.HU_TESTS_LAST_RESULT.is 5] 0x0B0B [5] ∧
    (s.huReady ≤ mv → 10 * s.dirtyBytes ≤ 9 * s.budgetAfterTest mv → ∃ t, exec (.dischargeTestStart mv true) s = .next t ∧
      Sets (with_ { s.supply with test := some ⟨0, mv, 0, 0⟩, testDue := false }) t [F.HU_GAUGE_TESTING.is 1])) ∧
  (s.supply.test = some x →
    (x.stage = 0 → ∃ t y, exec (.dischargeTestEsr mv) s = .next t ∧ t = { s with supply := { s.supply with test := some y }, fv := t.fv } ∧
      y = { x with stage := 1, esr := y.esr } ∧ (0 < s.huTestMa → y.esr = (x.v0 - mv) * 10000 / s.huTestMa)) ∧
    (x.stage = 1 → exec (.dischargeTestV1 mv) s = .next (with_ { s.supply with test := some { x with stage := 2, v1 := mv } })) ∧
    (x.stage = 2 →
      (mv + s.huTestDv ≤ x.v1 → mv < x.v1 → ∃ t, exec (.dischargeTestEnd mv us) s = .next t ∧ t.supply.test = none ∧ t.f F.HU_GAUGE_TESTING = 0 ∧ t.f F.HU_GAUGE_GAUGE_VALID = 1 ∧
        t.f F.HU_CAP_CAP_MF = (s.huTestMa * us / ((x.v1 - mv) * 1000)) % 2 ^ 32 ∧ t.f F.HU_CAP_ESR = x.esr % 2 ^ 16 ∧ t.f F.HU_TESTS_LAST_RESULT = 0 ∧
        t.f F.HU_TESTS_TESTS_DONE = counted F.HU_TESTS_TESTS_DONE s ∧ t.dram = s.dram) ∧
      (∃ u, Sets (with_ { s.supply with test := none, endTest := some s.time }) u [F.HU_GAUGE_TESTING.is 0, F.HU_TESTS_TESTS_ABORTED.up s, F.HU_TESTS_LAST_RESULT.is 3] ∧
        exec .dischargeTestTimeout s = .next (u.event 0x0B0B [3])))) ∧
  (k < 64 → s.flag F.CLK_CTL_ENG_GATE_EN = true → s.engineBusy k = false → k ∉ s.supply.gatedEngines → k / 8 ∉ s.supply.gated →
    let all : Prop := ∀ i < 8, k / 8 * 8 + i = k ∨ k / 8 * 8 + i ∈ s.supply.gatedEngines
    (¬ all → exec (.engineClockGate k) s = .next (with_ { s.supply with gatedEngines := k :: s.supply.gatedEngines })) ∧
    (all → ∃ t, exec (.engineClockGate k) s = .next t ∧ Sets (with_ { s.supply with gatedEngines := k :: s.supply.gatedEngines }) t
      [F.CLK_STATUS_CLOCKED.is (withBit (s.f F.CLK_STATUS_CLOCKED) (k / 8) false)])) ∧
  (k < 8 → s.flag F.CLK_CTL_CLUSTER_PG_EN = true → k ∉ s.supply.gated → (∀ i < 8, k * 8 + i ∈ s.supply.gatedEngines) → (∀ i ∈ s.queuedInvs, i.cluster ≠ k) →
    ∃ t, exec (.clusterPowerGate k) s = .next t ∧ GatedNow s t k) ∧
  (20 ≤ k → k ≤ 22 → s.flag F.CLK_CTL_BLOCK_PG_EN = true → k ∉ s.supply.gated → s.blockIdle k = true → ∃ t, exec (.blockPowerGate k) s = .next t ∧ GatedNow s t k) ∧
  (k ∈ s.supply.gated → k < 24 → ∃ t, exec (.domainWakeDone k ns) s = .next t ∧ k ∉ t.supply.gated ∧ bit (t.f F.CLK_STATUS_POWERED) k = true ∧
    bit (t.f F.CLK_STATUS_CLOCKED) k = true ∧ (k < 8 → t.f F.CLK_WAKES_CLUSTER_WAKES = counted F.CLK_WAKES_CLUSTER_WAKES s) ∧
    (k ≠ 23 ∨ s.parts = [] ∧ s.twin.late = [] → t.dram = s.dram ∧ t.queues = s.queues)) ∧
  (k < 5 → bit (s.f F.CLK_PLL_PLL_LOCK) k = true →
    (k = 4 ∨ s.inRun = false → SetsPosts (.pllLockLoss k) s
      [F.CLK_PLL_PLL_LOCK.is (withBit (s.f F.CLK_PLL_PLL_LOCK) k false), F.CLK_PLL_PLL_LOSSES.up s] 0x0B10 [2 ^ k]) ∧
    (k < 4 → s.inRun = true → ∃ t, exec (.pllLockLoss k) s = .next t ∧ t.seqState = 17 ∧ t.supply.downFor = 2 ∧ bit (t.f F.CLK_PLL_PLL_LOCK) k = false ∧
      t.f F.SUP_SEQ_EXCL_CAUSE = 3)) ∧
  exec .thermTrip s = .next { s with pins := { s.pins with thermTrip := true } } ∧
  exec .thermTripRelease s = .next { s with pins := { s.pins with thermTrip := false } }

/-! The stack (R385 to R408). -/

/--  R395, R398, R399, R401, R404: stack time, the master, and its succession. The master sends TIME; a member follows it, steps where it is off by more
than 1 µs and slews else, and acknowledges; the deputy claims; voters answer; a majority makes the deputy master and excludes the old one. The model's
choices that it rests on: log entries 8 and 139. -/
def Obligations.StackTimeAndMaster : Prop := ∀ (s : State) (src m epoch dev : Nat) (corr : Int) (quiet : Bool) (acks naks : List Nat),
  let stk_ (x : Stk) : State := { s with stk := x }
  (Rules s → (∃ t, exec .timeBroadcast s = .next t ∧ Sent s t (casAll s 0x12 [s.time, 0, s.stackEpoch])) ∧
    (s.isMember dev = true → exec (.beatAck dev s.stackEpoch) s = .next (stk_ { s.stk with beats := s.stk.beats.put dev s.time }) ∧
      (dev ≠ s.index → dev < 64 → NoRecovery s → ∃ t, exec (.beatAckTimeout dev) s = .next t ∧ Left t dev 5 ∧
        (∀ m ∈ casAll s 0x16 [3, dev, 5], m ∈ t.out) ∧ t.memberState = 2 ∧ t.dram = s.dram)) ∧
    (s.Inv → 2 < s.devices → s.stk.beats = [] → ∃ t, exec .masterStepDown s = .next t ∧ Left t s.index 4 ∧ t.memberState = 3)) ∧
  (epoch < s.stackEpoch → exec (.timeFrame src m corr epoch) s = .next s) ∧
  (s.memberState = 2 → s.isMaster = false →
    let err : Int := (m : Int) + corr - s.time
    (s.stackEpoch ≤ epoch → src ≠ s.index → src < 64 → ∃ t, exec (.timeFrame src m corr epoch) s = .next t ∧ t.master = src ∧
      t.stackEpoch = epoch % 2 ^ (F.STK_STATUS_MASTER_EPOCH.hi + 1 - F.STK_STATUS_MASTER_EPOCH.lo) ∧ cas src 0x13 [epoch] ∈ t.out ∧ t.dram = s.dram ∧
      t.stk.heardTime = true ∧ t.stk.lastTime = t.time ∧ (1000 < err.natAbs → t.time = (m + corr).toNat ∧ t.stk.unsync = true) ∧
      (err.natAbs ≤ 1000 → t.time = s.time ∧ t.stk.slew = err)) ∧
    (s.deputy = some s.index → s.stk.claim = none →
      (∃ t, exec .deputyClaim s = .next t ∧ Sent (stk_ { s.stk with claim := some ([], []) }) t (casAll s 0x15 [1, s.stackEpoch + 1])) ∧
      (∃ t, exec (.stepDown s.stackEpoch) s = .next t ∧ Sent (stk_ { s.stk with claim := some ([], []), stepped := true }) t (casAll s 0x15 [1, s.stackEpoch + 1]))) ∧
    (s.deputy ≠ some s.index → exec (.stepDown s.stackEpoch) s = .next (stk_ { s.stk with stepped := true }))) ∧
  (s.memberState = 2 → s.stackEpoch < epoch → s.index ≠ src → src < 64 →
    (s.voters.contains s.index = true → quiet = true ∨ s.stk.stepped = true → s.stage.groups = [] → ∃ t, exec (.claim src epoch quiet) s = .next t ∧
      Sets { s with stk := { s.stk with stepped := false }, out := s.out ++ [cas src 0x15 [2, epoch]] } t [F.STK_STATUS_MASTER_EPOCH.is epoch]) ∧
    (s.voters.contains s.index = false ∨ (quiet = false ∧ s.stk.stepped = false) → ∃ t, exec (.claim src epoch quiet) s = .next t ∧ Sent s t [cas src 0x15 [3, epoch]])) ∧
  (s.stk.claim = some (acks, naks) →
    (dev ∈ s.voters → dev ∉ acks →
      (2 * (acks.length + 1) ≤ s.voters.length → ∃ t, exec (.claimAck dev []) s = .next t ∧ t.stk = { s.stk with claim := some (dev :: acks, naks) } ∧
        t.out = s.out ∧ t.ctl = s.ctl ∧ t.stage.groups.map (fun g => (g.seq, g.words)) = s.stage.groups.map fun g => (g.seq, g.words)) ∧
      (s.voters.length < 2 * (acks.length + 1) → s.master ≠ s.index → s.Inv → ∃ t, exec (.claimAck dev []) s = .next t ∧ t.isMaster = true ∧ t.stk.claim = none ∧
        t.stackEpoch = (s.stackEpoch + 1) % 2 ^ (F.STK_STATUS_MASTER_EPOCH.hi + 1 - F.STK_STATUS_MASTER_EPOCH.lo) ∧
        t.f F.STK_EXCL_TAKEOVERS = counted F.STK_EXCL_TAKEOVERS s ∧ Left t s.master (if s.stk.stepped then 4 else 5))) ∧
    (dev ∉ naks → exec (.claimNak dev) s = .next (stk_ { s.stk with claim := some (acks, dev :: naks) })) ∧
    (∃ u, Sets (stk_ { s.stk with claim := none }) u [F.STK_EXCL_CLAIMS_FAILED.up s] ∧
      exec .claimTimeout s = .next (u.event 0x0D09 [acks.length, s.voters.length / 2 + 1])))

/--  R282, R388 to R391, R401, R402, R404, R405, R407: membership, the link map and the cascade's hops. The model's choices that it rests on: log entries
8, 137, 140, 142, 143, 202 and 211. -/
def Obligations.StackMembersAndLinks : Prop := ∀ (s : State) (dev stepping cause dir d o k type vc src dst seq pid reason : Nat) (hops : Hop) (up empty : Bool)
    (p : Part) (links : List (Nat × Nat)) (replay : List (Nat × Nat × Nat × Nat × Hop × Nat)),
  let stk_ (x : Stk) : State := { s with stk := x }
  let shape := State.shapeOf s.shapeW s.shapeH
  let hop (u : State) (n : Nat) : Msg := ⟨.hop, (u.neighbour s.index n).getD 0, [type, vc, src, dst, hops.hops + 1, seq, b2n (hops.second || u.crosses n)], []⟩
  let frame := (type, vc, src, dst, hops, seq)
  let gone (why : Nat) : State := (stk_ { s.stk with discarded := s.stk.discarded + 1 }).event 0x0D0B [type, src, why]
  (s.Inv → s.memberState = 2 →
    (s.isMaster = false → ∃ t, exec .selfExclusion s = .next t ∧ Left t s.index 4 ∧ t.memberState = 3) ∧
    (∃ t, exec (.exclude s.index cause) s = .next t ∧ t.memberState = 3 ∧ t.isMember s.index = false) ∧
    (dev ≠ s.index → dev < 64 → s.isMember dev = true → cause < 16 → NoRecovery s → ∃ t, exec (.exclude dev cause) s = .next t ∧ Left t dev cause ∧ t.memberState = 2 ∧
      t.dram = s.dram ∧ (s.parts = [(pid, p)] → p.st = .forwarded → p.dev = dev → s.isDurable p.region = false →
        t.parts = [(pid, { p with st := .done, code := Code.unavailable, result := 0, doneLen := 0, rdata := [] })]))) ∧
  (s.index = 0 → s.memberState = 0 → s.stk.heardTime = false → s.f F.MGW_STATUS_PHASE = 1 → OnlySets .stackFormTimeout s
    [F.STK_STATUS_MEMBER_STATE.is 2, F.STK_MEMBERS_MEMBERS.is (withBit (s.f F.STK_MEMBERS_MEMBERS) 0 true), F.STK_STATUS_MASTER_IDX.is 0,
      F.STK_STATUS_MASTER_EPOCH.is 1, F.STK_STATUS_DEPUTY_NONE.is 1, F.STK_STATUS_DEVICES.is 1, F.STK_STATUS_LARGE.is 0]) ∧
  (Rules s →
    (dev < 64 → ∀ r, (r = 1 ∧ empty = false) ∨ (r = 2 ∧ empty = true ∧ stepping ≠ 0xB0) ∨ (r = 3 ∧ empty = true ∧ stepping = 0xB0 ∧ s.isMember dev = true) →
      ∃ u, Sent s u [cas dev 0x16 [2, r]] ∧ exec (.join dev stepping empty) s = .next (u.event 0x0D04 [dev, r])) ∧
    (dev < 64 → s.isMember dev = false → dev ∉ s.stk.joiners → ∃ t, exec (.join dev 0xB0 true) s = .next t ∧
      Sent (stk_ { s.stk with joiners := s.stk.joiners ++ [dev] }) t [cas dev 0x17 (0 :: s.wideWords.flatMap fun w => [w.1, w.2.toNat])])) ∧
  (s.memberState = 1 → OnlySets (.joinRefuse reason) s [F.STK_STATUS_MEMBER_STATE.is 0]) ∧
  (s.neighbour s.index dir = some d → s.octetOf dir = some o → dir < 4 → s.isMaster = false → (up = true → s.f F.LNK_STATUS_LANE_LOCK o = 0xFF) →
    ∃ t, exec (.cascadeLinkChange dir ⟨up, replay⟩) s = .next t ∧
    t.f (State.linkField dir) = ((if up then 1 else 0) <<< 15 ||| o <<< 8 ||| d) % 2 ^ 16 ∧ t.out.getLast? = some (cas s.master 0x18 [0x0B, s.index, dir, d, if up then 1 else 0]) ∧
    t.stk = { s.stk with again := if up then s.stk.again else s.stk.again ++ replay } ∧ t.dram = s.dram) ∧
  (s.memberState = 2 →
    let u := stk_ { s.stk with links := some links, heldFrames := [], again := [] }
    (s.stk.heldFrames = [] → s.stk.again = [] → exec (.linkMap links) s = .next u) ∧
    ((u.distance s.index dst).isSome = true → u.route dst = some k →
      (s.stk.heldFrames = [frame] → s.stk.again = [] → ∃ t, exec (.linkMap links) s = .next t ∧ t.stk = u.stk ∧ t.out.getLast? = some (hop u k) ∧
        t.f F.STK_RELAY_REROUTES = s.f F.STK_RELAY_REROUTES) ∧
      (s.stk.heldFrames = [] → s.stk.again = [frame] → ∃ t, exec (.linkMap links) s = .next t ∧ t.stk = u.stk ∧ t.out.getLast? = some (hop u k) ∧
        t.f F.STK_RELAY_REROUTES = counted F.STK_RELAY_REROUTES s))) ∧
  (type ∉ [0x01, 0x02, 0x0B, 0x10, 0x11, 0x12, 0x13, 0x14, 0x15, 0x16, 0x17, 0x18] →
    exec (.cascadeFrameHop type vc src dst hops seq) s = .next (gone 0)) ∧
  (type ∈ [0x01, 0x02, 0x0B, 0x10, 0x11, 0x12, 0x13, 0x14, 0x15, 0x16, 0x17, 0x18] →
    (15 ≤ hops.hops → exec (.cascadeFrameHop type vc src dst hops seq) s = .next (gone 1)) ∧
    (hops.hops < 15 → dst ≠ s.index → s.route dst = some k → ∃ t, exec (.cascadeFrameHop type vc src dst hops seq) s = .next t ∧ Sent s t [hop s k]) ∧
    (hops.hops < 15 → dst ≠ s.index → s.route dst = none → ∃ t, exec (.cascadeFrameHop type vc src dst hops seq) s = .next t ∧ t.out = s.out ∧
      t.stk = { s.stk with heldFrames := s.stk.heldFrames ++ [frame] }) ∧
    (hops.hops < 15 → dst = s.index → s.stk.ahead = [] → s.stk.nextIn.get 0 (src * 4 + vc) = seq → exec (.cascadeFrameHop type vc src dst hops seq) s = .next
      (stk_ { s.stk with nextIn := s.stk.nextIn.put (src * 4 + vc) (seq + 1), ahead := [] }))) ∧
  (dev ≠ s.index → dev < 64 → NoRecovery s → ∃ t, exec (.inServiceChange dev ⟨up, d, false⟩) s = .next t ∧ t.peers.at? dev = some d ∧ t.absent.contains dev = !up ∧ (∀ e, e ≠ dev → t.absent.contains e = s.absent.contains e) ∧
    (up = true → dev ∈ shape → t.isMember dev = true) ∧ t.dram = s.dram) ∧
  (dev ≠ s.index → dev < 64 → NoRecovery s → s.isMaster = true → s.memberState = 2 → ∃ t, exec (.inServiceChange dev ⟨up, d, true⟩) s = .next t ∧ Left t dev 6 ∧
    t.dram = s.dram)

/-! Security and the recorder (R409 to R449). -/

/--  R410, R417, R423, R427, R428, R437, R438, R448: the random source's health, the end of a key rotation, the attestation report; the keeper orders a
seal and writes its record; an hour's frame is stored and the next one opens, a checkpoint keeps the open frame, the selected frame is loaded; the
junction temperature ages the device. The model's choices that it rests on: log entries 13, 152, 153, 156, 208 and 212. -/
def Obligations.SecurityAndRecorder : Prop := ∀ (s : State) (test slot secs upto cal at_ n : Nat) (v : Int) (d : SealDue) (rest : List SealDue),
  let l := s.logSt slot
  let ordered : SealDue := ⟨l.sealSeq + 1, if l.kind3 then 3 else 1, l.fromOff, upto, cal, at_, n⟩
  let told := l.waiters.map fun w => if w.2.isNone then (w.1, some (l.sealSeq + 1)) else w
  SetsPosts (.rngHealthFail test) s [F.SEC_STATUS_RNG_OK.is 0] 0x0E0B [test] ∧
  OnlySets .rngHealthPass s [F.SEC_STATUS_RNG_OK.is 1] ∧
  (s.flag F.SEC_STATUS_ROTATING = true → ∃ u w, u = { s with flash := { s.flash with homes := u.flash.homes, iv := u.flash.iv } } ∧
    s.flash.iv ≤ u.flash.iv ∧ (∀ g r, u.flash.homes.at? g = some r → r.keyGen = s.f F.SEC_STATUS_FLASH_KEY_GEN ∧
      ∃ x, s.flash.homes.at? g = some x ∧ r = { x with keyGen := r.keyGen, iv := r.iv }) ∧
    Sets u w [F.SEC_STATUS_ROTATING.is 0] ∧ exec .flashKeyRotationDone s = .next (w.event 0x0E07 [s.f F.SEC_STATUS_FLASH_KEY_GEN, 1])) ∧
  (s.sec.attest = true → s.attestReport.length = 256 ∧ ∃ u, u = { s with sec := { s.sec with report := s.attestReport, attest := false, reports := s.sec.reports + 1 } } ∧
    exec .attestReportReady s = .next (u.event 0x0E0C [s.sec.reports + 1])) ∧
  (slot < 256 → s.flash.run = none →
    ((s.logSt slot).mark = some (upto, cal, at_, n) → s.isKeeper slot = true → ∃ t, exec (.scheduledSeal slot) s = .next t ∧ t = { s with logs := t.logs } ∧
      (∀ k, k ≠ slot → t.logs.at? k = s.logs.at? k) ∧ t.logSt slot = { l with sealSeq := l.sealSeq + 1, fromOff := upto, kind3 := false, mark := none, due := l.due ++ [ordered], waiters := told }) ∧
    ((s.logSt slot).due = d :: rest → s.logValid slot = true → s.dram.unsettled = [] → s.parts = [] → ∃ t p, exec (.sealRecordWrite slot) s = .next t ∧
      PartIs t s.nextPart p ∧ p.org = .seal slot d.seq ∧ p.kind = .unit ∧ p.region = s.sealRegion slot ∧ p.len = 256 ∧
      p.off = 256 * (d.seq % (s.regionLen (s.sealRegion slot) * 256)) ∧ p.data = s.sealRecord slot d)) ∧
  (s.recorderFlash = true →
    let p := s.recd.frame.powerStart + secs
    let f : Frame := { s.recd.frame with seconds := secs }
    (3600 ≤ secs → ∃ t x, exec (.frameClose secs ⟨[], true⟩) s = .next t ∧ t.recd.ring.at? (s.f F.REC_RING_NEXT_SEQ) = some x ∧ x.seq = s.f F.REC_RING_NEXT_SEQ ∧
      x.seconds = secs ∧ x.calStart = s.recd.frame.calStart ∧ t.f F.REC_RING_NEXT_SEQ = (s.f F.REC_RING_NEXT_SEQ + 1) % 2 ^ 32 ∧ t.recd.checkpoint = none ∧
      t.recd.frame = { Frame.empty with calValid := s.calValid, calStart := s.calNow, powerStart := p } ∧ t.flash.iv = s.flash.iv + 1 ∧ t.dram = s.dram) ∧
    (3600 ≤ secs → ∃ t, exec (.frameClose secs ⟨[], false⟩) s = .next t ∧ t.recd.ring = s.recd.ring ∧ t.f F.REC_RING_NEXT_SEQ = (s.f F.REC_RING_NEXT_SEQ + 1) % 2 ^ 32 ∧
      t.f F.REC_STATS_FRAMES_LOST = counted F.REC_STATS_FRAMES_LOST s ∧ t.recd.frame.gap = true ∧
      t.recd.frame.lostHours = min 0xFFFF (s.recd.frame.lostHours + (secs + 3599) / 3600) ∧ t.dram = s.dram) ∧
    (∃ t, exec (.recorderCheckpoint secs) s = .next t ∧
      Sets { s with flash := { s.flash with iv := s.flash.iv + 1 }, recd := { s.recd with powered := p, frame := f, checkpoint := some f } } t [F.HL_LIFE_POWER_HOURS.is (p / 3600)])) ∧
  (s.recd.loading = true →
    let x := if s.flag F.REC_SEL_LIFE then s.recd.life.at? (s.f F.REC_SEL_FRAME) else s.recd.ring.at? (s.f F.REC_SEL_FRAME)
    ∃ t, exec .frameLoadDone s = .next t ∧ Sets { s with recd := { s.recd with loading := false, loaded := x } } t
      [F.REC_SEL_LOADED.is (if x.isSome then 1 else 0), F.REC_SEL_MISSING.is (if x.isSome then 0 else 1)]) ∧
  (∃ t, exec (.junctionSensorRead v) s = .next t ∧ t.dram = s.dram ∧ t.queues = s.queues ∧
    t.recd.eq80 = s.recd.eq80 + Config.exp ((81235 : Rat) / 10 * (1 / ((35315 : Rat) / 100) - 1 / ((v : Rat) / 8 + (27315 : Rat) / 100))) / 3600 ∧
    t.f F.HL_LIFE_EQ80_HOURS = t.recd.eq80.floor.toNat % 2 ^ 32 ∧
    t.f F.HL_LIFE_PCT_TJ_MAX_C = max (s.f F.HL_LIFE_PCT_TJ_MAX_C) (min 255 (v / 8).toNat))

/--  R412: no command lowers the rollback floor, and none raises it above the SVN of the firmware that runs, or without a token in a closed group. -/
def Obligations.FloorNeverFalls : Prop := ∀ (c : Instr) (s t : State), s.Inv → exec c s = .next t →
  s.f F.SEC_STATUS_FLOOR ≤ t.f F.SEC_STATUS_FLOOR ∧ t.f F.SEC_STATUS_FLOOR ≤ max (s.f F.SEC_STATUS_FLOOR) (s.f F.SEC_STATUS_FW_SVN) ∧
    (s.f F.SEC_STATUS_FLOOR < t.f F.SEC_STATUS_FLOOR → ∃ g ∈ s.stage.groups, State.stagesToken g.words = true)

/-! The machine. -/

/--  A step takes the command at the front of the queue and runs it with the rest of the queue. -/
def Obligations.StepRunsTheFront : Prop := ∀ (s : State) (c : Instr) (rest : List Instr), s.pending = c :: rest →
  Machine.step s = exec c { s with pending := rest }

/--  On an empty queue a step is one nanosecond (the model's choice): stack time counts it, the calendar goes on, and where no budget falls due nothing
else changes. The model's choices that it rests on: log entry 4. -/
def Obligations.AnEmptyQueueTicks : Prop := ∀ s : State, s.pending = [] → s.flash.budgetAt = none →
  ∃ t, Machine.step s = .next t ∧ t = { s with time := t.time, stk := t.stk, recd := t.recd } ∧
    t.time = (if s.stk.slew = 0 ∨ s.stk.slewTick < 9999 then s.time + 1 else if 0 < s.stk.slew then s.time + 2 else s.time) ∧
    t.recd = { s.recd with rtc := t.recd.rtc, slew := t.recd.slew } ∧ (s.recd.slew = 0 → t.recd.slew = 0) ∧
    (s.recd.slew = 0 → s.f F.REC_TRIMSTAT_RATE_PPB = 0 → t.recd.rtc = s.recd.rtc + 1000000000)

/--  Every command completes from every state, with a next state, and leaves the queue of the commands that wait alone. The model's choices that it rests
on: log entry 2. -/
def Obligations.EveryCommandCompletes : Prop := ∀ (c : Instr) (s : State), ∃ t, exec c s = .next t ∧ t.pending = s.pending

/--  The state after reset: every control word reads its After reset value (R6), nothing is under way, memory reads 0, no command waits, and the
invariant holds. The model's choices that it rests on: log entry 17. -/
def Obligations.ResetState : Prop :=
  State.reset.Inv ∧ CoreGone State.reset ∧ State.reset.reach = [] ∧ State.reset.pending = [] ∧ (∀ k, State.reset.word k = resetWord k) ∧
    (∀ a, State.reset.dram.mem.get 0 a = 0) ∧ State.reset.flash.homes = [] ∧ State.reset.flash.image = none

/--  The invariant holds after every step from every state in which it holds: memory and the control words stay in their canonical forms, and the straps
stay a position of the 8 by 8 torus. The model's choices that it rests on: log entry 6. -/
def Obligations.InvariantKept : Prop := ∀ s t : State, s.Inv → Machine.step s = .next t → t.Inv
end

