-- ==== Sys2Proof/Decode.lean ====
section
/-! DEFINITION. The command that a word spells by the bits of spec/opcode_table.json. The table gives bits to none of its rows
(its fields are empty): a command is told by its mnemonic and operands, and no word spells one. -/

namespace Sys2Proof

/-- No row of the table has bits, so no word decodes to a command. -/
def decodeTableWord (_nbits _w : Nat) : Option Instr := none

end Sys2Proof
end

