-- ==== Sys2Proof/Laws/Maps.lean ====
section
/-! SUPPORT. Sparse maps: a read after a write, and the canonical form, which every operation keeps; the bits of a number. -/

namespace Sys2Proof

namespace SMap

variable {α : Type}

@[simp] theorem at?_put_same (m : SMap α) (k : Nat) (v : α) : (m.put k v).at? k = some v := by
  induction m with
  | nil => simp [put, at?]
  | cons e t ih =>
    obtain ⟨a, b⟩ := e
    unfold put
    split
    · simp [at?]
    · split
      · simp [at?]
      · rename_i h; simp [at?, ih, Ne.symm h]

theorem at?_put_ne (m : SMap α) {k k' : Nat} (v : α) (h : k' ≠ k) : (m.put k v).at? k' = m.at? k' := by
  induction m with
  | nil => simp [put, at?, Ne.symm h]
  | cons e t ih =>
    obtain ⟨a, b⟩ := e
    unfold put
    split
    · simp [at?, Ne.symm h]
    · split
      · rename_i e; subst e; simp [at?, Ne.symm h]
      · simp [at?, ih]

@[simp] theorem at?_del_same (m : SMap α) (k : Nat) : (m.del k).at? k = none := by
  induction m with
  | nil => rfl
  | cons e t ih =>
    obtain ⟨a, b⟩ := e
    by_cases h : a = k
    · simp only [del] at ih; simp [del, h, ih]
    · simp only [del] at ih; simp [del, h, at?, ih]

theorem at?_del_ne (m : SMap α) {k k' : Nat} (h : k' ≠ k) : (m.del k).at? k' = m.at? k' := by
  induction m with
  | nil => rfl
  | cons e t ih =>
    obtain ⟨a, b⟩ := e
    simp only [del] at ih
    by_cases ha : a = k
    · subst ha; simp [del, at?, ih, Ne.symm h]
    · simp [del, ha, at?, ih]

/-- A key reads as what was written to it. -/
@[simp] theorem get_set_same [DecidableEq α] (m : SMap α) (d : α) (k : Nat) (v : α) : (m.set d k v).get d k = v := by
  unfold set get
  split <;> simp_all

/-- A write leaves every other key alone. -/
theorem get_set_ne [DecidableEq α] (m : SMap α) (d d' : α) {k k' : Nat} (v : α) (h : k' ≠ k) :
    (m.set d k v).get d' k' = m.get d' k' := by
  unfold set get
  split
  · rw [at?_del_ne m h]
  · rw [at?_put_ne m v h]

/-! The canonical form. -/

/-- The keys rise: the head's is below every other, and the tail's rise. -/
theorem sorted_cons {e : Nat × α} {m : SMap α} : sorted (e :: m) = true ↔ (∀ x ∈ m, e.1 < x.1) ∧ sorted m = true := by
  induction m generalizing e with
  | nil => simp [sorted]
  | cons f t ih =>
    obtain ⟨a, b⟩ := e
    obtain ⟨c, d⟩ := f
    simp only [sorted, Bool.and_eq_true, decide_eq_true_eq]
    constructor
    · rintro ⟨h, ht⟩
      refine ⟨fun x hx => ?_, ht⟩
      rcases List.mem_cons.mp hx with rfl | hx
      · exact h
      · exact lt_trans h ((ih.mp ht).1 x hx)
    · rintro ⟨h, ht⟩
      exact ⟨h _ List.mem_cons_self, ht⟩

theorem mem_put {m : SMap α} {k : Nat} {v : α} {x : Nat × α} (h : x ∈ m.put k v) : x = (k, v) ∨ x ∈ m := by
  induction m with
  | nil => simp [put] at h; exact .inl h
  | cons e t ih =>
    obtain ⟨a, b⟩ := e
    unfold put at h
    split at h
    · rcases List.mem_cons.mp h with h | h
      · exact .inl h
      · exact .inr h
    · split at h
      · rcases List.mem_cons.mp h with h | h
        · exact .inl h
        · exact .inr (List.mem_cons_of_mem _ h)
      · rcases List.mem_cons.mp h with h | h
        · exact .inr (h ▸ List.mem_cons_self)
        · rcases ih h with h | h
          · exact .inl h
          · exact .inr (List.mem_cons_of_mem _ h)

theorem sorted_put {m : SMap α} (k : Nat) (v : α) (h : m.sorted = true) : (m.put k v).sorted = true := by
  induction m with
  | nil => rfl
  | cons e t ih =>
    obtain ⟨a, b⟩ := e
    have ⟨h1, h2⟩ := sorted_cons.mp h
    unfold put
    split
    · rename_i hk
      refine sorted_cons.mpr ⟨fun x hx => ?_, h⟩
      rcases List.mem_cons.mp hx with rfl | hx
      · exact hk
      · exact lt_trans hk (h1 x hx)
    · split
      · rename_i e; subst e; exact sorted_cons.mpr ⟨h1, h2⟩
      · refine sorted_cons.mpr ⟨fun x hx => ?_, ih h2⟩
        rcases mem_put hx with rfl | hx
        · show a < k; omega
        · exact h1 x hx

theorem sorted_filter {m : SMap α} (p : Nat × α → Bool) (h : m.sorted = true) : sorted (m.filter p) = true := by
  induction m with
  | nil => rfl
  | cons e t ih =>
    have ⟨h1, h2⟩ := sorted_cons.mp h
    by_cases hp : p e = true
    · rw [List.filter_cons_of_pos hp]
      exact sorted_cons.mpr ⟨fun x hx => h1 x (List.mem_of_mem_filter hx), ih h2⟩
    · rw [List.filter_cons_of_neg hp]; exact ih h2

/-- A write keeps the canonical form, if it names the value that the key reads as when it is not listed. -/
theorem wf_set [DecidableEq α] {d : Nat → α} {m : SMap α} (k : Nat) (v : α) (h : m.wf d = true) :
    (m.set (d k) k v).wf d = true := by
  simp only [wf, Bool.and_eq_true, tight, List.all_eq_true, decide_eq_true_eq] at h ⊢
  unfold set
  split
  · exact ⟨sorted_filter _ h.1, fun x hx => h.2 x (List.mem_of_mem_filter hx)⟩
  · rename_i hv
    refine ⟨sorted_put k v h.1, fun x hx => ?_⟩
    rcases mem_put hx with rfl | hx
    · exact hv
    · exact h.2 x hx

/-- The empty map is canonical. -/
theorem wf_nil [DecidableEq α] (d : Nat → α) : wf d ([] : SMap α) = true := rfl

/-- A canonical map that only drops entries stays canonical. -/
theorem wf_filter [DecidableEq α] {d : Nat → α} {m : SMap α} (p : Nat × α → Bool) (h : m.wf d = true) : wf d (m.filter p) = true := by
  simp only [wf, Bool.and_eq_true, tight, List.all_eq_true] at h ⊢
  exact ⟨sorted_filter p h.1, fun x hx => h.2 x (List.mem_of_mem_filter hx)⟩

end SMap

/-! Bits. -/

theorem testBit_bits (v hi lo i : Nat) : (bits v hi lo).testBit i = (decide (i < hi + 1 - lo) && v.testBit (lo + i)) := by
  simp [bits, Nat.testBit_mod_two_pow, Nat.testBit_shiftRight]

theorem setBits_eq (v hi lo x : Nat) :
    setBits v hi lo x = 2 ^ lo * (2 ^ (hi + 1 - lo) * (v / 2 ^ lo / 2 ^ (hi + 1 - lo)) + x % 2 ^ (hi + 1 - lo)) + v % 2 ^ lo := by
  unfold setBits bits
  simp only [Nat.shiftRight_eq_div_pow, Nat.shiftLeft_eq]
  generalize 2 ^ (hi + 1 - lo) = w
  generalize 2 ^ lo = l
  have h1 := Nat.div_add_mod v l
  have h2 := Nat.div_add_mod (v / l) w
  have h3 : v = l * (w * (v / l / w) + v / l % w) + v % l := by rw [h2]; exact h1.symm
  have h4 : v - v / l % w * l = l * (w * (v / l / w)) + v % l := by
    have : l * (w * (v / l / w) + v / l % w) = l * (w * (v / l / w)) + v / l % w * l := by ring
    omega
  rw [h4]; ring

theorem testBit_setBits (v hi lo x i : Nat) (h : lo ≤ hi) :
    (setBits v hi lo x).testBit i = if lo ≤ i ∧ i ≤ hi then x.testBit (i - lo) else v.testBit i := by
  rw [setBits_eq, Nat.testBit_two_pow_mul_add _ (Nat.mod_lt _ (Nat.two_pow_pos _))]
  by_cases h1 : i < lo
  · simp [h1, Nat.testBit_mod_two_pow, show ¬ (lo ≤ i ∧ i ≤ hi) by omega]
  · rw [if_neg h1, Nat.testBit_two_pow_mul_add _ (Nat.mod_lt _ (Nat.two_pow_pos _))]
    by_cases h2 : i ≤ hi
    · have h3 : i - lo < hi + 1 - lo := by omega
      simp [h3, Nat.testBit_mod_two_pow, show lo ≤ i ∧ i ≤ hi by omega]
    · have h3 : ¬ i - lo < hi + 1 - lo := by omega
      have h4 : lo + (hi + 1 - lo + (i - lo - (hi + 1 - lo))) = i := by omega
      simp [h3, show ¬ (lo ≤ i ∧ i ≤ hi) by omega, ← Nat.shiftRight_eq_div_pow, Nat.testBit_shiftRight, h4]

/-- A field reads as the low bits of what was written to it. -/
theorem bits_setBits_same (v hi lo x : Nat) (h : lo ≤ hi) : bits (setBits v hi lo x) hi lo = x % 2 ^ (hi + 1 - lo) := by
  refine Nat.eq_of_testBit_eq fun i => ?_
  rw [testBit_bits, testBit_setBits _ _ _ _ _ h, Nat.testBit_mod_two_pow]
  by_cases hi' : i < hi + 1 - lo
  · rw [if_pos (by omega), Nat.add_sub_cancel_left]
  · simp [hi']

/-- A field leaves the fields beside it alone. -/
theorem bits_setBits_other (v hi lo x hi' lo' : Nat) (h : lo ≤ hi) (d : hi < lo' ∨ hi' < lo) :
    bits (setBits v hi lo x) hi' lo' = bits v hi' lo' := by
  refine Nat.eq_of_testBit_eq fun i => ?_
  simp only [testBit_bits, testBit_setBits _ _ _ _ _ h]
  by_cases hi2 : i < hi' + 1 - lo'
  · rw [if_neg (by omega)]
  · simp [hi2]

/-- A field of the low 64 bits. -/
theorem bits_mod (v hi lo n : Nat) (h : hi < n) : bits (v % 2 ^ n) hi lo = bits v hi lo := by
  refine Nat.eq_of_testBit_eq fun i => ?_
  simp only [testBit_bits, Nat.testBit_mod_two_pow]
  by_cases h1 : i < hi + 1 - lo
  · simp [show lo + i < n by omega]
  · simp [h1]

end Sys2Proof
end

