-- ==== Sys2Proof/Laws/State.lean ====
section
/-! SUPPORT. What each update of the state does to each of its fields. -/

namespace Sys2Proof.Machine.State

/-! A control word written. -/

@[simp] theorem setWord_ctl (s : State) (k : Nat) (v : U64) : (s.setWord k v).ctl = s.ctl.set (resetWord k) k v := rfl
@[simp] theorem setWord_written (s : State) (k : Nat) (v : U64) : (s.setWord k v).written = s.written :=
    (fun m => (rfl : ({ s with ctl := m } : State).written = s.written)) (s.setWord k v).ctl
@[simp] theorem setWord_out (s : State) (k : Nat) (v : U64) : (s.setWord k v).out = s.out :=
    (fun m => (rfl : ({ s with ctl := m } : State).out = s.out)) (s.setWord k v).ctl
@[simp] theorem setWord_fv (s : State) (k : Nat) (v : U64) : (s.setWord k v).fv = s.fv :=
    (fun m => (rfl : ({ s with ctl := m } : State).fv = s.fv)) (s.setWord k v).ctl
@[simp] theorem setWord_time (s : State) (k : Nat) (v : U64) : (s.setWord k v).time = s.time :=
    (fun m => (rfl : ({ s with ctl := m } : State).time = s.time)) (s.setWord k v).ctl
@[simp] theorem setWord_strapX (s : State) (k : Nat) (v : U64) : (s.setWord k v).strapX = s.strapX :=
    (fun m => (rfl : ({ s with ctl := m } : State).strapX = s.strapX)) (s.setWord k v).ctl
@[simp] theorem setWord_strapY (s : State) (k : Nat) (v : U64) : (s.setWord k v).strapY = s.strapY :=
    (fun m => (rfl : ({ s with ctl := m } : State).strapY = s.strapY)) (s.setWord k v).ctl
@[simp] theorem setWord_reach (s : State) (k : Nat) (v : U64) : (s.setWord k v).reach = s.reach :=
    (fun m => (rfl : ({ s with ctl := m } : State).reach = s.reach)) (s.setWord k v).ctl
@[simp] theorem setWord_evq (s : State) (k : Nat) (v : U64) : (s.setWord k v).evq = s.evq :=
    (fun m => (rfl : ({ s with ctl := m } : State).evq = s.evq)) (s.setWord k v).ctl
@[simp] theorem setWord_dram (s : State) (k : Nat) (v : U64) : (s.setWord k v).dram = s.dram :=
    (fun m => (rfl : ({ s with ctl := m } : State).dram = s.dram)) (s.setWord k v).ctl
@[simp] theorem setWord_caches (s : State) (k : Nat) (v : U64) : (s.setWord k v).caches = s.caches :=
    (fun m => (rfl : ({ s with ctl := m } : State).caches = s.caches)) (s.setWord k v).ctl
@[simp] theorem setWord_bufs (s : State) (k : Nat) (v : U64) : (s.setWord k v).bufs = s.bufs :=
    (fun m => (rfl : ({ s with ctl := m } : State).bufs = s.bufs)) (s.setWord k v).ctl
@[simp] theorem setWord_twin (s : State) (k : Nat) (v : U64) : (s.setWord k v).twin = s.twin :=
    (fun m => (rfl : ({ s with ctl := m } : State).twin = s.twin)) (s.setWord k v).ctl
@[simp] theorem setWord_parts (s : State) (k : Nat) (v : U64) : (s.setWord k v).parts = s.parts :=
    (fun m => (rfl : ({ s with ctl := m } : State).parts = s.parts)) (s.setWord k v).ctl
@[simp] theorem setWord_nextPart (s : State) (k : Nat) (v : U64) : (s.setWord k v).nextPart = s.nextPart :=
    (fun m => (rfl : ({ s with ctl := m } : State).nextPart = s.nextPart)) (s.setWord k v).ctl
@[simp] theorem setWord_logs (s : State) (k : Nat) (v : U64) : (s.setWord k v).logs = s.logs :=
    (fun m => (rfl : ({ s with ctl := m } : State).logs = s.logs)) (s.setWord k v).ctl
@[simp] theorem setWord_queues (s : State) (k : Nat) (v : U64) : (s.setWord k v).queues = s.queues :=
    (fun m => (rfl : ({ s with ctl := m } : State).queues = s.queues)) (s.setWord k v).ctl
@[simp] theorem setWord_rates (s : State) (k : Nat) (v : U64) : (s.setWord k v).rates = s.rates :=
    (fun m => (rfl : ({ s with ctl := m } : State).rates = s.rates)) (s.setWord k v).ctl
@[simp] theorem setWord_icmp (s : State) (k : Nat) (v : U64) : (s.setWord k v).icmp = s.icmp :=
    (fun m => (rfl : ({ s with ctl := m } : State).icmp = s.icmp)) (s.setWord k v).ctl
@[simp] theorem setWord_tp (s : State) (k : Nat) (v : U64) : (s.setWord k v).tp = s.tp :=
    (fun m => (rfl : ({ s with ctl := m } : State).tp = s.tp)) (s.setWord k v).ctl
@[simp] theorem setWord_spates (s : State) (k : Nat) (v : U64) : (s.setWord k v).spates = s.spates :=
    (fun m => (rfl : ({ s with ctl := m } : State).spates = s.spates)) (s.setWord k v).ctl
@[simp] theorem setWord_fiddles (s : State) (k : Nat) (v : U64) : (s.setWord k v).fiddles = s.fiddles :=
    (fun m => (rfl : ({ s with ctl := m } : State).fiddles = s.fiddles)) (s.setWord k v).ctl
@[simp] theorem setWord_spent (s : State) (k : Nat) (v : U64) : (s.setWord k v).spent = s.spent :=
    (fun m => (rfl : ({ s with ctl := m } : State).spent = s.spent)) (s.setWord k v).ctl
@[simp] theorem setWord_eng (s : State) (k : Nat) (v : U64) : (s.setWord k v).eng = s.eng :=
    (fun m => (rfl : ({ s with ctl := m } : State).eng = s.eng)) (s.setWord k v).ctl
@[simp] theorem setWord_stage (s : State) (k : Nat) (v : U64) : (s.setWord k v).stage = s.stage :=
    (fun m => (rfl : ({ s with ctl := m } : State).stage = s.stage)) (s.setWord k v).ctl
@[simp] theorem setWord_flash (s : State) (k : Nat) (v : U64) : (s.setWord k v).flash = s.flash :=
    (fun m => (rfl : ({ s with ctl := m } : State).flash = s.flash)) (s.setWord k v).ctl
@[simp] theorem setWord_streams (s : State) (k : Nat) (v : U64) : (s.setWord k v).streams = s.streams :=
    (fun m => (rfl : ({ s with ctl := m } : State).streams = s.streams)) (s.setWord k v).ctl
@[simp] theorem setWord_absent (s : State) (k : Nat) (v : U64) : (s.setWord k v).absent = s.absent :=
    (fun m => (rfl : ({ s with ctl := m } : State).absent = s.absent)) (s.setWord k v).ctl
@[simp] theorem setWord_peers (s : State) (k : Nat) (v : U64) : (s.setWord k v).peers = s.peers :=
    (fun m => (rfl : ({ s with ctl := m } : State).peers = s.peers)) (s.setWord k v).ctl
@[simp] theorem setWord_drains (s : State) (k : Nat) (v : U64) : (s.setWord k v).drains = s.drains :=
    (fun m => (rfl : ({ s with ctl := m } : State).drains = s.drains)) (s.setWord k v).ctl
@[simp] theorem setWord_chans (s : State) (k : Nat) (v : U64) : (s.setWord k v).chans = s.chans :=
    (fun m => (rfl : ({ s with ctl := m } : State).chans = s.chans)) (s.setWord k v).ctl
@[simp] theorem setWord_scrub (s : State) (k : Nat) (v : U64) : (s.setWord k v).scrub = s.scrub :=
    (fun m => (rfl : ({ s with ctl := m } : State).scrub = s.scrub)) (s.setWord k v).ctl
@[simp] theorem setWord_tablesLost (s : State) (k : Nat) (v : U64) : (s.setWord k v).tablesLost = s.tablesLost :=
    (fun m => (rfl : ({ s with ctl := m } : State).tablesLost = s.tablesLost)) (s.setWord k v).ctl
@[simp] theorem setWord_supply (s : State) (k : Nat) (v : U64) : (s.setWord k v).supply = s.supply :=
    (fun m => (rfl : ({ s with ctl := m } : State).supply = s.supply)) (s.setWord k v).ctl
@[simp] theorem setWord_stk (s : State) (k : Nat) (v : U64) : (s.setWord k v).stk = s.stk :=
    (fun m => (rfl : ({ s with ctl := m } : State).stk = s.stk)) (s.setWord k v).ctl
@[simp] theorem setWord_sec (s : State) (k : Nat) (v : U64) : (s.setWord k v).sec = s.sec :=
    (fun m => (rfl : ({ s with ctl := m } : State).sec = s.sec)) (s.setWord k v).ctl
@[simp] theorem setWord_recd (s : State) (k : Nat) (v : U64) : (s.setWord k v).recd = s.recd :=
    (fun m => (rfl : ({ s with ctl := m } : State).recd = s.recd)) (s.setWord k v).ctl
@[simp] theorem setWord_pins (s : State) (k : Nat) (v : U64) : (s.setWord k v).pins = s.pins :=
    (fun m => (rfl : ({ s with ctl := m } : State).pins = s.pins)) (s.setWord k v).ctl
@[simp] theorem setWord_pending (s : State) (k : Nat) (v : U64) : (s.setWord k v).pending = s.pending :=
    (fun m => (rfl : ({ s with ctl := m } : State).pending = s.pending)) (s.setWord k v).ctl

/-! A field set. -/

@[simp] theorem setF_ctl (s : State) (x : Fld) (v r w : Nat) : (s.setF x v r w).ctl = s.ctl.set (resetWord (x.key r w)) (x.key r w)
    (BitVec.ofNat 64 (setBits (s.word (x.key r w)).toNat x.hi x.lo v)) :=
    rfl
@[simp] theorem setF_written (s : State) (x : Fld) (v r w : Nat) : (s.setF x v r w).written = s.written :=
    (fun m => (rfl : ({ s with ctl := m } : State).written = s.written)) (s.setF x v r w).ctl
@[simp] theorem setF_out (s : State) (x : Fld) (v r w : Nat) : (s.setF x v r w).out = s.out :=
    (fun m => (rfl : ({ s with ctl := m } : State).out = s.out)) (s.setF x v r w).ctl
@[simp] theorem setF_fv (s : State) (x : Fld) (v r w : Nat) : (s.setF x v r w).fv = s.fv :=
    (fun m => (rfl : ({ s with ctl := m } : State).fv = s.fv)) (s.setF x v r w).ctl
@[simp] theorem setF_time (s : State) (x : Fld) (v r w : Nat) : (s.setF x v r w).time = s.time :=
    (fun m => (rfl : ({ s with ctl := m } : State).time = s.time)) (s.setF x v r w).ctl
@[simp] theorem setF_strapX (s : State) (x : Fld) (v r w : Nat) : (s.setF x v r w).strapX = s.strapX :=
    (fun m => (rfl : ({ s with ctl := m } : State).strapX = s.strapX)) (s.setF x v r w).ctl
@[simp] theorem setF_strapY (s : State) (x : Fld) (v r w : Nat) : (s.setF x v r w).strapY = s.strapY :=
    (fun m => (rfl : ({ s with ctl := m } : State).strapY = s.strapY)) (s.setF x v r w).ctl
@[simp] theorem setF_reach (s : State) (x : Fld) (v r w : Nat) : (s.setF x v r w).reach = s.reach :=
    (fun m => (rfl : ({ s with ctl := m } : State).reach = s.reach)) (s.setF x v r w).ctl
@[simp] theorem setF_evq (s : State) (x : Fld) (v r w : Nat) : (s.setF x v r w).evq = s.evq :=
    (fun m => (rfl : ({ s with ctl := m } : State).evq = s.evq)) (s.setF x v r w).ctl
@[simp] theorem setF_dram (s : State) (x : Fld) (v r w : Nat) : (s.setF x v r w).dram = s.dram :=
    (fun m => (rfl : ({ s with ctl := m } : State).dram = s.dram)) (s.setF x v r w).ctl
@[simp] theorem setF_caches (s : State) (x : Fld) (v r w : Nat) : (s.setF x v r w).caches = s.caches :=
    (fun m => (rfl : ({ s with ctl := m } : State).caches = s.caches)) (s.setF x v r w).ctl
@[simp] theorem setF_bufs (s : State) (x : Fld) (v r w : Nat) : (s.setF x v r w).bufs = s.bufs :=
    (fun m => (rfl : ({ s with ctl := m } : State).bufs = s.bufs)) (s.setF x v r w).ctl
@[simp] theorem setF_twin (s : State) (x : Fld) (v r w : Nat) : (s.setF x v r w).twin = s.twin :=
    (fun m => (rfl : ({ s with ctl := m } : State).twin = s.twin)) (s.setF x v r w).ctl
@[simp] theorem setF_parts (s : State) (x : Fld) (v r w : Nat) : (s.setF x v r w).parts = s.parts :=
    (fun m => (rfl : ({ s with ctl := m } : State).parts = s.parts)) (s.setF x v r w).ctl
@[simp] theorem setF_nextPart (s : State) (x : Fld) (v r w : Nat) : (s.setF x v r w).nextPart = s.nextPart :=
    (fun m => (rfl : ({ s with ctl := m } : State).nextPart = s.nextPart)) (s.setF x v r w).ctl
@[simp] theorem setF_logs (s : State) (x : Fld) (v r w : Nat) : (s.setF x v r w).logs = s.logs :=
    (fun m => (rfl : ({ s with ctl := m } : State).logs = s.logs)) (s.setF x v r w).ctl
@[simp] theorem setF_queues (s : State) (x : Fld) (v r w : Nat) : (s.setF x v r w).queues = s.queues :=
    (fun m => (rfl : ({ s with ctl := m } : State).queues = s.queues)) (s.setF x v r w).ctl
@[simp] theorem setF_rates (s : State) (x : Fld) (v r w : Nat) : (s.setF x v r w).rates = s.rates :=
    (fun m => (rfl : ({ s with ctl := m } : State).rates = s.rates)) (s.setF x v r w).ctl
@[simp] theorem setF_icmp (s : State) (x : Fld) (v r w : Nat) : (s.setF x v r w).icmp = s.icmp :=
    (fun m => (rfl : ({ s with ctl := m } : State).icmp = s.icmp)) (s.setF x v r w).ctl
@[simp] theorem setF_tp (s : State) (x : Fld) (v r w : Nat) : (s.setF x v r w).tp = s.tp :=
    (fun m => (rfl : ({ s with ctl := m } : State).tp = s.tp)) (s.setF x v r w).ctl
@[simp] theorem setF_spates (s : State) (x : Fld) (v r w : Nat) : (s.setF x v r w).spates = s.spates :=
    (fun m => (rfl : ({ s with ctl := m } : State).spates = s.spates)) (s.setF x v r w).ctl
@[simp] theorem setF_fiddles (s : State) (x : Fld) (v r w : Nat) : (s.setF x v r w).fiddles = s.fiddles :=
    (fun m => (rfl : ({ s with ctl := m } : State).fiddles = s.fiddles)) (s.setF x v r w).ctl
@[simp] theorem setF_spent (s : State) (x : Fld) (v r w : Nat) : (s.setF x v r w).spent = s.spent :=
    (fun m => (rfl : ({ s with ctl := m } : State).spent = s.spent)) (s.setF x v r w).ctl
@[simp] theorem setF_eng (s : State) (x : Fld) (v r w : Nat) : (s.setF x v r w).eng = s.eng :=
    (fun m => (rfl : ({ s with ctl := m } : State).eng = s.eng)) (s.setF x v r w).ctl
@[simp] theorem setF_stage (s : State) (x : Fld) (v r w : Nat) : (s.setF x v r w).stage = s.stage :=
    (fun m => (rfl : ({ s with ctl := m } : State).stage = s.stage)) (s.setF x v r w).ctl
@[simp] theorem setF_flash (s : State) (x : Fld) (v r w : Nat) : (s.setF x v r w).flash = s.flash :=
    (fun m => (rfl : ({ s with ctl := m } : State).flash = s.flash)) (s.setF x v r w).ctl
@[simp] theorem setF_streams (s : State) (x : Fld) (v r w : Nat) : (s.setF x v r w).streams = s.streams :=
    (fun m => (rfl : ({ s with ctl := m } : State).streams = s.streams)) (s.setF x v r w).ctl
@[simp] theorem setF_absent (s : State) (x : Fld) (v r w : Nat) : (s.setF x v r w).absent = s.absent :=
    (fun m => (rfl : ({ s with ctl := m } : State).absent = s.absent)) (s.setF x v r w).ctl
@[simp] theorem setF_peers (s : State) (x : Fld) (v r w : Nat) : (s.setF x v r w).peers = s.peers :=
    (fun m => (rfl : ({ s with ctl := m } : State).peers = s.peers)) (s.setF x v r w).ctl
@[simp] theorem setF_drains (s : State) (x : Fld) (v r w : Nat) : (s.setF x v r w).drains = s.drains :=
    (fun m => (rfl : ({ s with ctl := m } : State).drains = s.drains)) (s.setF x v r w).ctl
@[simp] theorem setF_chans (s : State) (x : Fld) (v r w : Nat) : (s.setF x v r w).chans = s.chans :=
    (fun m => (rfl : ({ s with ctl := m } : State).chans = s.chans)) (s.setF x v r w).ctl
@[simp] theorem setF_scrub (s : State) (x : Fld) (v r w : Nat) : (s.setF x v r w).scrub = s.scrub :=
    (fun m => (rfl : ({ s with ctl := m } : State).scrub = s.scrub)) (s.setF x v r w).ctl
@[simp] theorem setF_tablesLost (s : State) (x : Fld) (v r w : Nat) : (s.setF x v r w).tablesLost = s.tablesLost :=
    (fun m => (rfl : ({ s with ctl := m } : State).tablesLost = s.tablesLost)) (s.setF x v r w).ctl
@[simp] theorem setF_supply (s : State) (x : Fld) (v r w : Nat) : (s.setF x v r w).supply = s.supply :=
    (fun m => (rfl : ({ s with ctl := m } : State).supply = s.supply)) (s.setF x v r w).ctl
@[simp] theorem setF_stk (s : State) (x : Fld) (v r w : Nat) : (s.setF x v r w).stk = s.stk :=
    (fun m => (rfl : ({ s with ctl := m } : State).stk = s.stk)) (s.setF x v r w).ctl
@[simp] theorem setF_sec (s : State) (x : Fld) (v r w : Nat) : (s.setF x v r w).sec = s.sec :=
    (fun m => (rfl : ({ s with ctl := m } : State).sec = s.sec)) (s.setF x v r w).ctl
@[simp] theorem setF_recd (s : State) (x : Fld) (v r w : Nat) : (s.setF x v r w).recd = s.recd :=
    (fun m => (rfl : ({ s with ctl := m } : State).recd = s.recd)) (s.setF x v r w).ctl
@[simp] theorem setF_pins (s : State) (x : Fld) (v r w : Nat) : (s.setF x v r w).pins = s.pins :=
    (fun m => (rfl : ({ s with ctl := m } : State).pins = s.pins)) (s.setF x v r w).ctl
@[simp] theorem setF_pending (s : State) (x : Fld) (v r w : Nat) : (s.setF x v r w).pending = s.pending :=
    (fun m => (rfl : ({ s with ctl := m } : State).pending = s.pending)) (s.setF x v r w).ctl

/-! A counter field raised. -/

@[simp] theorem bump_ctl (s : State) (x : Fld) (r n w : Nat) : (s.bump x r n w).ctl = (s.setF x (satAdd (x.hi + 1 - x.lo) (s.f x r w) n) r w).ctl :=
    rfl
@[simp] theorem bump_written (s : State) (x : Fld) (r n w : Nat) : (s.bump x r n w).written = s.written :=
    (fun m => (rfl : ({ s with ctl := m } : State).written = s.written)) (s.bump x r n w).ctl
@[simp] theorem bump_out (s : State) (x : Fld) (r n w : Nat) : (s.bump x r n w).out = s.out :=
    (fun m => (rfl : ({ s with ctl := m } : State).out = s.out)) (s.bump x r n w).ctl
@[simp] theorem bump_fv (s : State) (x : Fld) (r n w : Nat) : (s.bump x r n w).fv = s.fv :=
    (fun m => (rfl : ({ s with ctl := m } : State).fv = s.fv)) (s.bump x r n w).ctl
@[simp] theorem bump_time (s : State) (x : Fld) (r n w : Nat) : (s.bump x r n w).time = s.time :=
    (fun m => (rfl : ({ s with ctl := m } : State).time = s.time)) (s.bump x r n w).ctl
@[simp] theorem bump_strapX (s : State) (x : Fld) (r n w : Nat) : (s.bump x r n w).strapX = s.strapX :=
    (fun m => (rfl : ({ s with ctl := m } : State).strapX = s.strapX)) (s.bump x r n w).ctl
@[simp] theorem bump_strapY (s : State) (x : Fld) (r n w : Nat) : (s.bump x r n w).strapY = s.strapY :=
    (fun m => (rfl : ({ s with ctl := m } : State).strapY = s.strapY)) (s.bump x r n w).ctl
@[simp] theorem bump_reach (s : State) (x : Fld) (r n w : Nat) : (s.bump x r n w).reach = s.reach :=
    (fun m => (rfl : ({ s with ctl := m } : State).reach = s.reach)) (s.bump x r n w).ctl
@[simp] theorem bump_evq (s : State) (x : Fld) (r n w : Nat) : (s.bump x r n w).evq = s.evq :=
    (fun m => (rfl : ({ s with ctl := m } : State).evq = s.evq)) (s.bump x r n w).ctl
@[simp] theorem bump_dram (s : State) (x : Fld) (r n w : Nat) : (s.bump x r n w).dram = s.dram :=
    (fun m => (rfl : ({ s with ctl := m } : State).dram = s.dram)) (s.bump x r n w).ctl
@[simp] theorem bump_caches (s : State) (x : Fld) (r n w : Nat) : (s.bump x r n w).caches = s.caches :=
    (fun m => (rfl : ({ s with ctl := m } : State).caches = s.caches)) (s.bump x r n w).ctl
@[simp] theorem bump_bufs (s : State) (x : Fld) (r n w : Nat) : (s.bump x r n w).bufs = s.bufs :=
    (fun m => (rfl : ({ s with ctl := m } : State).bufs = s.bufs)) (s.bump x r n w).ctl
@[simp] theorem bump_twin (s : State) (x : Fld) (r n w : Nat) : (s.bump x r n w).twin = s.twin :=
    (fun m => (rfl : ({ s with ctl := m } : State).twin = s.twin)) (s.bump x r n w).ctl
@[simp] theorem bump_parts (s : State) (x : Fld) (r n w : Nat) : (s.bump x r n w).parts = s.parts :=
    (fun m => (rfl : ({ s with ctl := m } : State).parts = s.parts)) (s.bump x r n w).ctl
@[simp] theorem bump_nextPart (s : State) (x : Fld) (r n w : Nat) : (s.bump x r n w).nextPart = s.nextPart :=
    (fun m => (rfl : ({ s with ctl := m } : State).nextPart = s.nextPart)) (s.bump x r n w).ctl
@[simp] theorem bump_logs (s : State) (x : Fld) (r n w : Nat) : (s.bump x r n w).logs = s.logs :=
    (fun m => (rfl : ({ s with ctl := m } : State).logs = s.logs)) (s.bump x r n w).ctl
@[simp] theorem bump_queues (s : State) (x : Fld) (r n w : Nat) : (s.bump x r n w).queues = s.queues :=
    (fun m => (rfl : ({ s with ctl := m } : State).queues = s.queues)) (s.bump x r n w).ctl
@[simp] theorem bump_rates (s : State) (x : Fld) (r n w : Nat) : (s.bump x r n w).rates = s.rates :=
    (fun m => (rfl : ({ s with ctl := m } : State).rates = s.rates)) (s.bump x r n w).ctl
@[simp] theorem bump_icmp (s : State) (x : Fld) (r n w : Nat) : (s.bump x r n w).icmp = s.icmp :=
    (fun m => (rfl : ({ s with ctl := m } : State).icmp = s.icmp)) (s.bump x r n w).ctl
@[simp] theorem bump_tp (s : State) (x : Fld) (r n w : Nat) : (s.bump x r n w).tp = s.tp :=
    (fun m => (rfl : ({ s with ctl := m } : State).tp = s.tp)) (s.bump x r n w).ctl
@[simp] theorem bump_spates (s : State) (x : Fld) (r n w : Nat) : (s.bump x r n w).spates = s.spates :=
    (fun m => (rfl : ({ s with ctl := m } : State).spates = s.spates)) (s.bump x r n w).ctl
@[simp] theorem bump_fiddles (s : State) (x : Fld) (r n w : Nat) : (s.bump x r n w).fiddles = s.fiddles :=
    (fun m => (rfl : ({ s with ctl := m } : State).fiddles = s.fiddles)) (s.bump x r n w).ctl
@[simp] theorem bump_spent (s : State) (x : Fld) (r n w : Nat) : (s.bump x r n w).spent = s.spent :=
    (fun m => (rfl : ({ s with ctl := m } : State).spent = s.spent)) (s.bump x r n w).ctl
@[simp] theorem bump_eng (s : State) (x : Fld) (r n w : Nat) : (s.bump x r n w).eng = s.eng :=
    (fun m => (rfl : ({ s with ctl := m } : State).eng = s.eng)) (s.bump x r n w).ctl
@[simp] theorem bump_stage (s : State) (x : Fld) (r n w : Nat) : (s.bump x r n w).stage = s.stage :=
    (fun m => (rfl : ({ s with ctl := m } : State).stage = s.stage)) (s.bump x r n w).ctl
@[simp] theorem bump_flash (s : State) (x : Fld) (r n w : Nat) : (s.bump x r n w).flash = s.flash :=
    (fun m => (rfl : ({ s with ctl := m } : State).flash = s.flash)) (s.bump x r n w).ctl
@[simp] theorem bump_streams (s : State) (x : Fld) (r n w : Nat) : (s.bump x r n w).streams = s.streams :=
    (fun m => (rfl : ({ s with ctl := m } : State).streams = s.streams)) (s.bump x r n w).ctl
@[simp] theorem bump_absent (s : State) (x : Fld) (r n w : Nat) : (s.bump x r n w).absent = s.absent :=
    (fun m => (rfl : ({ s with ctl := m } : State).absent = s.absent)) (s.bump x r n w).ctl
@[simp] theorem bump_peers (s : State) (x : Fld) (r n w : Nat) : (s.bump x r n w).peers = s.peers :=
    (fun m => (rfl : ({ s with ctl := m } : State).peers = s.peers)) (s.bump x r n w).ctl
@[simp] theorem bump_drains (s : State) (x : Fld) (r n w : Nat) : (s.bump x r n w).drains = s.drains :=
    (fun m => (rfl : ({ s with ctl := m } : State).drains = s.drains)) (s.bump x r n w).ctl
@[simp] theorem bump_chans (s : State) (x : Fld) (r n w : Nat) : (s.bump x r n w).chans = s.chans :=
    (fun m => (rfl : ({ s with ctl := m } : State).chans = s.chans)) (s.bump x r n w).ctl
@[simp] theorem bump_scrub (s : State) (x : Fld) (r n w : Nat) : (s.bump x r n w).scrub = s.scrub :=
    (fun m => (rfl : ({ s with ctl := m } : State).scrub = s.scrub)) (s.bump x r n w).ctl
@[simp] theorem bump_tablesLost (s : State) (x : Fld) (r n w : Nat) : (s.bump x r n w).tablesLost = s.tablesLost :=
    (fun m => (rfl : ({ s with ctl := m } : State).tablesLost = s.tablesLost)) (s.bump x r n w).ctl
@[simp] theorem bump_supply (s : State) (x : Fld) (r n w : Nat) : (s.bump x r n w).supply = s.supply :=
    (fun m => (rfl : ({ s with ctl := m } : State).supply = s.supply)) (s.bump x r n w).ctl
@[simp] theorem bump_stk (s : State) (x : Fld) (r n w : Nat) : (s.bump x r n w).stk = s.stk :=
    (fun m => (rfl : ({ s with ctl := m } : State).stk = s.stk)) (s.bump x r n w).ctl
@[simp] theorem bump_sec (s : State) (x : Fld) (r n w : Nat) : (s.bump x r n w).sec = s.sec :=
    (fun m => (rfl : ({ s with ctl := m } : State).sec = s.sec)) (s.bump x r n w).ctl
@[simp] theorem bump_recd (s : State) (x : Fld) (r n w : Nat) : (s.bump x r n w).recd = s.recd :=
    (fun m => (rfl : ({ s with ctl := m } : State).recd = s.recd)) (s.bump x r n w).ctl
@[simp] theorem bump_pins (s : State) (x : Fld) (r n w : Nat) : (s.bump x r n w).pins = s.pins :=
    (fun m => (rfl : ({ s with ctl := m } : State).pins = s.pins)) (s.bump x r n w).ctl
@[simp] theorem bump_pending (s : State) (x : Fld) (r n w : Nat) : (s.bump x r n w).pending = s.pending :=
    (fun m => (rfl : ({ s with ctl := m } : State).pending = s.pending)) (s.bump x r n w).ctl

/-! One bit of a field. -/

@[simp] theorem setBitF_ctl (s : State) (x : Fld) (r i : Nat) (b : Bool) : (s.setBitF x r i b).ctl = (s.setF x (if b then s.f x r ||| 2 ^ i else s.f x r &&& (s.f x r ^^^ 2 ^ i)) r).ctl :=
    rfl
@[simp] theorem setBitF_written (s : State) (x : Fld) (r i : Nat) (b : Bool) : (s.setBitF x r i b).written = s.written :=
    (fun m => (rfl : ({ s with ctl := m } : State).written = s.written)) (s.setBitF x r i b).ctl
@[simp] theorem setBitF_out (s : State) (x : Fld) (r i : Nat) (b : Bool) : (s.setBitF x r i b).out = s.out :=
    (fun m => (rfl : ({ s with ctl := m } : State).out = s.out)) (s.setBitF x r i b).ctl
@[simp] theorem setBitF_fv (s : State) (x : Fld) (r i : Nat) (b : Bool) : (s.setBitF x r i b).fv = s.fv :=
    (fun m => (rfl : ({ s with ctl := m } : State).fv = s.fv)) (s.setBitF x r i b).ctl
@[simp] theorem setBitF_time (s : State) (x : Fld) (r i : Nat) (b : Bool) : (s.setBitF x r i b).time = s.time :=
    (fun m => (rfl : ({ s with ctl := m } : State).time = s.time)) (s.setBitF x r i b).ctl
@[simp] theorem setBitF_strapX (s : State) (x : Fld) (r i : Nat) (b : Bool) : (s.setBitF x r i b).strapX = s.strapX :=
    (fun m => (rfl : ({ s with ctl := m } : State).strapX = s.strapX)) (s.setBitF x r i b).ctl
@[simp] theorem setBitF_strapY (s : State) (x : Fld) (r i : Nat) (b : Bool) : (s.setBitF x r i b).strapY = s.strapY :=
    (fun m => (rfl : ({ s with ctl := m } : State).strapY = s.strapY)) (s.setBitF x r i b).ctl
@[simp] theorem setBitF_reach (s : State) (x : Fld) (r i : Nat) (b : Bool) : (s.setBitF x r i b).reach = s.reach :=
    (fun m => (rfl : ({ s with ctl := m } : State).reach = s.reach)) (s.setBitF x r i b).ctl
@[simp] theorem setBitF_evq (s : State) (x : Fld) (r i : Nat) (b : Bool) : (s.setBitF x r i b).evq = s.evq :=
    (fun m => (rfl : ({ s with ctl := m } : State).evq = s.evq)) (s.setBitF x r i b).ctl
@[simp] theorem setBitF_dram (s : State) (x : Fld) (r i : Nat) (b : Bool) : (s.setBitF x r i b).dram = s.dram :=
    (fun m => (rfl : ({ s with ctl := m } : State).dram = s.dram)) (s.setBitF x r i b).ctl
@[simp] theorem setBitF_caches (s : State) (x : Fld) (r i : Nat) (b : Bool) : (s.setBitF x r i b).caches = s.caches :=
    (fun m => (rfl : ({ s with ctl := m } : State).caches = s.caches)) (s.setBitF x r i b).ctl
@[simp] theorem setBitF_bufs (s : State) (x : Fld) (r i : Nat) (b : Bool) : (s.setBitF x r i b).bufs = s.bufs :=
    (fun m => (rfl : ({ s with ctl := m } : State).bufs = s.bufs)) (s.setBitF x r i b).ctl
@[simp] theorem setBitF_twin (s : State) (x : Fld) (r i : Nat) (b : Bool) : (s.setBitF x r i b).twin = s.twin :=
    (fun m => (rfl : ({ s with ctl := m } : State).twin = s.twin)) (s.setBitF x r i b).ctl
@[simp] theorem setBitF_parts (s : State) (x : Fld) (r i : Nat) (b : Bool) : (s.setBitF x r i b).parts = s.parts :=
    (fun m => (rfl : ({ s with ctl := m } : State).parts = s.parts)) (s.setBitF x r i b).ctl
@[simp] theorem setBitF_nextPart (s : State) (x : Fld) (r i : Nat) (b : Bool) : (s.setBitF x r i b).nextPart = s.nextPart :=
    (fun m => (rfl : ({ s with ctl := m } : State).nextPart = s.nextPart)) (s.setBitF x r i b).ctl
@[simp] theorem setBitF_logs (s : State) (x : Fld) (r i : Nat) (b : Bool) : (s.setBitF x r i b).logs = s.logs :=
    (fun m => (rfl : ({ s with ctl := m } : State).logs = s.logs)) (s.setBitF x r i b).ctl
@[simp] theorem setBitF_queues (s : State) (x : Fld) (r i : Nat) (b : Bool) : (s.setBitF x r i b).queues = s.queues :=
    (fun m => (rfl : ({ s with ctl := m } : State).queues = s.queues)) (s.setBitF x r i b).ctl
@[simp] theorem setBitF_rates (s : State) (x : Fld) (r i : Nat) (b : Bool) : (s.setBitF x r i b).rates = s.rates :=
    (fun m => (rfl : ({ s with ctl := m } : State).rates = s.rates)) (s.setBitF x r i b).ctl
@[simp] theorem setBitF_icmp (s : State) (x : Fld) (r i : Nat) (b : Bool) : (s.setBitF x r i b).icmp = s.icmp :=
    (fun m => (rfl : ({ s with ctl := m } : State).icmp = s.icmp)) (s.setBitF x r i b).ctl
@[simp] theorem setBitF_tp (s : State) (x : Fld) (r i : Nat) (b : Bool) : (s.setBitF x r i b).tp = s.tp :=
    (fun m => (rfl : ({ s with ctl := m } : State).tp = s.tp)) (s.setBitF x r i b).ctl
@[simp] theorem setBitF_spates (s : State) (x : Fld) (r i : Nat) (b : Bool) : (s.setBitF x r i b).spates = s.spates :=
    (fun m => (rfl : ({ s with ctl := m } : State).spates = s.spates)) (s.setBitF x r i b).ctl
@[simp] theorem setBitF_fiddles (s : State) (x : Fld) (r i : Nat) (b : Bool) : (s.setBitF x r i b).fiddles = s.fiddles :=
    (fun m => (rfl : ({ s with ctl := m } : State).fiddles = s.fiddles)) (s.setBitF x r i b).ctl
@[simp] theorem setBitF_spent (s : State) (x : Fld) (r i : Nat) (b : Bool) : (s.setBitF x r i b).spent = s.spent :=
    (fun m => (rfl : ({ s with ctl := m } : State).spent = s.spent)) (s.setBitF x r i b).ctl
@[simp] theorem setBitF_eng (s : State) (x : Fld) (r i : Nat) (b : Bool) : (s.setBitF x r i b).eng = s.eng :=
    (fun m => (rfl : ({ s with ctl := m } : State).eng = s.eng)) (s.setBitF x r i b).ctl
@[simp] theorem setBitF_stage (s : State) (x : Fld) (r i : Nat) (b : Bool) : (s.setBitF x r i b).stage = s.stage :=
    (fun m => (rfl : ({ s with ctl := m } : State).stage = s.stage)) (s.setBitF x r i b).ctl
@[simp] theorem setBitF_flash (s : State) (x : Fld) (r i : Nat) (b : Bool) : (s.setBitF x r i b).flash = s.flash :=
    (fun m => (rfl : ({ s with ctl := m } : State).flash = s.flash)) (s.setBitF x r i b).ctl
@[simp] theorem setBitF_streams (s : State) (x : Fld) (r i : Nat) (b : Bool) : (s.setBitF x r i b).streams = s.streams :=
    (fun m => (rfl : ({ s with ctl := m } : State).streams = s.streams)) (s.setBitF x r i b).ctl
@[simp] theorem setBitF_absent (s : State) (x : Fld) (r i : Nat) (b : Bool) : (s.setBitF x r i b).absent = s.absent :=
    (fun m => (rfl : ({ s with ctl := m } : State).absent = s.absent)) (s.setBitF x r i b).ctl
@[simp] theorem setBitF_peers (s : State) (x : Fld) (r i : Nat) (b : Bool) : (s.setBitF x r i b).peers = s.peers :=
    (fun m => (rfl : ({ s with ctl := m } : State).peers = s.peers)) (s.setBitF x r i b).ctl
@[simp] theorem setBitF_drains (s : State) (x : Fld) (r i : Nat) (b : Bool) : (s.setBitF x r i b).drains = s.drains :=
    (fun m => (rfl : ({ s with ctl := m } : State).drains = s.drains)) (s.setBitF x r i b).ctl
@[simp] theorem setBitF_chans (s : State) (x : Fld) (r i : Nat) (b : Bool) : (s.setBitF x r i b).chans = s.chans :=
    (fun m => (rfl : ({ s with ctl := m } : State).chans = s.chans)) (s.setBitF x r i b).ctl
@[simp] theorem setBitF_scrub (s : State) (x : Fld) (r i : Nat) (b : Bool) : (s.setBitF x r i b).scrub = s.scrub :=
    (fun m => (rfl : ({ s with ctl := m } : State).scrub = s.scrub)) (s.setBitF x r i b).ctl
@[simp] theorem setBitF_tablesLost (s : State) (x : Fld) (r i : Nat) (b : Bool) : (s.setBitF x r i b).tablesLost = s.tablesLost :=
    (fun m => (rfl : ({ s with ctl := m } : State).tablesLost = s.tablesLost)) (s.setBitF x r i b).ctl
@[simp] theorem setBitF_supply (s : State) (x : Fld) (r i : Nat) (b : Bool) : (s.setBitF x r i b).supply = s.supply :=
    (fun m => (rfl : ({ s with ctl := m } : State).supply = s.supply)) (s.setBitF x r i b).ctl
@[simp] theorem setBitF_stk (s : State) (x : Fld) (r i : Nat) (b : Bool) : (s.setBitF x r i b).stk = s.stk :=
    (fun m => (rfl : ({ s with ctl := m } : State).stk = s.stk)) (s.setBitF x r i b).ctl
@[simp] theorem setBitF_sec (s : State) (x : Fld) (r i : Nat) (b : Bool) : (s.setBitF x r i b).sec = s.sec :=
    (fun m => (rfl : ({ s with ctl := m } : State).sec = s.sec)) (s.setBitF x r i b).ctl
@[simp] theorem setBitF_recd (s : State) (x : Fld) (r i : Nat) (b : Bool) : (s.setBitF x r i b).recd = s.recd :=
    (fun m => (rfl : ({ s with ctl := m } : State).recd = s.recd)) (s.setBitF x r i b).ctl
@[simp] theorem setBitF_pins (s : State) (x : Fld) (r i : Nat) (b : Bool) : (s.setBitF x r i b).pins = s.pins :=
    (fun m => (rfl : ({ s with ctl := m } : State).pins = s.pins)) (s.setBitF x r i b).ctl
@[simp] theorem setBitF_pending (s : State) (x : Fld) (r i : Nat) (b : Bool) : (s.setBitF x r i b).pending = s.pending :=
    (fun m => (rfl : ({ s with ctl := m } : State).pending = s.pending)) (s.setBitF x r i b).ctl

/-! Something sent. -/

@[simp] theorem emit_ctl (s : State) (m : Msg) : (s.emit m).ctl = s.ctl :=
    (fun m => (rfl : ({ s with out := m } : State).ctl = s.ctl)) (s.emit m).out
@[simp] theorem emit_written (s : State) (m : Msg) : (s.emit m).written = s.written :=
    (fun m => (rfl : ({ s with out := m } : State).written = s.written)) (s.emit m).out
@[simp] theorem emit_out (s : State) (m : Msg) : (s.emit m).out = s.out ++ [m] := rfl
@[simp] theorem emit_fv (s : State) (m : Msg) : (s.emit m).fv = s.fv :=
    (fun m => (rfl : ({ s with out := m } : State).fv = s.fv)) (s.emit m).out
@[simp] theorem emit_time (s : State) (m : Msg) : (s.emit m).time = s.time :=
    (fun m => (rfl : ({ s with out := m } : State).time = s.time)) (s.emit m).out
@[simp] theorem emit_strapX (s : State) (m : Msg) : (s.emit m).strapX = s.strapX :=
    (fun m => (rfl : ({ s with out := m } : State).strapX = s.strapX)) (s.emit m).out
@[simp] theorem emit_strapY (s : State) (m : Msg) : (s.emit m).strapY = s.strapY :=
    (fun m => (rfl : ({ s with out := m } : State).strapY = s.strapY)) (s.emit m).out
@[simp] theorem emit_reach (s : State) (m : Msg) : (s.emit m).reach = s.reach :=
    (fun m => (rfl : ({ s with out := m } : State).reach = s.reach)) (s.emit m).out
@[simp] theorem emit_evq (s : State) (m : Msg) : (s.emit m).evq = s.evq :=
    (fun m => (rfl : ({ s with out := m } : State).evq = s.evq)) (s.emit m).out
@[simp] theorem emit_dram (s : State) (m : Msg) : (s.emit m).dram = s.dram :=
    (fun m => (rfl : ({ s with out := m } : State).dram = s.dram)) (s.emit m).out
@[simp] theorem emit_caches (s : State) (m : Msg) : (s.emit m).caches = s.caches :=
    (fun m => (rfl : ({ s with out := m } : State).caches = s.caches)) (s.emit m).out
@[simp] theorem emit_bufs (s : State) (m : Msg) : (s.emit m).bufs = s.bufs :=
    (fun m => (rfl : ({ s with out := m } : State).bufs = s.bufs)) (s.emit m).out
@[simp] theorem emit_twin (s : State) (m : Msg) : (s.emit m).twin = s.twin :=
    (fun m => (rfl : ({ s with out := m } : State).twin = s.twin)) (s.emit m).out
@[simp] theorem emit_parts (s : State) (m : Msg) : (s.emit m).parts = s.parts :=
    (fun m => (rfl : ({ s with out := m } : State).parts = s.parts)) (s.emit m).out
@[simp] theorem emit_nextPart (s : State) (m : Msg) : (s.emit m).nextPart = s.nextPart :=
    (fun m => (rfl : ({ s with out := m } : State).nextPart = s.nextPart)) (s.emit m).out
@[simp] theorem emit_logs (s : State) (m : Msg) : (s.emit m).logs = s.logs :=
    (fun m => (rfl : ({ s with out := m } : State).logs = s.logs)) (s.emit m).out
@[simp] theorem emit_queues (s : State) (m : Msg) : (s.emit m).queues = s.queues :=
    (fun m => (rfl : ({ s with out := m } : State).queues = s.queues)) (s.emit m).out
@[simp] theorem emit_rates (s : State) (m : Msg) : (s.emit m).rates = s.rates :=
    (fun m => (rfl : ({ s with out := m } : State).rates = s.rates)) (s.emit m).out
@[simp] theorem emit_icmp (s : State) (m : Msg) : (s.emit m).icmp = s.icmp :=
    (fun m => (rfl : ({ s with out := m } : State).icmp = s.icmp)) (s.emit m).out
@[simp] theorem emit_tp (s : State) (m : Msg) : (s.emit m).tp = s.tp :=
    (fun m => (rfl : ({ s with out := m } : State).tp = s.tp)) (s.emit m).out
@[simp] theorem emit_spates (s : State) (m : Msg) : (s.emit m).spates = s.spates :=
    (fun m => (rfl : ({ s with out := m } : State).spates = s.spates)) (s.emit m).out
@[simp] theorem emit_fiddles (s : State) (m : Msg) : (s.emit m).fiddles = s.fiddles :=
    (fun m => (rfl : ({ s with out := m } : State).fiddles = s.fiddles)) (s.emit m).out
@[simp] theorem emit_spent (s : State) (m : Msg) : (s.emit m).spent = s.spent :=
    (fun m => (rfl : ({ s with out := m } : State).spent = s.spent)) (s.emit m).out
@[simp] theorem emit_eng (s : State) (m : Msg) : (s.emit m).eng = s.eng :=
    (fun m => (rfl : ({ s with out := m } : State).eng = s.eng)) (s.emit m).out
@[simp] theorem emit_stage (s : State) (m : Msg) : (s.emit m).stage = s.stage :=
    (fun m => (rfl : ({ s with out := m } : State).stage = s.stage)) (s.emit m).out
@[simp] theorem emit_flash (s : State) (m : Msg) : (s.emit m).flash = s.flash :=
    (fun m => (rfl : ({ s with out := m } : State).flash = s.flash)) (s.emit m).out
@[simp] theorem emit_streams (s : State) (m : Msg) : (s.emit m).streams = s.streams :=
    (fun m => (rfl : ({ s with out := m } : State).streams = s.streams)) (s.emit m).out
@[simp] theorem emit_absent (s : State) (m : Msg) : (s.emit m).absent = s.absent :=
    (fun m => (rfl : ({ s with out := m } : State).absent = s.absent)) (s.emit m).out
@[simp] theorem emit_peers (s : State) (m : Msg) : (s.emit m).peers = s.peers :=
    (fun m => (rfl : ({ s with out := m } : State).peers = s.peers)) (s.emit m).out
@[simp] theorem emit_drains (s : State) (m : Msg) : (s.emit m).drains = s.drains :=
    (fun m => (rfl : ({ s with out := m } : State).drains = s.drains)) (s.emit m).out
@[simp] theorem emit_chans (s : State) (m : Msg) : (s.emit m).chans = s.chans :=
    (fun m => (rfl : ({ s with out := m } : State).chans = s.chans)) (s.emit m).out
@[simp] theorem emit_scrub (s : State) (m : Msg) : (s.emit m).scrub = s.scrub :=
    (fun m => (rfl : ({ s with out := m } : State).scrub = s.scrub)) (s.emit m).out
@[simp] theorem emit_tablesLost (s : State) (m : Msg) : (s.emit m).tablesLost = s.tablesLost :=
    (fun m => (rfl : ({ s with out := m } : State).tablesLost = s.tablesLost)) (s.emit m).out
@[simp] theorem emit_supply (s : State) (m : Msg) : (s.emit m).supply = s.supply :=
    (fun m => (rfl : ({ s with out := m } : State).supply = s.supply)) (s.emit m).out
@[simp] theorem emit_stk (s : State) (m : Msg) : (s.emit m).stk = s.stk :=
    (fun m => (rfl : ({ s with out := m } : State).stk = s.stk)) (s.emit m).out
@[simp] theorem emit_sec (s : State) (m : Msg) : (s.emit m).sec = s.sec :=
    (fun m => (rfl : ({ s with out := m } : State).sec = s.sec)) (s.emit m).out
@[simp] theorem emit_recd (s : State) (m : Msg) : (s.emit m).recd = s.recd :=
    (fun m => (rfl : ({ s with out := m } : State).recd = s.recd)) (s.emit m).out
@[simp] theorem emit_pins (s : State) (m : Msg) : (s.emit m).pins = s.pins :=
    (fun m => (rfl : ({ s with out := m } : State).pins = s.pins)) (s.emit m).out
@[simp] theorem emit_pending (s : State) (m : Msg) : (s.emit m).pending = s.pending :=
    (fun m => (rfl : ({ s with out := m } : State).pending = s.pending)) (s.emit m).out

/-! A free value drawn. -/

@[simp] theorem fresh_ctl (s : State) : (s.fresh.2).ctl = s.ctl :=
    (fun m => (rfl : ({ s with fv := m } : State).ctl = s.ctl)) (s.fresh.2).fv
@[simp] theorem fresh_written (s : State) : (s.fresh.2).written = s.written :=
    (fun m => (rfl : ({ s with fv := m } : State).written = s.written)) (s.fresh.2).fv
@[simp] theorem fresh_out (s : State) : (s.fresh.2).out = s.out :=
    (fun m => (rfl : ({ s with fv := m } : State).out = s.out)) (s.fresh.2).fv
@[simp] theorem fresh_fv (s : State) : (s.fresh.2).fv = s.fv + 1 := rfl
@[simp] theorem fresh_time (s : State) : (s.fresh.2).time = s.time :=
    (fun m => (rfl : ({ s with fv := m } : State).time = s.time)) (s.fresh.2).fv
@[simp] theorem fresh_strapX (s : State) : (s.fresh.2).strapX = s.strapX :=
    (fun m => (rfl : ({ s with fv := m } : State).strapX = s.strapX)) (s.fresh.2).fv
@[simp] theorem fresh_strapY (s : State) : (s.fresh.2).strapY = s.strapY :=
    (fun m => (rfl : ({ s with fv := m } : State).strapY = s.strapY)) (s.fresh.2).fv
@[simp] theorem fresh_reach (s : State) : (s.fresh.2).reach = s.reach :=
    (fun m => (rfl : ({ s with fv := m } : State).reach = s.reach)) (s.fresh.2).fv
@[simp] theorem fresh_evq (s : State) : (s.fresh.2).evq = s.evq :=
    (fun m => (rfl : ({ s with fv := m } : State).evq = s.evq)) (s.fresh.2).fv
@[simp] theorem fresh_dram (s : State) : (s.fresh.2).dram = s.dram :=
    (fun m => (rfl : ({ s with fv := m } : State).dram = s.dram)) (s.fresh.2).fv
@[simp] theorem fresh_caches (s : State) : (s.fresh.2).caches = s.caches :=
    (fun m => (rfl : ({ s with fv := m } : State).caches = s.caches)) (s.fresh.2).fv
@[simp] theorem fresh_bufs (s : State) : (s.fresh.2).bufs = s.bufs :=
    (fun m => (rfl : ({ s with fv := m } : State).bufs = s.bufs)) (s.fresh.2).fv
@[simp] theorem fresh_twin (s : State) : (s.fresh.2).twin = s.twin :=
    (fun m => (rfl : ({ s with fv := m } : State).twin = s.twin)) (s.fresh.2).fv
@[simp] theorem fresh_parts (s : State) : (s.fresh.2).parts = s.parts :=
    (fun m => (rfl : ({ s with fv := m } : State).parts = s.parts)) (s.fresh.2).fv
@[simp] theorem fresh_nextPart (s : State) : (s.fresh.2).nextPart = s.nextPart :=
    (fun m => (rfl : ({ s with fv := m } : State).nextPart = s.nextPart)) (s.fresh.2).fv
@[simp] theorem fresh_logs (s : State) : (s.fresh.2).logs = s.logs :=
    (fun m => (rfl : ({ s with fv := m } : State).logs = s.logs)) (s.fresh.2).fv
@[simp] theorem fresh_queues (s : State) : (s.fresh.2).queues = s.queues :=
    (fun m => (rfl : ({ s with fv := m } : State).queues = s.queues)) (s.fresh.2).fv
@[simp] theorem fresh_rates (s : State) : (s.fresh.2).rates = s.rates :=
    (fun m => (rfl : ({ s with fv := m } : State).rates = s.rates)) (s.fresh.2).fv
@[simp] theorem fresh_icmp (s : State) : (s.fresh.2).icmp = s.icmp :=
    (fun m => (rfl : ({ s with fv := m } : State).icmp = s.icmp)) (s.fresh.2).fv
@[simp] theorem fresh_tp (s : State) : (s.fresh.2).tp = s.tp := (fun m => (rfl : ({ s with fv := m } : State).tp = s.tp)) (s.fresh.2).fv
@[simp] theorem fresh_spates (s : State) : (s.fresh.2).spates = s.spates :=
    (fun m => (rfl : ({ s with fv := m } : State).spates = s.spates)) (s.fresh.2).fv
@[simp] theorem fresh_fiddles (s : State) : (s.fresh.2).fiddles = s.fiddles :=
    (fun m => (rfl : ({ s with fv := m } : State).fiddles = s.fiddles)) (s.fresh.2).fv
@[simp] theorem fresh_spent (s : State) : (s.fresh.2).spent = s.spent :=
    (fun m => (rfl : ({ s with fv := m } : State).spent = s.spent)) (s.fresh.2).fv
@[simp] theorem fresh_eng (s : State) : (s.fresh.2).eng = s.eng :=
    (fun m => (rfl : ({ s with fv := m } : State).eng = s.eng)) (s.fresh.2).fv
@[simp] theorem fresh_stage (s : State) : (s.fresh.2).stage = s.stage :=
    (fun m => (rfl : ({ s with fv := m } : State).stage = s.stage)) (s.fresh.2).fv
@[simp] theorem fresh_flash (s : State) : (s.fresh.2).flash = s.flash :=
    (fun m => (rfl : ({ s with fv := m } : State).flash = s.flash)) (s.fresh.2).fv
@[simp] theorem fresh_streams (s : State) : (s.fresh.2).streams = s.streams :=
    (fun m => (rfl : ({ s with fv := m } : State).streams = s.streams)) (s.fresh.2).fv
@[simp] theorem fresh_absent (s : State) : (s.fresh.2).absent = s.absent :=
    (fun m => (rfl : ({ s with fv := m } : State).absent = s.absent)) (s.fresh.2).fv
@[simp] theorem fresh_peers (s : State) : (s.fresh.2).peers = s.peers :=
    (fun m => (rfl : ({ s with fv := m } : State).peers = s.peers)) (s.fresh.2).fv
@[simp] theorem fresh_drains (s : State) : (s.fresh.2).drains = s.drains :=
    (fun m => (rfl : ({ s with fv := m } : State).drains = s.drains)) (s.fresh.2).fv
@[simp] theorem fresh_chans (s : State) : (s.fresh.2).chans = s.chans :=
    (fun m => (rfl : ({ s with fv := m } : State).chans = s.chans)) (s.fresh.2).fv
@[simp] theorem fresh_scrub (s : State) : (s.fresh.2).scrub = s.scrub :=
    (fun m => (rfl : ({ s with fv := m } : State).scrub = s.scrub)) (s.fresh.2).fv
@[simp] theorem fresh_tablesLost (s : State) : (s.fresh.2).tablesLost = s.tablesLost :=
    (fun m => (rfl : ({ s with fv := m } : State).tablesLost = s.tablesLost)) (s.fresh.2).fv
@[simp] theorem fresh_supply (s : State) : (s.fresh.2).supply = s.supply :=
    (fun m => (rfl : ({ s with fv := m } : State).supply = s.supply)) (s.fresh.2).fv
@[simp] theorem fresh_stk (s : State) : (s.fresh.2).stk = s.stk :=
    (fun m => (rfl : ({ s with fv := m } : State).stk = s.stk)) (s.fresh.2).fv
@[simp] theorem fresh_sec (s : State) : (s.fresh.2).sec = s.sec :=
    (fun m => (rfl : ({ s with fv := m } : State).sec = s.sec)) (s.fresh.2).fv
@[simp] theorem fresh_recd (s : State) : (s.fresh.2).recd = s.recd :=
    (fun m => (rfl : ({ s with fv := m } : State).recd = s.recd)) (s.fresh.2).fv
@[simp] theorem fresh_pins (s : State) : (s.fresh.2).pins = s.pins :=
    (fun m => (rfl : ({ s with fv := m } : State).pins = s.pins)) (s.fresh.2).fv
@[simp] theorem fresh_pending (s : State) : (s.fresh.2).pending = s.pending :=
    (fun m => (rfl : ({ s with fv := m } : State).pending = s.pending)) (s.fresh.2).fv

/-! Bytes put into DRAM. -/

@[simp] theorem setDram_ctl (s : State) (a : Nat) (bs : List Byte) : (s.setDram a bs).ctl = s.ctl :=
    (fun m => (rfl : ({ s with dram := m } : State).ctl = s.ctl)) (s.setDram a bs).dram
@[simp] theorem setDram_written (s : State) (a : Nat) (bs : List Byte) : (s.setDram a bs).written = s.written :=
    (fun m => (rfl : ({ s with dram := m } : State).written = s.written)) (s.setDram a bs).dram
@[simp] theorem setDram_out (s : State) (a : Nat) (bs : List Byte) : (s.setDram a bs).out = s.out :=
    (fun m => (rfl : ({ s with dram := m } : State).out = s.out)) (s.setDram a bs).dram
@[simp] theorem setDram_fv (s : State) (a : Nat) (bs : List Byte) : (s.setDram a bs).fv = s.fv :=
    (fun m => (rfl : ({ s with dram := m } : State).fv = s.fv)) (s.setDram a bs).dram
@[simp] theorem setDram_time (s : State) (a : Nat) (bs : List Byte) : (s.setDram a bs).time = s.time :=
    (fun m => (rfl : ({ s with dram := m } : State).time = s.time)) (s.setDram a bs).dram
@[simp] theorem setDram_strapX (s : State) (a : Nat) (bs : List Byte) : (s.setDram a bs).strapX = s.strapX :=
    (fun m => (rfl : ({ s with dram := m } : State).strapX = s.strapX)) (s.setDram a bs).dram
@[simp] theorem setDram_strapY (s : State) (a : Nat) (bs : List Byte) : (s.setDram a bs).strapY = s.strapY :=
    (fun m => (rfl : ({ s with dram := m } : State).strapY = s.strapY)) (s.setDram a bs).dram
@[simp] theorem setDram_reach (s : State) (a : Nat) (bs : List Byte) : (s.setDram a bs).reach = s.reach :=
    (fun m => (rfl : ({ s with dram := m } : State).reach = s.reach)) (s.setDram a bs).dram
@[simp] theorem setDram_evq (s : State) (a : Nat) (bs : List Byte) : (s.setDram a bs).evq = s.evq :=
    (fun m => (rfl : ({ s with dram := m } : State).evq = s.evq)) (s.setDram a bs).dram
@[simp] theorem setDram_dram (s : State) (a : Nat) (bs : List Byte) : (s.setDram a bs).dram = { s.dram with mem := writeMem s.dram.mem a bs } :=
    rfl
@[simp] theorem setDram_caches (s : State) (a : Nat) (bs : List Byte) : (s.setDram a bs).caches = s.caches :=
    (fun m => (rfl : ({ s with dram := m } : State).caches = s.caches)) (s.setDram a bs).dram
@[simp] theorem setDram_bufs (s : State) (a : Nat) (bs : List Byte) : (s.setDram a bs).bufs = s.bufs :=
    (fun m => (rfl : ({ s with dram := m } : State).bufs = s.bufs)) (s.setDram a bs).dram
@[simp] theorem setDram_twin (s : State) (a : Nat) (bs : List Byte) : (s.setDram a bs).twin = s.twin :=
    (fun m => (rfl : ({ s with dram := m } : State).twin = s.twin)) (s.setDram a bs).dram
@[simp] theorem setDram_parts (s : State) (a : Nat) (bs : List Byte) : (s.setDram a bs).parts = s.parts :=
    (fun m => (rfl : ({ s with dram := m } : State).parts = s.parts)) (s.setDram a bs).dram
@[simp] theorem setDram_nextPart (s : State) (a : Nat) (bs : List Byte) : (s.setDram a bs).nextPart = s.nextPart :=
    (fun m => (rfl : ({ s with dram := m } : State).nextPart = s.nextPart)) (s.setDram a bs).dram
@[simp] theorem setDram_logs (s : State) (a : Nat) (bs : List Byte) : (s.setDram a bs).logs = s.logs :=
    (fun m => (rfl : ({ s with dram := m } : State).logs = s.logs)) (s.setDram a bs).dram
@[simp] theorem setDram_queues (s : State) (a : Nat) (bs : List Byte) : (s.setDram a bs).queues = s.queues :=
    (fun m => (rfl : ({ s with dram := m } : State).queues = s.queues)) (s.setDram a bs).dram
@[simp] theorem setDram_rates (s : State) (a : Nat) (bs : List Byte) : (s.setDram a bs).rates = s.rates :=
    (fun m => (rfl : ({ s with dram := m } : State).rates = s.rates)) (s.setDram a bs).dram
@[simp] theorem setDram_icmp (s : State) (a : Nat) (bs : List Byte) : (s.setDram a bs).icmp = s.icmp :=
    (fun m => (rfl : ({ s with dram := m } : State).icmp = s.icmp)) (s.setDram a bs).dram
@[simp] theorem setDram_tp (s : State) (a : Nat) (bs : List Byte) : (s.setDram a bs).tp = s.tp :=
    (fun m => (rfl : ({ s with dram := m } : State).tp = s.tp)) (s.setDram a bs).dram
@[simp] theorem setDram_spates (s : State) (a : Nat) (bs : List Byte) : (s.setDram a bs).spates = s.spates :=
    (fun m => (rfl : ({ s with dram := m } : State).spates = s.spates)) (s.setDram a bs).dram
@[simp] theorem setDram_fiddles (s : State) (a : Nat) (bs : List Byte) : (s.setDram a bs).fiddles = s.fiddles :=
    (fun m => (rfl : ({ s with dram := m } : State).fiddles = s.fiddles)) (s.setDram a bs).dram
@[simp] theorem setDram_spent (s : State) (a : Nat) (bs : List Byte) : (s.setDram a bs).spent = s.spent :=
    (fun m => (rfl : ({ s with dram := m } : State).spent = s.spent)) (s.setDram a bs).dram
@[simp] theorem setDram_eng (s : State) (a : Nat) (bs : List Byte) : (s.setDram a bs).eng = s.eng :=
    (fun m => (rfl : ({ s with dram := m } : State).eng = s.eng)) (s.setDram a bs).dram
@[simp] theorem setDram_stage (s : State) (a : Nat) (bs : List Byte) : (s.setDram a bs).stage = s.stage :=
    (fun m => (rfl : ({ s with dram := m } : State).stage = s.stage)) (s.setDram a bs).dram
@[simp] theorem setDram_flash (s : State) (a : Nat) (bs : List Byte) : (s.setDram a bs).flash = s.flash :=
    (fun m => (rfl : ({ s with dram := m } : State).flash = s.flash)) (s.setDram a bs).dram
@[simp] theorem setDram_streams (s : State) (a : Nat) (bs : List Byte) : (s.setDram a bs).streams = s.streams :=
    (fun m => (rfl : ({ s with dram := m } : State).streams = s.streams)) (s.setDram a bs).dram
@[simp] theorem setDram_absent (s : State) (a : Nat) (bs : List Byte) : (s.setDram a bs).absent = s.absent :=
    (fun m => (rfl : ({ s with dram := m } : State).absent = s.absent)) (s.setDram a bs).dram
@[simp] theorem setDram_peers (s : State) (a : Nat) (bs : List Byte) : (s.setDram a bs).peers = s.peers :=
    (fun m => (rfl : ({ s with dram := m } : State).peers = s.peers)) (s.setDram a bs).dram
@[simp] theorem setDram_drains (s : State) (a : Nat) (bs : List Byte) : (s.setDram a bs).drains = s.drains :=
    (fun m => (rfl : ({ s with dram := m } : State).drains = s.drains)) (s.setDram a bs).dram
@[simp] theorem setDram_chans (s : State) (a : Nat) (bs : List Byte) : (s.setDram a bs).chans = s.chans :=
    (fun m => (rfl : ({ s with dram := m } : State).chans = s.chans)) (s.setDram a bs).dram
@[simp] theorem setDram_scrub (s : State) (a : Nat) (bs : List Byte) : (s.setDram a bs).scrub = s.scrub :=
    (fun m => (rfl : ({ s with dram := m } : State).scrub = s.scrub)) (s.setDram a bs).dram
@[simp] theorem setDram_tablesLost (s : State) (a : Nat) (bs : List Byte) : (s.setDram a bs).tablesLost = s.tablesLost :=
    (fun m => (rfl : ({ s with dram := m } : State).tablesLost = s.tablesLost)) (s.setDram a bs).dram
@[simp] theorem setDram_supply (s : State) (a : Nat) (bs : List Byte) : (s.setDram a bs).supply = s.supply :=
    (fun m => (rfl : ({ s with dram := m } : State).supply = s.supply)) (s.setDram a bs).dram
@[simp] theorem setDram_stk (s : State) (a : Nat) (bs : List Byte) : (s.setDram a bs).stk = s.stk :=
    (fun m => (rfl : ({ s with dram := m } : State).stk = s.stk)) (s.setDram a bs).dram
@[simp] theorem setDram_sec (s : State) (a : Nat) (bs : List Byte) : (s.setDram a bs).sec = s.sec :=
    (fun m => (rfl : ({ s with dram := m } : State).sec = s.sec)) (s.setDram a bs).dram
@[simp] theorem setDram_recd (s : State) (a : Nat) (bs : List Byte) : (s.setDram a bs).recd = s.recd :=
    (fun m => (rfl : ({ s with dram := m } : State).recd = s.recd)) (s.setDram a bs).dram
@[simp] theorem setDram_pins (s : State) (a : Nat) (bs : List Byte) : (s.setDram a bs).pins = s.pins :=
    (fun m => (rfl : ({ s with dram := m } : State).pins = s.pins)) (s.setDram a bs).dram
@[simp] theorem setDram_pending (s : State) (a : Nat) (bs : List Byte) : (s.setDram a bs).pending = s.pending :=
    (fun m => (rfl : ({ s with dram := m } : State).pending = s.pending)) (s.setDram a bs).dram

/-! A line cache replaced. -/

@[simp] theorem setCache_ctl (s : State) (c : Nat) (x : Cache) : (s.setCache c x).ctl = s.ctl :=
    (fun m => (rfl : ({ s with caches := m } : State).ctl = s.ctl)) (s.setCache c x).caches
@[simp] theorem setCache_written (s : State) (c : Nat) (x : Cache) : (s.setCache c x).written = s.written :=
    (fun m => (rfl : ({ s with caches := m } : State).written = s.written)) (s.setCache c x).caches
@[simp] theorem setCache_out (s : State) (c : Nat) (x : Cache) : (s.setCache c x).out = s.out :=
    (fun m => (rfl : ({ s with caches := m } : State).out = s.out)) (s.setCache c x).caches
@[simp] theorem setCache_fv (s : State) (c : Nat) (x : Cache) : (s.setCache c x).fv = s.fv :=
    (fun m => (rfl : ({ s with caches := m } : State).fv = s.fv)) (s.setCache c x).caches
@[simp] theorem setCache_time (s : State) (c : Nat) (x : Cache) : (s.setCache c x).time = s.time :=
    (fun m => (rfl : ({ s with caches := m } : State).time = s.time)) (s.setCache c x).caches
@[simp] theorem setCache_strapX (s : State) (c : Nat) (x : Cache) : (s.setCache c x).strapX = s.strapX :=
    (fun m => (rfl : ({ s with caches := m } : State).strapX = s.strapX)) (s.setCache c x).caches
@[simp] theorem setCache_strapY (s : State) (c : Nat) (x : Cache) : (s.setCache c x).strapY = s.strapY :=
    (fun m => (rfl : ({ s with caches := m } : State).strapY = s.strapY)) (s.setCache c x).caches
@[simp] theorem setCache_reach (s : State) (c : Nat) (x : Cache) : (s.setCache c x).reach = s.reach :=
    (fun m => (rfl : ({ s with caches := m } : State).reach = s.reach)) (s.setCache c x).caches
@[simp] theorem setCache_evq (s : State) (c : Nat) (x : Cache) : (s.setCache c x).evq = s.evq :=
    (fun m => (rfl : ({ s with caches := m } : State).evq = s.evq)) (s.setCache c x).caches
@[simp] theorem setCache_dram (s : State) (c : Nat) (x : Cache) : (s.setCache c x).dram = s.dram :=
    (fun m => (rfl : ({ s with caches := m } : State).dram = s.dram)) (s.setCache c x).caches
@[simp] theorem setCache_caches (s : State) (c : Nat) (x : Cache) : (s.setCache c x).caches = s.caches.set ⟨[], []⟩ c x := rfl
@[simp] theorem setCache_bufs (s : State) (c : Nat) (x : Cache) : (s.setCache c x).bufs = s.bufs :=
    (fun m => (rfl : ({ s with caches := m } : State).bufs = s.bufs)) (s.setCache c x).caches
@[simp] theorem setCache_twin (s : State) (c : Nat) (x : Cache) : (s.setCache c x).twin = s.twin :=
    (fun m => (rfl : ({ s with caches := m } : State).twin = s.twin)) (s.setCache c x).caches
@[simp] theorem setCache_parts (s : State) (c : Nat) (x : Cache) : (s.setCache c x).parts = s.parts :=
    (fun m => (rfl : ({ s with caches := m } : State).parts = s.parts)) (s.setCache c x).caches
@[simp] theorem setCache_nextPart (s : State) (c : Nat) (x : Cache) : (s.setCache c x).nextPart = s.nextPart :=
    (fun m => (rfl : ({ s with caches := m } : State).nextPart = s.nextPart)) (s.setCache c x).caches
@[simp] theorem setCache_logs (s : State) (c : Nat) (x : Cache) : (s.setCache c x).logs = s.logs :=
    (fun m => (rfl : ({ s with caches := m } : State).logs = s.logs)) (s.setCache c x).caches
@[simp] theorem setCache_queues (s : State) (c : Nat) (x : Cache) : (s.setCache c x).queues = s.queues :=
    (fun m => (rfl : ({ s with caches := m } : State).queues = s.queues)) (s.setCache c x).caches
@[simp] theorem setCache_rates (s : State) (c : Nat) (x : Cache) : (s.setCache c x).rates = s.rates :=
    (fun m => (rfl : ({ s with caches := m } : State).rates = s.rates)) (s.setCache c x).caches
@[simp] theorem setCache_icmp (s : State) (c : Nat) (x : Cache) : (s.setCache c x).icmp = s.icmp :=
    (fun m => (rfl : ({ s with caches := m } : State).icmp = s.icmp)) (s.setCache c x).caches
@[simp] theorem setCache_tp (s : State) (c : Nat) (x : Cache) : (s.setCache c x).tp = s.tp :=
    (fun m => (rfl : ({ s with caches := m } : State).tp = s.tp)) (s.setCache c x).caches
@[simp] theorem setCache_spates (s : State) (c : Nat) (x : Cache) : (s.setCache c x).spates = s.spates :=
    (fun m => (rfl : ({ s with caches := m } : State).spates = s.spates)) (s.setCache c x).caches
@[simp] theorem setCache_fiddles (s : State) (c : Nat) (x : Cache) : (s.setCache c x).fiddles = s.fiddles :=
    (fun m => (rfl : ({ s with caches := m } : State).fiddles = s.fiddles)) (s.setCache c x).caches
@[simp] theorem setCache_spent (s : State) (c : Nat) (x : Cache) : (s.setCache c x).spent = s.spent :=
    (fun m => (rfl : ({ s with caches := m } : State).spent = s.spent)) (s.setCache c x).caches
@[simp] theorem setCache_eng (s : State) (c : Nat) (x : Cache) : (s.setCache c x).eng = s.eng :=
    (fun m => (rfl : ({ s with caches := m } : State).eng = s.eng)) (s.setCache c x).caches
@[simp] theorem setCache_stage (s : State) (c : Nat) (x : Cache) : (s.setCache c x).stage = s.stage :=
    (fun m => (rfl : ({ s with caches := m } : State).stage = s.stage)) (s.setCache c x).caches
@[simp] theorem setCache_flash (s : State) (c : Nat) (x : Cache) : (s.setCache c x).flash = s.flash :=
    (fun m => (rfl : ({ s with caches := m } : State).flash = s.flash)) (s.setCache c x).caches
@[simp] theorem setCache_streams (s : State) (c : Nat) (x : Cache) : (s.setCache c x).streams = s.streams :=
    (fun m => (rfl : ({ s with caches := m } : State).streams = s.streams)) (s.setCache c x).caches
@[simp] theorem setCache_absent (s : State) (c : Nat) (x : Cache) : (s.setCache c x).absent = s.absent :=
    (fun m => (rfl : ({ s with caches := m } : State).absent = s.absent)) (s.setCache c x).caches
@[simp] theorem setCache_peers (s : State) (c : Nat) (x : Cache) : (s.setCache c x).peers = s.peers :=
    (fun m => (rfl : ({ s with caches := m } : State).peers = s.peers)) (s.setCache c x).caches
@[simp] theorem setCache_drains (s : State) (c : Nat) (x : Cache) : (s.setCache c x).drains = s.drains :=
    (fun m => (rfl : ({ s with caches := m } : State).drains = s.drains)) (s.setCache c x).caches
@[simp] theorem setCache_chans (s : State) (c : Nat) (x : Cache) : (s.setCache c x).chans = s.chans :=
    (fun m => (rfl : ({ s with caches := m } : State).chans = s.chans)) (s.setCache c x).caches
@[simp] theorem setCache_scrub (s : State) (c : Nat) (x : Cache) : (s.setCache c x).scrub = s.scrub :=
    (fun m => (rfl : ({ s with caches := m } : State).scrub = s.scrub)) (s.setCache c x).caches
@[simp] theorem setCache_tablesLost (s : State) (c : Nat) (x : Cache) : (s.setCache c x).tablesLost = s.tablesLost :=
    (fun m => (rfl : ({ s with caches := m } : State).tablesLost = s.tablesLost)) (s.setCache c x).caches
@[simp] theorem setCache_supply (s : State) (c : Nat) (x : Cache) : (s.setCache c x).supply = s.supply :=
    (fun m => (rfl : ({ s with caches := m } : State).supply = s.supply)) (s.setCache c x).caches
@[simp] theorem setCache_stk (s : State) (c : Nat) (x : Cache) : (s.setCache c x).stk = s.stk :=
    (fun m => (rfl : ({ s with caches := m } : State).stk = s.stk)) (s.setCache c x).caches
@[simp] theorem setCache_sec (s : State) (c : Nat) (x : Cache) : (s.setCache c x).sec = s.sec :=
    (fun m => (rfl : ({ s with caches := m } : State).sec = s.sec)) (s.setCache c x).caches
@[simp] theorem setCache_recd (s : State) (c : Nat) (x : Cache) : (s.setCache c x).recd = s.recd :=
    (fun m => (rfl : ({ s with caches := m } : State).recd = s.recd)) (s.setCache c x).caches
@[simp] theorem setCache_pins (s : State) (c : Nat) (x : Cache) : (s.setCache c x).pins = s.pins :=
    (fun m => (rfl : ({ s with caches := m } : State).pins = s.pins)) (s.setCache c x).caches
@[simp] theorem setCache_pending (s : State) (c : Nat) (x : Cache) : (s.setCache c x).pending = s.pending :=
    (fun m => (rfl : ({ s with caches := m } : State).pending = s.pending)) (s.setCache c x).caches

/-! The records of lines not settled changed. -/

@[simp] theorem mapUnsettled_ctl (s : State) (f : Unsettled → Unsettled) : (s.mapUnsettled f).ctl = s.ctl :=
    (fun m => (rfl : ({ s with dram := m } : State).ctl = s.ctl)) (s.mapUnsettled f).dram
@[simp] theorem mapUnsettled_written (s : State) (f : Unsettled → Unsettled) : (s.mapUnsettled f).written = s.written :=
    (fun m => (rfl : ({ s with dram := m } : State).written = s.written)) (s.mapUnsettled f).dram
@[simp] theorem mapUnsettled_out (s : State) (f : Unsettled → Unsettled) : (s.mapUnsettled f).out = s.out :=
    (fun m => (rfl : ({ s with dram := m } : State).out = s.out)) (s.mapUnsettled f).dram
@[simp] theorem mapUnsettled_fv (s : State) (f : Unsettled → Unsettled) : (s.mapUnsettled f).fv = s.fv :=
    (fun m => (rfl : ({ s with dram := m } : State).fv = s.fv)) (s.mapUnsettled f).dram
@[simp] theorem mapUnsettled_time (s : State) (f : Unsettled → Unsettled) : (s.mapUnsettled f).time = s.time :=
    (fun m => (rfl : ({ s with dram := m } : State).time = s.time)) (s.mapUnsettled f).dram
@[simp] theorem mapUnsettled_strapX (s : State) (f : Unsettled → Unsettled) : (s.mapUnsettled f).strapX = s.strapX :=
    (fun m => (rfl : ({ s with dram := m } : State).strapX = s.strapX)) (s.mapUnsettled f).dram
@[simp] theorem mapUnsettled_strapY (s : State) (f : Unsettled → Unsettled) : (s.mapUnsettled f).strapY = s.strapY :=
    (fun m => (rfl : ({ s with dram := m } : State).strapY = s.strapY)) (s.mapUnsettled f).dram
@[simp] theorem mapUnsettled_reach (s : State) (f : Unsettled → Unsettled) : (s.mapUnsettled f).reach = s.reach :=
    (fun m => (rfl : ({ s with dram := m } : State).reach = s.reach)) (s.mapUnsettled f).dram
@[simp] theorem mapUnsettled_evq (s : State) (f : Unsettled → Unsettled) : (s.mapUnsettled f).evq = s.evq :=
    (fun m => (rfl : ({ s with dram := m } : State).evq = s.evq)) (s.mapUnsettled f).dram
@[simp] theorem mapUnsettled_dram (s : State) (f : Unsettled → Unsettled) : (s.mapUnsettled f).dram = { s.dram with unsettled := s.dram.unsettled.map f } :=
    rfl
@[simp] theorem mapUnsettled_caches (s : State) (f : Unsettled → Unsettled) : (s.mapUnsettled f).caches = s.caches :=
    (fun m => (rfl : ({ s with dram := m } : State).caches = s.caches)) (s.mapUnsettled f).dram
@[simp] theorem mapUnsettled_bufs (s : State) (f : Unsettled → Unsettled) : (s.mapUnsettled f).bufs = s.bufs :=
    (fun m => (rfl : ({ s with dram := m } : State).bufs = s.bufs)) (s.mapUnsettled f).dram
@[simp] theorem mapUnsettled_twin (s : State) (f : Unsettled → Unsettled) : (s.mapUnsettled f).twin = s.twin :=
    (fun m => (rfl : ({ s with dram := m } : State).twin = s.twin)) (s.mapUnsettled f).dram
@[simp] theorem mapUnsettled_parts (s : State) (f : Unsettled → Unsettled) : (s.mapUnsettled f).parts = s.parts :=
    (fun m => (rfl : ({ s with dram := m } : State).parts = s.parts)) (s.mapUnsettled f).dram
@[simp] theorem mapUnsettled_nextPart (s : State) (f : Unsettled → Unsettled) : (s.mapUnsettled f).nextPart = s.nextPart :=
    (fun m => (rfl : ({ s with dram := m } : State).nextPart = s.nextPart)) (s.mapUnsettled f).dram
@[simp] theorem mapUnsettled_logs (s : State) (f : Unsettled → Unsettled) : (s.mapUnsettled f).logs = s.logs :=
    (fun m => (rfl : ({ s with dram := m } : State).logs = s.logs)) (s.mapUnsettled f).dram
@[simp] theorem mapUnsettled_queues (s : State) (f : Unsettled → Unsettled) : (s.mapUnsettled f).queues = s.queues :=
    (fun m => (rfl : ({ s with dram := m } : State).queues = s.queues)) (s.mapUnsettled f).dram
@[simp] theorem mapUnsettled_rates (s : State) (f : Unsettled → Unsettled) : (s.mapUnsettled f).rates = s.rates :=
    (fun m => (rfl : ({ s with dram := m } : State).rates = s.rates)) (s.mapUnsettled f).dram
@[simp] theorem mapUnsettled_icmp (s : State) (f : Unsettled → Unsettled) : (s.mapUnsettled f).icmp = s.icmp :=
    (fun m => (rfl : ({ s with dram := m } : State).icmp = s.icmp)) (s.mapUnsettled f).dram
@[simp] theorem mapUnsettled_tp (s : State) (f : Unsettled → Unsettled) : (s.mapUnsettled f).tp = s.tp :=
    (fun m => (rfl : ({ s with dram := m } : State).tp = s.tp)) (s.mapUnsettled f).dram
@[simp] theorem mapUnsettled_spates (s : State) (f : Unsettled → Unsettled) : (s.mapUnsettled f).spates = s.spates :=
    (fun m => (rfl : ({ s with dram := m } : State).spates = s.spates)) (s.mapUnsettled f).dram
@[simp] theorem mapUnsettled_fiddles (s : State) (f : Unsettled → Unsettled) : (s.mapUnsettled f).fiddles = s.fiddles :=
    (fun m => (rfl : ({ s with dram := m } : State).fiddles = s.fiddles)) (s.mapUnsettled f).dram
@[simp] theorem mapUnsettled_spent (s : State) (f : Unsettled → Unsettled) : (s.mapUnsettled f).spent = s.spent :=
    (fun m => (rfl : ({ s with dram := m } : State).spent = s.spent)) (s.mapUnsettled f).dram
@[simp] theorem mapUnsettled_eng (s : State) (f : Unsettled → Unsettled) : (s.mapUnsettled f).eng = s.eng :=
    (fun m => (rfl : ({ s with dram := m } : State).eng = s.eng)) (s.mapUnsettled f).dram
@[simp] theorem mapUnsettled_stage (s : State) (f : Unsettled → Unsettled) : (s.mapUnsettled f).stage = s.stage :=
    (fun m => (rfl : ({ s with dram := m } : State).stage = s.stage)) (s.mapUnsettled f).dram
@[simp] theorem mapUnsettled_flash (s : State) (f : Unsettled → Unsettled) : (s.mapUnsettled f).flash = s.flash :=
    (fun m => (rfl : ({ s with dram := m } : State).flash = s.flash)) (s.mapUnsettled f).dram
@[simp] theorem mapUnsettled_streams (s : State) (f : Unsettled → Unsettled) : (s.mapUnsettled f).streams = s.streams :=
    (fun m => (rfl : ({ s with dram := m } : State).streams = s.streams)) (s.mapUnsettled f).dram
@[simp] theorem mapUnsettled_absent (s : State) (f : Unsettled → Unsettled) : (s.mapUnsettled f).absent = s.absent :=
    (fun m => (rfl : ({ s with dram := m } : State).absent = s.absent)) (s.mapUnsettled f).dram
@[simp] theorem mapUnsettled_peers (s : State) (f : Unsettled → Unsettled) : (s.mapUnsettled f).peers = s.peers :=
    (fun m => (rfl : ({ s with dram := m } : State).peers = s.peers)) (s.mapUnsettled f).dram
@[simp] theorem mapUnsettled_drains (s : State) (f : Unsettled → Unsettled) : (s.mapUnsettled f).drains = s.drains :=
    (fun m => (rfl : ({ s with dram := m } : State).drains = s.drains)) (s.mapUnsettled f).dram
@[simp] theorem mapUnsettled_chans (s : State) (f : Unsettled → Unsettled) : (s.mapUnsettled f).chans = s.chans :=
    (fun m => (rfl : ({ s with dram := m } : State).chans = s.chans)) (s.mapUnsettled f).dram
@[simp] theorem mapUnsettled_scrub (s : State) (f : Unsettled → Unsettled) : (s.mapUnsettled f).scrub = s.scrub :=
    (fun m => (rfl : ({ s with dram := m } : State).scrub = s.scrub)) (s.mapUnsettled f).dram
@[simp] theorem mapUnsettled_tablesLost (s : State) (f : Unsettled → Unsettled) : (s.mapUnsettled f).tablesLost = s.tablesLost :=
    (fun m => (rfl : ({ s with dram := m } : State).tablesLost = s.tablesLost)) (s.mapUnsettled f).dram
@[simp] theorem mapUnsettled_supply (s : State) (f : Unsettled → Unsettled) : (s.mapUnsettled f).supply = s.supply :=
    (fun m => (rfl : ({ s with dram := m } : State).supply = s.supply)) (s.mapUnsettled f).dram
@[simp] theorem mapUnsettled_stk (s : State) (f : Unsettled → Unsettled) : (s.mapUnsettled f).stk = s.stk :=
    (fun m => (rfl : ({ s with dram := m } : State).stk = s.stk)) (s.mapUnsettled f).dram
@[simp] theorem mapUnsettled_sec (s : State) (f : Unsettled → Unsettled) : (s.mapUnsettled f).sec = s.sec :=
    (fun m => (rfl : ({ s with dram := m } : State).sec = s.sec)) (s.mapUnsettled f).dram
@[simp] theorem mapUnsettled_recd (s : State) (f : Unsettled → Unsettled) : (s.mapUnsettled f).recd = s.recd :=
    (fun m => (rfl : ({ s with dram := m } : State).recd = s.recd)) (s.mapUnsettled f).dram
@[simp] theorem mapUnsettled_pins (s : State) (f : Unsettled → Unsettled) : (s.mapUnsettled f).pins = s.pins :=
    (fun m => (rfl : ({ s with dram := m } : State).pins = s.pins)) (s.mapUnsettled f).dram
@[simp] theorem mapUnsettled_pending (s : State) (f : Unsettled → Unsettled) : (s.mapUnsettled f).pending = s.pending :=
    (fun m => (rfl : ({ s with dram := m } : State).pending = s.pending)) (s.mapUnsettled f).dram

/-! The generation of a granule. -/

@[simp] theorem setGen_ctl (s : State) (gran g : Nat) : (s.setGen gran g).ctl = s.ctl :=
    (fun m => (rfl : ({ s with dram := m } : State).ctl = s.ctl)) (s.setGen gran g).dram
@[simp] theorem setGen_written (s : State) (gran g : Nat) : (s.setGen gran g).written = s.written :=
    (fun m => (rfl : ({ s with dram := m } : State).written = s.written)) (s.setGen gran g).dram
@[simp] theorem setGen_out (s : State) (gran g : Nat) : (s.setGen gran g).out = s.out :=
    (fun m => (rfl : ({ s with dram := m } : State).out = s.out)) (s.setGen gran g).dram
@[simp] theorem setGen_fv (s : State) (gran g : Nat) : (s.setGen gran g).fv = s.fv :=
    (fun m => (rfl : ({ s with dram := m } : State).fv = s.fv)) (s.setGen gran g).dram
@[simp] theorem setGen_time (s : State) (gran g : Nat) : (s.setGen gran g).time = s.time :=
    (fun m => (rfl : ({ s with dram := m } : State).time = s.time)) (s.setGen gran g).dram
@[simp] theorem setGen_strapX (s : State) (gran g : Nat) : (s.setGen gran g).strapX = s.strapX :=
    (fun m => (rfl : ({ s with dram := m } : State).strapX = s.strapX)) (s.setGen gran g).dram
@[simp] theorem setGen_strapY (s : State) (gran g : Nat) : (s.setGen gran g).strapY = s.strapY :=
    (fun m => (rfl : ({ s with dram := m } : State).strapY = s.strapY)) (s.setGen gran g).dram
@[simp] theorem setGen_reach (s : State) (gran g : Nat) : (s.setGen gran g).reach = s.reach :=
    (fun m => (rfl : ({ s with dram := m } : State).reach = s.reach)) (s.setGen gran g).dram
@[simp] theorem setGen_evq (s : State) (gran g : Nat) : (s.setGen gran g).evq = s.evq :=
    (fun m => (rfl : ({ s with dram := m } : State).evq = s.evq)) (s.setGen gran g).dram
@[simp] theorem setGen_dram (s : State) (gran g : Nat) : (s.setGen gran g).dram = { s.dram with gens := s.dram.gens.set 0 gran (g % 2 ^ 48) } :=
    rfl
@[simp] theorem setGen_caches (s : State) (gran g : Nat) : (s.setGen gran g).caches = s.caches :=
    (fun m => (rfl : ({ s with dram := m } : State).caches = s.caches)) (s.setGen gran g).dram
@[simp] theorem setGen_bufs (s : State) (gran g : Nat) : (s.setGen gran g).bufs = s.bufs :=
    (fun m => (rfl : ({ s with dram := m } : State).bufs = s.bufs)) (s.setGen gran g).dram
@[simp] theorem setGen_twin (s : State) (gran g : Nat) : (s.setGen gran g).twin = s.twin :=
    (fun m => (rfl : ({ s with dram := m } : State).twin = s.twin)) (s.setGen gran g).dram
@[simp] theorem setGen_parts (s : State) (gran g : Nat) : (s.setGen gran g).parts = s.parts :=
    (fun m => (rfl : ({ s with dram := m } : State).parts = s.parts)) (s.setGen gran g).dram
@[simp] theorem setGen_nextPart (s : State) (gran g : Nat) : (s.setGen gran g).nextPart = s.nextPart :=
    (fun m => (rfl : ({ s with dram := m } : State).nextPart = s.nextPart)) (s.setGen gran g).dram
@[simp] theorem setGen_logs (s : State) (gran g : Nat) : (s.setGen gran g).logs = s.logs :=
    (fun m => (rfl : ({ s with dram := m } : State).logs = s.logs)) (s.setGen gran g).dram
@[simp] theorem setGen_queues (s : State) (gran g : Nat) : (s.setGen gran g).queues = s.queues :=
    (fun m => (rfl : ({ s with dram := m } : State).queues = s.queues)) (s.setGen gran g).dram
@[simp] theorem setGen_rates (s : State) (gran g : Nat) : (s.setGen gran g).rates = s.rates :=
    (fun m => (rfl : ({ s with dram := m } : State).rates = s.rates)) (s.setGen gran g).dram
@[simp] theorem setGen_icmp (s : State) (gran g : Nat) : (s.setGen gran g).icmp = s.icmp :=
    (fun m => (rfl : ({ s with dram := m } : State).icmp = s.icmp)) (s.setGen gran g).dram
@[simp] theorem setGen_tp (s : State) (gran g : Nat) : (s.setGen gran g).tp = s.tp :=
    (fun m => (rfl : ({ s with dram := m } : State).tp = s.tp)) (s.setGen gran g).dram
@[simp] theorem setGen_spates (s : State) (gran g : Nat) : (s.setGen gran g).spates = s.spates :=
    (fun m => (rfl : ({ s with dram := m } : State).spates = s.spates)) (s.setGen gran g).dram
@[simp] theorem setGen_fiddles (s : State) (gran g : Nat) : (s.setGen gran g).fiddles = s.fiddles :=
    (fun m => (rfl : ({ s with dram := m } : State).fiddles = s.fiddles)) (s.setGen gran g).dram
@[simp] theorem setGen_spent (s : State) (gran g : Nat) : (s.setGen gran g).spent = s.spent :=
    (fun m => (rfl : ({ s with dram := m } : State).spent = s.spent)) (s.setGen gran g).dram
@[simp] theorem setGen_eng (s : State) (gran g : Nat) : (s.setGen gran g).eng = s.eng :=
    (fun m => (rfl : ({ s with dram := m } : State).eng = s.eng)) (s.setGen gran g).dram
@[simp] theorem setGen_stage (s : State) (gran g : Nat) : (s.setGen gran g).stage = s.stage :=
    (fun m => (rfl : ({ s with dram := m } : State).stage = s.stage)) (s.setGen gran g).dram
@[simp] theorem setGen_flash (s : State) (gran g : Nat) : (s.setGen gran g).flash = s.flash :=
    (fun m => (rfl : ({ s with dram := m } : State).flash = s.flash)) (s.setGen gran g).dram
@[simp] theorem setGen_streams (s : State) (gran g : Nat) : (s.setGen gran g).streams = s.streams :=
    (fun m => (rfl : ({ s with dram := m } : State).streams = s.streams)) (s.setGen gran g).dram
@[simp] theorem setGen_absent (s : State) (gran g : Nat) : (s.setGen gran g).absent = s.absent :=
    (fun m => (rfl : ({ s with dram := m } : State).absent = s.absent)) (s.setGen gran g).dram
@[simp] theorem setGen_peers (s : State) (gran g : Nat) : (s.setGen gran g).peers = s.peers :=
    (fun m => (rfl : ({ s with dram := m } : State).peers = s.peers)) (s.setGen gran g).dram
@[simp] theorem setGen_drains (s : State) (gran g : Nat) : (s.setGen gran g).drains = s.drains :=
    (fun m => (rfl : ({ s with dram := m } : State).drains = s.drains)) (s.setGen gran g).dram
@[simp] theorem setGen_chans (s : State) (gran g : Nat) : (s.setGen gran g).chans = s.chans :=
    (fun m => (rfl : ({ s with dram := m } : State).chans = s.chans)) (s.setGen gran g).dram
@[simp] theorem setGen_scrub (s : State) (gran g : Nat) : (s.setGen gran g).scrub = s.scrub :=
    (fun m => (rfl : ({ s with dram := m } : State).scrub = s.scrub)) (s.setGen gran g).dram
@[simp] theorem setGen_tablesLost (s : State) (gran g : Nat) : (s.setGen gran g).tablesLost = s.tablesLost :=
    (fun m => (rfl : ({ s with dram := m } : State).tablesLost = s.tablesLost)) (s.setGen gran g).dram
@[simp] theorem setGen_supply (s : State) (gran g : Nat) : (s.setGen gran g).supply = s.supply :=
    (fun m => (rfl : ({ s with dram := m } : State).supply = s.supply)) (s.setGen gran g).dram
@[simp] theorem setGen_stk (s : State) (gran g : Nat) : (s.setGen gran g).stk = s.stk :=
    (fun m => (rfl : ({ s with dram := m } : State).stk = s.stk)) (s.setGen gran g).dram
@[simp] theorem setGen_sec (s : State) (gran g : Nat) : (s.setGen gran g).sec = s.sec :=
    (fun m => (rfl : ({ s with dram := m } : State).sec = s.sec)) (s.setGen gran g).dram
@[simp] theorem setGen_recd (s : State) (gran g : Nat) : (s.setGen gran g).recd = s.recd :=
    (fun m => (rfl : ({ s with dram := m } : State).recd = s.recd)) (s.setGen gran g).dram
@[simp] theorem setGen_pins (s : State) (gran g : Nat) : (s.setGen gran g).pins = s.pins :=
    (fun m => (rfl : ({ s with dram := m } : State).pins = s.pins)) (s.setGen gran g).dram
@[simp] theorem setGen_pending (s : State) (gran g : Nat) : (s.setGen gran g).pending = s.pending :=
    (fun m => (rfl : ({ s with dram := m } : State).pending = s.pending)) (s.setGen gran g).dram

/-! An engine thread changed. -/

@[simp] theorem onThread_ctl (s : State) (t : Nat) (f : Thread → Thread) : (s.onThread t f).ctl = s.ctl :=
    (fun m => (rfl : ({ s with eng := m } : State).ctl = s.ctl)) (s.onThread t f).eng
@[simp] theorem onThread_written (s : State) (t : Nat) (f : Thread → Thread) : (s.onThread t f).written = s.written :=
    (fun m => (rfl : ({ s with eng := m } : State).written = s.written)) (s.onThread t f).eng
@[simp] theorem onThread_out (s : State) (t : Nat) (f : Thread → Thread) : (s.onThread t f).out = s.out :=
    (fun m => (rfl : ({ s with eng := m } : State).out = s.out)) (s.onThread t f).eng
@[simp] theorem onThread_fv (s : State) (t : Nat) (f : Thread → Thread) : (s.onThread t f).fv = s.fv :=
    (fun m => (rfl : ({ s with eng := m } : State).fv = s.fv)) (s.onThread t f).eng
@[simp] theorem onThread_time (s : State) (t : Nat) (f : Thread → Thread) : (s.onThread t f).time = s.time :=
    (fun m => (rfl : ({ s with eng := m } : State).time = s.time)) (s.onThread t f).eng
@[simp] theorem onThread_strapX (s : State) (t : Nat) (f : Thread → Thread) : (s.onThread t f).strapX = s.strapX :=
    (fun m => (rfl : ({ s with eng := m } : State).strapX = s.strapX)) (s.onThread t f).eng
@[simp] theorem onThread_strapY (s : State) (t : Nat) (f : Thread → Thread) : (s.onThread t f).strapY = s.strapY :=
    (fun m => (rfl : ({ s with eng := m } : State).strapY = s.strapY)) (s.onThread t f).eng
@[simp] theorem onThread_reach (s : State) (t : Nat) (f : Thread → Thread) : (s.onThread t f).reach = s.reach :=
    (fun m => (rfl : ({ s with eng := m } : State).reach = s.reach)) (s.onThread t f).eng
@[simp] theorem onThread_evq (s : State) (t : Nat) (f : Thread → Thread) : (s.onThread t f).evq = s.evq :=
    (fun m => (rfl : ({ s with eng := m } : State).evq = s.evq)) (s.onThread t f).eng
@[simp] theorem onThread_dram (s : State) (t : Nat) (f : Thread → Thread) : (s.onThread t f).dram = s.dram :=
    (fun m => (rfl : ({ s with eng := m } : State).dram = s.dram)) (s.onThread t f).eng
@[simp] theorem onThread_caches (s : State) (t : Nat) (f : Thread → Thread) : (s.onThread t f).caches = s.caches :=
    (fun m => (rfl : ({ s with eng := m } : State).caches = s.caches)) (s.onThread t f).eng
@[simp] theorem onThread_bufs (s : State) (t : Nat) (f : Thread → Thread) : (s.onThread t f).bufs = s.bufs :=
    (fun m => (rfl : ({ s with eng := m } : State).bufs = s.bufs)) (s.onThread t f).eng
@[simp] theorem onThread_twin (s : State) (t : Nat) (f : Thread → Thread) : (s.onThread t f).twin = s.twin :=
    (fun m => (rfl : ({ s with eng := m } : State).twin = s.twin)) (s.onThread t f).eng
@[simp] theorem onThread_parts (s : State) (t : Nat) (f : Thread → Thread) : (s.onThread t f).parts = s.parts :=
    (fun m => (rfl : ({ s with eng := m } : State).parts = s.parts)) (s.onThread t f).eng
@[simp] theorem onThread_nextPart (s : State) (t : Nat) (f : Thread → Thread) : (s.onThread t f).nextPart = s.nextPart :=
    (fun m => (rfl : ({ s with eng := m } : State).nextPart = s.nextPart)) (s.onThread t f).eng
@[simp] theorem onThread_logs (s : State) (t : Nat) (f : Thread → Thread) : (s.onThread t f).logs = s.logs :=
    (fun m => (rfl : ({ s with eng := m } : State).logs = s.logs)) (s.onThread t f).eng
@[simp] theorem onThread_queues (s : State) (t : Nat) (f : Thread → Thread) : (s.onThread t f).queues = s.queues :=
    (fun m => (rfl : ({ s with eng := m } : State).queues = s.queues)) (s.onThread t f).eng
@[simp] theorem onThread_rates (s : State) (t : Nat) (f : Thread → Thread) : (s.onThread t f).rates = s.rates :=
    (fun m => (rfl : ({ s with eng := m } : State).rates = s.rates)) (s.onThread t f).eng
@[simp] theorem onThread_icmp (s : State) (t : Nat) (f : Thread → Thread) : (s.onThread t f).icmp = s.icmp :=
    (fun m => (rfl : ({ s with eng := m } : State).icmp = s.icmp)) (s.onThread t f).eng
@[simp] theorem onThread_tp (s : State) (t : Nat) (f : Thread → Thread) : (s.onThread t f).tp = s.tp :=
    (fun m => (rfl : ({ s with eng := m } : State).tp = s.tp)) (s.onThread t f).eng
@[simp] theorem onThread_spates (s : State) (t : Nat) (f : Thread → Thread) : (s.onThread t f).spates = s.spates :=
    (fun m => (rfl : ({ s with eng := m } : State).spates = s.spates)) (s.onThread t f).eng
@[simp] theorem onThread_fiddles (s : State) (t : Nat) (f : Thread → Thread) : (s.onThread t f).fiddles = s.fiddles :=
    (fun m => (rfl : ({ s with eng := m } : State).fiddles = s.fiddles)) (s.onThread t f).eng
@[simp] theorem onThread_spent (s : State) (t : Nat) (f : Thread → Thread) : (s.onThread t f).spent = s.spent :=
    (fun m => (rfl : ({ s with eng := m } : State).spent = s.spent)) (s.onThread t f).eng
@[simp] theorem onThread_eng (s : State) (t : Nat) (f : Thread → Thread) : (s.onThread t f).eng = { s.eng with threads := s.eng.threads.modify t f } :=
    rfl
@[simp] theorem onThread_stage (s : State) (t : Nat) (f : Thread → Thread) : (s.onThread t f).stage = s.stage :=
    (fun m => (rfl : ({ s with eng := m } : State).stage = s.stage)) (s.onThread t f).eng
@[simp] theorem onThread_flash (s : State) (t : Nat) (f : Thread → Thread) : (s.onThread t f).flash = s.flash :=
    (fun m => (rfl : ({ s with eng := m } : State).flash = s.flash)) (s.onThread t f).eng
@[simp] theorem onThread_streams (s : State) (t : Nat) (f : Thread → Thread) : (s.onThread t f).streams = s.streams :=
    (fun m => (rfl : ({ s with eng := m } : State).streams = s.streams)) (s.onThread t f).eng
@[simp] theorem onThread_absent (s : State) (t : Nat) (f : Thread → Thread) : (s.onThread t f).absent = s.absent :=
    (fun m => (rfl : ({ s with eng := m } : State).absent = s.absent)) (s.onThread t f).eng
@[simp] theorem onThread_peers (s : State) (t : Nat) (f : Thread → Thread) : (s.onThread t f).peers = s.peers :=
    (fun m => (rfl : ({ s with eng := m } : State).peers = s.peers)) (s.onThread t f).eng
@[simp] theorem onThread_drains (s : State) (t : Nat) (f : Thread → Thread) : (s.onThread t f).drains = s.drains :=
    (fun m => (rfl : ({ s with eng := m } : State).drains = s.drains)) (s.onThread t f).eng
@[simp] theorem onThread_chans (s : State) (t : Nat) (f : Thread → Thread) : (s.onThread t f).chans = s.chans :=
    (fun m => (rfl : ({ s with eng := m } : State).chans = s.chans)) (s.onThread t f).eng
@[simp] theorem onThread_scrub (s : State) (t : Nat) (f : Thread → Thread) : (s.onThread t f).scrub = s.scrub :=
    (fun m => (rfl : ({ s with eng := m } : State).scrub = s.scrub)) (s.onThread t f).eng
@[simp] theorem onThread_tablesLost (s : State) (t : Nat) (f : Thread → Thread) : (s.onThread t f).tablesLost = s.tablesLost :=
    (fun m => (rfl : ({ s with eng := m } : State).tablesLost = s.tablesLost)) (s.onThread t f).eng
@[simp] theorem onThread_supply (s : State) (t : Nat) (f : Thread → Thread) : (s.onThread t f).supply = s.supply :=
    (fun m => (rfl : ({ s with eng := m } : State).supply = s.supply)) (s.onThread t f).eng
@[simp] theorem onThread_stk (s : State) (t : Nat) (f : Thread → Thread) : (s.onThread t f).stk = s.stk :=
    (fun m => (rfl : ({ s with eng := m } : State).stk = s.stk)) (s.onThread t f).eng
@[simp] theorem onThread_sec (s : State) (t : Nat) (f : Thread → Thread) : (s.onThread t f).sec = s.sec :=
    (fun m => (rfl : ({ s with eng := m } : State).sec = s.sec)) (s.onThread t f).eng
@[simp] theorem onThread_recd (s : State) (t : Nat) (f : Thread → Thread) : (s.onThread t f).recd = s.recd :=
    (fun m => (rfl : ({ s with eng := m } : State).recd = s.recd)) (s.onThread t f).eng
@[simp] theorem onThread_pins (s : State) (t : Nat) (f : Thread → Thread) : (s.onThread t f).pins = s.pins :=
    (fun m => (rfl : ({ s with eng := m } : State).pins = s.pins)) (s.onThread t f).eng
@[simp] theorem onThread_pending (s : State) (t : Nat) (f : Thread → Thread) : (s.onThread t f).pending = s.pending :=
    (fun m => (rfl : ({ s with eng := m } : State).pending = s.pending)) (s.onThread t f).eng

/-! A part changed. -/

@[simp] theorem onPart_ctl (s : State) (p : Nat) (f : Part → Part) : (s.onPart p f).ctl = s.ctl :=
    (fun m => (rfl : ({ s with parts := m } : State).ctl = s.ctl)) (s.onPart p f).parts
@[simp] theorem onPart_written (s : State) (p : Nat) (f : Part → Part) : (s.onPart p f).written = s.written :=
    (fun m => (rfl : ({ s with parts := m } : State).written = s.written)) (s.onPart p f).parts
@[simp] theorem onPart_out (s : State) (p : Nat) (f : Part → Part) : (s.onPart p f).out = s.out :=
    (fun m => (rfl : ({ s with parts := m } : State).out = s.out)) (s.onPart p f).parts
@[simp] theorem onPart_fv (s : State) (p : Nat) (f : Part → Part) : (s.onPart p f).fv = s.fv :=
    (fun m => (rfl : ({ s with parts := m } : State).fv = s.fv)) (s.onPart p f).parts
@[simp] theorem onPart_time (s : State) (p : Nat) (f : Part → Part) : (s.onPart p f).time = s.time :=
    (fun m => (rfl : ({ s with parts := m } : State).time = s.time)) (s.onPart p f).parts
@[simp] theorem onPart_strapX (s : State) (p : Nat) (f : Part → Part) : (s.onPart p f).strapX = s.strapX :=
    (fun m => (rfl : ({ s with parts := m } : State).strapX = s.strapX)) (s.onPart p f).parts
@[simp] theorem onPart_strapY (s : State) (p : Nat) (f : Part → Part) : (s.onPart p f).strapY = s.strapY :=
    (fun m => (rfl : ({ s with parts := m } : State).strapY = s.strapY)) (s.onPart p f).parts
@[simp] theorem onPart_reach (s : State) (p : Nat) (f : Part → Part) : (s.onPart p f).reach = s.reach :=
    (fun m => (rfl : ({ s with parts := m } : State).reach = s.reach)) (s.onPart p f).parts
@[simp] theorem onPart_evq (s : State) (p : Nat) (f : Part → Part) : (s.onPart p f).evq = s.evq :=
    (fun m => (rfl : ({ s with parts := m } : State).evq = s.evq)) (s.onPart p f).parts
@[simp] theorem onPart_dram (s : State) (p : Nat) (f : Part → Part) : (s.onPart p f).dram = s.dram :=
    (fun m => (rfl : ({ s with parts := m } : State).dram = s.dram)) (s.onPart p f).parts
@[simp] theorem onPart_caches (s : State) (p : Nat) (f : Part → Part) : (s.onPart p f).caches = s.caches :=
    (fun m => (rfl : ({ s with parts := m } : State).caches = s.caches)) (s.onPart p f).parts
@[simp] theorem onPart_bufs (s : State) (p : Nat) (f : Part → Part) : (s.onPart p f).bufs = s.bufs :=
    (fun m => (rfl : ({ s with parts := m } : State).bufs = s.bufs)) (s.onPart p f).parts
@[simp] theorem onPart_twin (s : State) (p : Nat) (f : Part → Part) : (s.onPart p f).twin = s.twin :=
    (fun m => (rfl : ({ s with parts := m } : State).twin = s.twin)) (s.onPart p f).parts
@[simp] theorem onPart_parts (s : State) (p : Nat) (f : Part → Part) : (s.onPart p f).parts = s.parts.modify p f := rfl
@[simp] theorem onPart_nextPart (s : State) (p : Nat) (f : Part → Part) : (s.onPart p f).nextPart = s.nextPart :=
    (fun m => (rfl : ({ s with parts := m } : State).nextPart = s.nextPart)) (s.onPart p f).parts
@[simp] theorem onPart_logs (s : State) (p : Nat) (f : Part → Part) : (s.onPart p f).logs = s.logs :=
    (fun m => (rfl : ({ s with parts := m } : State).logs = s.logs)) (s.onPart p f).parts
@[simp] theorem onPart_queues (s : State) (p : Nat) (f : Part → Part) : (s.onPart p f).queues = s.queues :=
    (fun m => (rfl : ({ s with parts := m } : State).queues = s.queues)) (s.onPart p f).parts
@[simp] theorem onPart_rates (s : State) (p : Nat) (f : Part → Part) : (s.onPart p f).rates = s.rates :=
    (fun m => (rfl : ({ s with parts := m } : State).rates = s.rates)) (s.onPart p f).parts
@[simp] theorem onPart_icmp (s : State) (p : Nat) (f : Part → Part) : (s.onPart p f).icmp = s.icmp :=
    (fun m => (rfl : ({ s with parts := m } : State).icmp = s.icmp)) (s.onPart p f).parts
@[simp] theorem onPart_tp (s : State) (p : Nat) (f : Part → Part) : (s.onPart p f).tp = s.tp :=
    (fun m => (rfl : ({ s with parts := m } : State).tp = s.tp)) (s.onPart p f).parts
@[simp] theorem onPart_spates (s : State) (p : Nat) (f : Part → Part) : (s.onPart p f).spates = s.spates :=
    (fun m => (rfl : ({ s with parts := m } : State).spates = s.spates)) (s.onPart p f).parts
@[simp] theorem onPart_fiddles (s : State) (p : Nat) (f : Part → Part) : (s.onPart p f).fiddles = s.fiddles :=
    (fun m => (rfl : ({ s with parts := m } : State).fiddles = s.fiddles)) (s.onPart p f).parts
@[simp] theorem onPart_spent (s : State) (p : Nat) (f : Part → Part) : (s.onPart p f).spent = s.spent :=
    (fun m => (rfl : ({ s with parts := m } : State).spent = s.spent)) (s.onPart p f).parts
@[simp] theorem onPart_eng (s : State) (p : Nat) (f : Part → Part) : (s.onPart p f).eng = s.eng :=
    (fun m => (rfl : ({ s with parts := m } : State).eng = s.eng)) (s.onPart p f).parts
@[simp] theorem onPart_stage (s : State) (p : Nat) (f : Part → Part) : (s.onPart p f).stage = s.stage :=
    (fun m => (rfl : ({ s with parts := m } : State).stage = s.stage)) (s.onPart p f).parts
@[simp] theorem onPart_flash (s : State) (p : Nat) (f : Part → Part) : (s.onPart p f).flash = s.flash :=
    (fun m => (rfl : ({ s with parts := m } : State).flash = s.flash)) (s.onPart p f).parts
@[simp] theorem onPart_streams (s : State) (p : Nat) (f : Part → Part) : (s.onPart p f).streams = s.streams :=
    (fun m => (rfl : ({ s with parts := m } : State).streams = s.streams)) (s.onPart p f).parts
@[simp] theorem onPart_absent (s : State) (p : Nat) (f : Part → Part) : (s.onPart p f).absent = s.absent :=
    (fun m => (rfl : ({ s with parts := m } : State).absent = s.absent)) (s.onPart p f).parts
@[simp] theorem onPart_peers (s : State) (p : Nat) (f : Part → Part) : (s.onPart p f).peers = s.peers :=
    (fun m => (rfl : ({ s with parts := m } : State).peers = s.peers)) (s.onPart p f).parts
@[simp] theorem onPart_drains (s : State) (p : Nat) (f : Part → Part) : (s.onPart p f).drains = s.drains :=
    (fun m => (rfl : ({ s with parts := m } : State).drains = s.drains)) (s.onPart p f).parts
@[simp] theorem onPart_chans (s : State) (p : Nat) (f : Part → Part) : (s.onPart p f).chans = s.chans :=
    (fun m => (rfl : ({ s with parts := m } : State).chans = s.chans)) (s.onPart p f).parts
@[simp] theorem onPart_scrub (s : State) (p : Nat) (f : Part → Part) : (s.onPart p f).scrub = s.scrub :=
    (fun m => (rfl : ({ s with parts := m } : State).scrub = s.scrub)) (s.onPart p f).parts
@[simp] theorem onPart_tablesLost (s : State) (p : Nat) (f : Part → Part) : (s.onPart p f).tablesLost = s.tablesLost :=
    (fun m => (rfl : ({ s with parts := m } : State).tablesLost = s.tablesLost)) (s.onPart p f).parts
@[simp] theorem onPart_supply (s : State) (p : Nat) (f : Part → Part) : (s.onPart p f).supply = s.supply :=
    (fun m => (rfl : ({ s with parts := m } : State).supply = s.supply)) (s.onPart p f).parts
@[simp] theorem onPart_stk (s : State) (p : Nat) (f : Part → Part) : (s.onPart p f).stk = s.stk :=
    (fun m => (rfl : ({ s with parts := m } : State).stk = s.stk)) (s.onPart p f).parts
@[simp] theorem onPart_sec (s : State) (p : Nat) (f : Part → Part) : (s.onPart p f).sec = s.sec :=
    (fun m => (rfl : ({ s with parts := m } : State).sec = s.sec)) (s.onPart p f).parts
@[simp] theorem onPart_recd (s : State) (p : Nat) (f : Part → Part) : (s.onPart p f).recd = s.recd :=
    (fun m => (rfl : ({ s with parts := m } : State).recd = s.recd)) (s.onPart p f).parts
@[simp] theorem onPart_pins (s : State) (p : Nat) (f : Part → Part) : (s.onPart p f).pins = s.pins :=
    (fun m => (rfl : ({ s with parts := m } : State).pins = s.pins)) (s.onPart p f).parts
@[simp] theorem onPart_pending (s : State) (p : Nat) (f : Part → Part) : (s.onPart p f).pending = s.pending :=
    (fun m => (rfl : ({ s with parts := m } : State).pending = s.pending)) (s.onPart p f).parts

/-! A log slot's state replaced. -/

@[simp] theorem setLog_ctl (s : State) (j : Nat) (l : LogSt) : (s.setLog j l).ctl = s.ctl :=
    (fun m => (rfl : ({ s with logs := m } : State).ctl = s.ctl)) (s.setLog j l).logs
@[simp] theorem setLog_written (s : State) (j : Nat) (l : LogSt) : (s.setLog j l).written = s.written :=
    (fun m => (rfl : ({ s with logs := m } : State).written = s.written)) (s.setLog j l).logs
@[simp] theorem setLog_out (s : State) (j : Nat) (l : LogSt) : (s.setLog j l).out = s.out :=
    (fun m => (rfl : ({ s with logs := m } : State).out = s.out)) (s.setLog j l).logs
@[simp] theorem setLog_fv (s : State) (j : Nat) (l : LogSt) : (s.setLog j l).fv = s.fv :=
    (fun m => (rfl : ({ s with logs := m } : State).fv = s.fv)) (s.setLog j l).logs
@[simp] theorem setLog_time (s : State) (j : Nat) (l : LogSt) : (s.setLog j l).time = s.time :=
    (fun m => (rfl : ({ s with logs := m } : State).time = s.time)) (s.setLog j l).logs
@[simp] theorem setLog_strapX (s : State) (j : Nat) (l : LogSt) : (s.setLog j l).strapX = s.strapX :=
    (fun m => (rfl : ({ s with logs := m } : State).strapX = s.strapX)) (s.setLog j l).logs
@[simp] theorem setLog_strapY (s : State) (j : Nat) (l : LogSt) : (s.setLog j l).strapY = s.strapY :=
    (fun m => (rfl : ({ s with logs := m } : State).strapY = s.strapY)) (s.setLog j l).logs
@[simp] theorem setLog_reach (s : State) (j : Nat) (l : LogSt) : (s.setLog j l).reach = s.reach :=
    (fun m => (rfl : ({ s with logs := m } : State).reach = s.reach)) (s.setLog j l).logs
@[simp] theorem setLog_evq (s : State) (j : Nat) (l : LogSt) : (s.setLog j l).evq = s.evq :=
    (fun m => (rfl : ({ s with logs := m } : State).evq = s.evq)) (s.setLog j l).logs
@[simp] theorem setLog_dram (s : State) (j : Nat) (l : LogSt) : (s.setLog j l).dram = s.dram :=
    (fun m => (rfl : ({ s with logs := m } : State).dram = s.dram)) (s.setLog j l).logs
@[simp] theorem setLog_caches (s : State) (j : Nat) (l : LogSt) : (s.setLog j l).caches = s.caches :=
    (fun m => (rfl : ({ s with logs := m } : State).caches = s.caches)) (s.setLog j l).logs
@[simp] theorem setLog_bufs (s : State) (j : Nat) (l : LogSt) : (s.setLog j l).bufs = s.bufs :=
    (fun m => (rfl : ({ s with logs := m } : State).bufs = s.bufs)) (s.setLog j l).logs
@[simp] theorem setLog_twin (s : State) (j : Nat) (l : LogSt) : (s.setLog j l).twin = s.twin :=
    (fun m => (rfl : ({ s with logs := m } : State).twin = s.twin)) (s.setLog j l).logs
@[simp] theorem setLog_parts (s : State) (j : Nat) (l : LogSt) : (s.setLog j l).parts = s.parts :=
    (fun m => (rfl : ({ s with logs := m } : State).parts = s.parts)) (s.setLog j l).logs
@[simp] theorem setLog_nextPart (s : State) (j : Nat) (l : LogSt) : (s.setLog j l).nextPart = s.nextPart :=
    (fun m => (rfl : ({ s with logs := m } : State).nextPart = s.nextPart)) (s.setLog j l).logs
@[simp] theorem setLog_logs (s : State) (j : Nat) (l : LogSt) : (s.setLog j l).logs = s.logs.put j l := rfl
@[simp] theorem setLog_queues (s : State) (j : Nat) (l : LogSt) : (s.setLog j l).queues = s.queues :=
    (fun m => (rfl : ({ s with logs := m } : State).queues = s.queues)) (s.setLog j l).logs
@[simp] theorem setLog_rates (s : State) (j : Nat) (l : LogSt) : (s.setLog j l).rates = s.rates :=
    (fun m => (rfl : ({ s with logs := m } : State).rates = s.rates)) (s.setLog j l).logs
@[simp] theorem setLog_icmp (s : State) (j : Nat) (l : LogSt) : (s.setLog j l).icmp = s.icmp :=
    (fun m => (rfl : ({ s with logs := m } : State).icmp = s.icmp)) (s.setLog j l).logs
@[simp] theorem setLog_tp (s : State) (j : Nat) (l : LogSt) : (s.setLog j l).tp = s.tp :=
    (fun m => (rfl : ({ s with logs := m } : State).tp = s.tp)) (s.setLog j l).logs
@[simp] theorem setLog_spates (s : State) (j : Nat) (l : LogSt) : (s.setLog j l).spates = s.spates :=
    (fun m => (rfl : ({ s with logs := m } : State).spates = s.spates)) (s.setLog j l).logs
@[simp] theorem setLog_fiddles (s : State) (j : Nat) (l : LogSt) : (s.setLog j l).fiddles = s.fiddles :=
    (fun m => (rfl : ({ s with logs := m } : State).fiddles = s.fiddles)) (s.setLog j l).logs
@[simp] theorem setLog_spent (s : State) (j : Nat) (l : LogSt) : (s.setLog j l).spent = s.spent :=
    (fun m => (rfl : ({ s with logs := m } : State).spent = s.spent)) (s.setLog j l).logs
@[simp] theorem setLog_eng (s : State) (j : Nat) (l : LogSt) : (s.setLog j l).eng = s.eng :=
    (fun m => (rfl : ({ s with logs := m } : State).eng = s.eng)) (s.setLog j l).logs
@[simp] theorem setLog_stage (s : State) (j : Nat) (l : LogSt) : (s.setLog j l).stage = s.stage :=
    (fun m => (rfl : ({ s with logs := m } : State).stage = s.stage)) (s.setLog j l).logs
@[simp] theorem setLog_flash (s : State) (j : Nat) (l : LogSt) : (s.setLog j l).flash = s.flash :=
    (fun m => (rfl : ({ s with logs := m } : State).flash = s.flash)) (s.setLog j l).logs
@[simp] theorem setLog_streams (s : State) (j : Nat) (l : LogSt) : (s.setLog j l).streams = s.streams :=
    (fun m => (rfl : ({ s with logs := m } : State).streams = s.streams)) (s.setLog j l).logs
@[simp] theorem setLog_absent (s : State) (j : Nat) (l : LogSt) : (s.setLog j l).absent = s.absent :=
    (fun m => (rfl : ({ s with logs := m } : State).absent = s.absent)) (s.setLog j l).logs
@[simp] theorem setLog_peers (s : State) (j : Nat) (l : LogSt) : (s.setLog j l).peers = s.peers :=
    (fun m => (rfl : ({ s with logs := m } : State).peers = s.peers)) (s.setLog j l).logs
@[simp] theorem setLog_drains (s : State) (j : Nat) (l : LogSt) : (s.setLog j l).drains = s.drains :=
    (fun m => (rfl : ({ s with logs := m } : State).drains = s.drains)) (s.setLog j l).logs
@[simp] theorem setLog_chans (s : State) (j : Nat) (l : LogSt) : (s.setLog j l).chans = s.chans :=
    (fun m => (rfl : ({ s with logs := m } : State).chans = s.chans)) (s.setLog j l).logs
@[simp] theorem setLog_scrub (s : State) (j : Nat) (l : LogSt) : (s.setLog j l).scrub = s.scrub :=
    (fun m => (rfl : ({ s with logs := m } : State).scrub = s.scrub)) (s.setLog j l).logs
@[simp] theorem setLog_tablesLost (s : State) (j : Nat) (l : LogSt) : (s.setLog j l).tablesLost = s.tablesLost :=
    (fun m => (rfl : ({ s with logs := m } : State).tablesLost = s.tablesLost)) (s.setLog j l).logs
@[simp] theorem setLog_supply (s : State) (j : Nat) (l : LogSt) : (s.setLog j l).supply = s.supply :=
    (fun m => (rfl : ({ s with logs := m } : State).supply = s.supply)) (s.setLog j l).logs
@[simp] theorem setLog_stk (s : State) (j : Nat) (l : LogSt) : (s.setLog j l).stk = s.stk :=
    (fun m => (rfl : ({ s with logs := m } : State).stk = s.stk)) (s.setLog j l).logs
@[simp] theorem setLog_sec (s : State) (j : Nat) (l : LogSt) : (s.setLog j l).sec = s.sec :=
    (fun m => (rfl : ({ s with logs := m } : State).sec = s.sec)) (s.setLog j l).logs
@[simp] theorem setLog_recd (s : State) (j : Nat) (l : LogSt) : (s.setLog j l).recd = s.recd :=
    (fun m => (rfl : ({ s with logs := m } : State).recd = s.recd)) (s.setLog j l).logs
@[simp] theorem setLog_pins (s : State) (j : Nat) (l : LogSt) : (s.setLog j l).pins = s.pins :=
    (fun m => (rfl : ({ s with logs := m } : State).pins = s.pins)) (s.setLog j l).logs
@[simp] theorem setLog_pending (s : State) (j : Nat) (l : LogSt) : (s.setLog j l).pending = s.pending :=
    (fun m => (rfl : ({ s with logs := m } : State).pending = s.pending)) (s.setLog j l).logs

/-! A queue replaced. -/

@[simp] theorem setQueue_ctl (s : State) (q : Nat) (x : Queue) : (s.setQueue q x).ctl = s.ctl :=
    (fun m => (rfl : ({ s with queues := m } : State).ctl = s.ctl)) (s.setQueue q x).queues
@[simp] theorem setQueue_written (s : State) (q : Nat) (x : Queue) : (s.setQueue q x).written = s.written :=
    (fun m => (rfl : ({ s with queues := m } : State).written = s.written)) (s.setQueue q x).queues
@[simp] theorem setQueue_out (s : State) (q : Nat) (x : Queue) : (s.setQueue q x).out = s.out :=
    (fun m => (rfl : ({ s with queues := m } : State).out = s.out)) (s.setQueue q x).queues
@[simp] theorem setQueue_fv (s : State) (q : Nat) (x : Queue) : (s.setQueue q x).fv = s.fv :=
    (fun m => (rfl : ({ s with queues := m } : State).fv = s.fv)) (s.setQueue q x).queues
@[simp] theorem setQueue_time (s : State) (q : Nat) (x : Queue) : (s.setQueue q x).time = s.time :=
    (fun m => (rfl : ({ s with queues := m } : State).time = s.time)) (s.setQueue q x).queues
@[simp] theorem setQueue_strapX (s : State) (q : Nat) (x : Queue) : (s.setQueue q x).strapX = s.strapX :=
    (fun m => (rfl : ({ s with queues := m } : State).strapX = s.strapX)) (s.setQueue q x).queues
@[simp] theorem setQueue_strapY (s : State) (q : Nat) (x : Queue) : (s.setQueue q x).strapY = s.strapY :=
    (fun m => (rfl : ({ s with queues := m } : State).strapY = s.strapY)) (s.setQueue q x).queues
@[simp] theorem setQueue_reach (s : State) (q : Nat) (x : Queue) : (s.setQueue q x).reach = s.reach :=
    (fun m => (rfl : ({ s with queues := m } : State).reach = s.reach)) (s.setQueue q x).queues
@[simp] theorem setQueue_evq (s : State) (q : Nat) (x : Queue) : (s.setQueue q x).evq = s.evq :=
    (fun m => (rfl : ({ s with queues := m } : State).evq = s.evq)) (s.setQueue q x).queues
@[simp] theorem setQueue_dram (s : State) (q : Nat) (x : Queue) : (s.setQueue q x).dram = s.dram :=
    (fun m => (rfl : ({ s with queues := m } : State).dram = s.dram)) (s.setQueue q x).queues
@[simp] theorem setQueue_caches (s : State) (q : Nat) (x : Queue) : (s.setQueue q x).caches = s.caches :=
    (fun m => (rfl : ({ s with queues := m } : State).caches = s.caches)) (s.setQueue q x).queues
@[simp] theorem setQueue_bufs (s : State) (q : Nat) (x : Queue) : (s.setQueue q x).bufs = s.bufs :=
    (fun m => (rfl : ({ s with queues := m } : State).bufs = s.bufs)) (s.setQueue q x).queues
@[simp] theorem setQueue_twin (s : State) (q : Nat) (x : Queue) : (s.setQueue q x).twin = s.twin :=
    (fun m => (rfl : ({ s with queues := m } : State).twin = s.twin)) (s.setQueue q x).queues
@[simp] theorem setQueue_parts (s : State) (q : Nat) (x : Queue) : (s.setQueue q x).parts = s.parts :=
    (fun m => (rfl : ({ s with queues := m } : State).parts = s.parts)) (s.setQueue q x).queues
@[simp] theorem setQueue_nextPart (s : State) (q : Nat) (x : Queue) : (s.setQueue q x).nextPart = s.nextPart :=
    (fun m => (rfl : ({ s with queues := m } : State).nextPart = s.nextPart)) (s.setQueue q x).queues
@[simp] theorem setQueue_logs (s : State) (q : Nat) (x : Queue) : (s.setQueue q x).logs = s.logs :=
    (fun m => (rfl : ({ s with queues := m } : State).logs = s.logs)) (s.setQueue q x).queues
@[simp] theorem setQueue_queues (s : State) (q : Nat) (x : Queue) : (s.setQueue q x).queues = s.queues.put q x := rfl
@[simp] theorem setQueue_rates (s : State) (q : Nat) (x : Queue) : (s.setQueue q x).rates = s.rates :=
    (fun m => (rfl : ({ s with queues := m } : State).rates = s.rates)) (s.setQueue q x).queues
@[simp] theorem setQueue_icmp (s : State) (q : Nat) (x : Queue) : (s.setQueue q x).icmp = s.icmp :=
    (fun m => (rfl : ({ s with queues := m } : State).icmp = s.icmp)) (s.setQueue q x).queues
@[simp] theorem setQueue_tp (s : State) (q : Nat) (x : Queue) : (s.setQueue q x).tp = s.tp :=
    (fun m => (rfl : ({ s with queues := m } : State).tp = s.tp)) (s.setQueue q x).queues
@[simp] theorem setQueue_spates (s : State) (q : Nat) (x : Queue) : (s.setQueue q x).spates = s.spates :=
    (fun m => (rfl : ({ s with queues := m } : State).spates = s.spates)) (s.setQueue q x).queues
@[simp] theorem setQueue_fiddles (s : State) (q : Nat) (x : Queue) : (s.setQueue q x).fiddles = s.fiddles :=
    (fun m => (rfl : ({ s with queues := m } : State).fiddles = s.fiddles)) (s.setQueue q x).queues
@[simp] theorem setQueue_spent (s : State) (q : Nat) (x : Queue) : (s.setQueue q x).spent = s.spent :=
    (fun m => (rfl : ({ s with queues := m } : State).spent = s.spent)) (s.setQueue q x).queues
@[simp] theorem setQueue_eng (s : State) (q : Nat) (x : Queue) : (s.setQueue q x).eng = s.eng :=
    (fun m => (rfl : ({ s with queues := m } : State).eng = s.eng)) (s.setQueue q x).queues
@[simp] theorem setQueue_stage (s : State) (q : Nat) (x : Queue) : (s.setQueue q x).stage = s.stage :=
    (fun m => (rfl : ({ s with queues := m } : State).stage = s.stage)) (s.setQueue q x).queues
@[simp] theorem setQueue_flash (s : State) (q : Nat) (x : Queue) : (s.setQueue q x).flash = s.flash :=
    (fun m => (rfl : ({ s with queues := m } : State).flash = s.flash)) (s.setQueue q x).queues
@[simp] theorem setQueue_streams (s : State) (q : Nat) (x : Queue) : (s.setQueue q x).streams = s.streams :=
    (fun m => (rfl : ({ s with queues := m } : State).streams = s.streams)) (s.setQueue q x).queues
@[simp] theorem setQueue_absent (s : State) (q : Nat) (x : Queue) : (s.setQueue q x).absent = s.absent :=
    (fun m => (rfl : ({ s with queues := m } : State).absent = s.absent)) (s.setQueue q x).queues
@[simp] theorem setQueue_peers (s : State) (q : Nat) (x : Queue) : (s.setQueue q x).peers = s.peers :=
    (fun m => (rfl : ({ s with queues := m } : State).peers = s.peers)) (s.setQueue q x).queues
@[simp] theorem setQueue_drains (s : State) (q : Nat) (x : Queue) : (s.setQueue q x).drains = s.drains :=
    (fun m => (rfl : ({ s with queues := m } : State).drains = s.drains)) (s.setQueue q x).queues
@[simp] theorem setQueue_chans (s : State) (q : Nat) (x : Queue) : (s.setQueue q x).chans = s.chans :=
    (fun m => (rfl : ({ s with queues := m } : State).chans = s.chans)) (s.setQueue q x).queues
@[simp] theorem setQueue_scrub (s : State) (q : Nat) (x : Queue) : (s.setQueue q x).scrub = s.scrub :=
    (fun m => (rfl : ({ s with queues := m } : State).scrub = s.scrub)) (s.setQueue q x).queues
@[simp] theorem setQueue_tablesLost (s : State) (q : Nat) (x : Queue) : (s.setQueue q x).tablesLost = s.tablesLost :=
    (fun m => (rfl : ({ s with queues := m } : State).tablesLost = s.tablesLost)) (s.setQueue q x).queues
@[simp] theorem setQueue_supply (s : State) (q : Nat) (x : Queue) : (s.setQueue q x).supply = s.supply :=
    (fun m => (rfl : ({ s with queues := m } : State).supply = s.supply)) (s.setQueue q x).queues
@[simp] theorem setQueue_stk (s : State) (q : Nat) (x : Queue) : (s.setQueue q x).stk = s.stk :=
    (fun m => (rfl : ({ s with queues := m } : State).stk = s.stk)) (s.setQueue q x).queues
@[simp] theorem setQueue_sec (s : State) (q : Nat) (x : Queue) : (s.setQueue q x).sec = s.sec :=
    (fun m => (rfl : ({ s with queues := m } : State).sec = s.sec)) (s.setQueue q x).queues
@[simp] theorem setQueue_recd (s : State) (q : Nat) (x : Queue) : (s.setQueue q x).recd = s.recd :=
    (fun m => (rfl : ({ s with queues := m } : State).recd = s.recd)) (s.setQueue q x).queues
@[simp] theorem setQueue_pins (s : State) (q : Nat) (x : Queue) : (s.setQueue q x).pins = s.pins :=
    (fun m => (rfl : ({ s with queues := m } : State).pins = s.pins)) (s.setQueue q x).queues
@[simp] theorem setQueue_pending (s : State) (q : Nat) (x : Queue) : (s.setQueue q x).pending = s.pending :=
    (fun m => (rfl : ({ s with queues := m } : State).pending = s.pending)) (s.setQueue q x).queues

/-! A queue changed. -/

@[simp] theorem onQueue_ctl (s : State) (q : Nat) (f : Queue → Queue) : (s.onQueue q f).ctl = s.ctl :=
    (fun m => (rfl : ({ s with queues := m } : State).ctl = s.ctl)) (s.onQueue q f).queues
@[simp] theorem onQueue_written (s : State) (q : Nat) (f : Queue → Queue) : (s.onQueue q f).written = s.written :=
    (fun m => (rfl : ({ s with queues := m } : State).written = s.written)) (s.onQueue q f).queues
@[simp] theorem onQueue_out (s : State) (q : Nat) (f : Queue → Queue) : (s.onQueue q f).out = s.out :=
    (fun m => (rfl : ({ s with queues := m } : State).out = s.out)) (s.onQueue q f).queues
@[simp] theorem onQueue_fv (s : State) (q : Nat) (f : Queue → Queue) : (s.onQueue q f).fv = s.fv :=
    (fun m => (rfl : ({ s with queues := m } : State).fv = s.fv)) (s.onQueue q f).queues
@[simp] theorem onQueue_time (s : State) (q : Nat) (f : Queue → Queue) : (s.onQueue q f).time = s.time :=
    (fun m => (rfl : ({ s with queues := m } : State).time = s.time)) (s.onQueue q f).queues
@[simp] theorem onQueue_strapX (s : State) (q : Nat) (f : Queue → Queue) : (s.onQueue q f).strapX = s.strapX :=
    (fun m => (rfl : ({ s with queues := m } : State).strapX = s.strapX)) (s.onQueue q f).queues
@[simp] theorem onQueue_strapY (s : State) (q : Nat) (f : Queue → Queue) : (s.onQueue q f).strapY = s.strapY :=
    (fun m => (rfl : ({ s with queues := m } : State).strapY = s.strapY)) (s.onQueue q f).queues
@[simp] theorem onQueue_reach (s : State) (q : Nat) (f : Queue → Queue) : (s.onQueue q f).reach = s.reach :=
    (fun m => (rfl : ({ s with queues := m } : State).reach = s.reach)) (s.onQueue q f).queues
@[simp] theorem onQueue_evq (s : State) (q : Nat) (f : Queue → Queue) : (s.onQueue q f).evq = s.evq :=
    (fun m => (rfl : ({ s with queues := m } : State).evq = s.evq)) (s.onQueue q f).queues
@[simp] theorem onQueue_dram (s : State) (q : Nat) (f : Queue → Queue) : (s.onQueue q f).dram = s.dram :=
    (fun m => (rfl : ({ s with queues := m } : State).dram = s.dram)) (s.onQueue q f).queues
@[simp] theorem onQueue_caches (s : State) (q : Nat) (f : Queue → Queue) : (s.onQueue q f).caches = s.caches :=
    (fun m => (rfl : ({ s with queues := m } : State).caches = s.caches)) (s.onQueue q f).queues
@[simp] theorem onQueue_bufs (s : State) (q : Nat) (f : Queue → Queue) : (s.onQueue q f).bufs = s.bufs :=
    (fun m => (rfl : ({ s with queues := m } : State).bufs = s.bufs)) (s.onQueue q f).queues
@[simp] theorem onQueue_twin (s : State) (q : Nat) (f : Queue → Queue) : (s.onQueue q f).twin = s.twin :=
    (fun m => (rfl : ({ s with queues := m } : State).twin = s.twin)) (s.onQueue q f).queues
@[simp] theorem onQueue_parts (s : State) (q : Nat) (f : Queue → Queue) : (s.onQueue q f).parts = s.parts :=
    (fun m => (rfl : ({ s with queues := m } : State).parts = s.parts)) (s.onQueue q f).queues
@[simp] theorem onQueue_nextPart (s : State) (q : Nat) (f : Queue → Queue) : (s.onQueue q f).nextPart = s.nextPart :=
    (fun m => (rfl : ({ s with queues := m } : State).nextPart = s.nextPart)) (s.onQueue q f).queues
@[simp] theorem onQueue_logs (s : State) (q : Nat) (f : Queue → Queue) : (s.onQueue q f).logs = s.logs :=
    (fun m => (rfl : ({ s with queues := m } : State).logs = s.logs)) (s.onQueue q f).queues
@[simp] theorem onQueue_queues (s : State) (q : Nat) (f : Queue → Queue) : (s.onQueue q f).queues = s.queues.modify q f := rfl
@[simp] theorem onQueue_rates (s : State) (q : Nat) (f : Queue → Queue) : (s.onQueue q f).rates = s.rates :=
    (fun m => (rfl : ({ s with queues := m } : State).rates = s.rates)) (s.onQueue q f).queues
@[simp] theorem onQueue_icmp (s : State) (q : Nat) (f : Queue → Queue) : (s.onQueue q f).icmp = s.icmp :=
    (fun m => (rfl : ({ s with queues := m } : State).icmp = s.icmp)) (s.onQueue q f).queues
@[simp] theorem onQueue_tp (s : State) (q : Nat) (f : Queue → Queue) : (s.onQueue q f).tp = s.tp :=
    (fun m => (rfl : ({ s with queues := m } : State).tp = s.tp)) (s.onQueue q f).queues
@[simp] theorem onQueue_spates (s : State) (q : Nat) (f : Queue → Queue) : (s.onQueue q f).spates = s.spates :=
    (fun m => (rfl : ({ s with queues := m } : State).spates = s.spates)) (s.onQueue q f).queues
@[simp] theorem onQueue_fiddles (s : State) (q : Nat) (f : Queue → Queue) : (s.onQueue q f).fiddles = s.fiddles :=
    (fun m => (rfl : ({ s with queues := m } : State).fiddles = s.fiddles)) (s.onQueue q f).queues
@[simp] theorem onQueue_spent (s : State) (q : Nat) (f : Queue → Queue) : (s.onQueue q f).spent = s.spent :=
    (fun m => (rfl : ({ s with queues := m } : State).spent = s.spent)) (s.onQueue q f).queues
@[simp] theorem onQueue_eng (s : State) (q : Nat) (f : Queue → Queue) : (s.onQueue q f).eng = s.eng :=
    (fun m => (rfl : ({ s with queues := m } : State).eng = s.eng)) (s.onQueue q f).queues
@[simp] theorem onQueue_stage (s : State) (q : Nat) (f : Queue → Queue) : (s.onQueue q f).stage = s.stage :=
    (fun m => (rfl : ({ s with queues := m } : State).stage = s.stage)) (s.onQueue q f).queues
@[simp] theorem onQueue_flash (s : State) (q : Nat) (f : Queue → Queue) : (s.onQueue q f).flash = s.flash :=
    (fun m => (rfl : ({ s with queues := m } : State).flash = s.flash)) (s.onQueue q f).queues
@[simp] theorem onQueue_streams (s : State) (q : Nat) (f : Queue → Queue) : (s.onQueue q f).streams = s.streams :=
    (fun m => (rfl : ({ s with queues := m } : State).streams = s.streams)) (s.onQueue q f).queues
@[simp] theorem onQueue_absent (s : State) (q : Nat) (f : Queue → Queue) : (s.onQueue q f).absent = s.absent :=
    (fun m => (rfl : ({ s with queues := m } : State).absent = s.absent)) (s.onQueue q f).queues
@[simp] theorem onQueue_peers (s : State) (q : Nat) (f : Queue → Queue) : (s.onQueue q f).peers = s.peers :=
    (fun m => (rfl : ({ s with queues := m } : State).peers = s.peers)) (s.onQueue q f).queues
@[simp] theorem onQueue_drains (s : State) (q : Nat) (f : Queue → Queue) : (s.onQueue q f).drains = s.drains :=
    (fun m => (rfl : ({ s with queues := m } : State).drains = s.drains)) (s.onQueue q f).queues
@[simp] theorem onQueue_chans (s : State) (q : Nat) (f : Queue → Queue) : (s.onQueue q f).chans = s.chans :=
    (fun m => (rfl : ({ s with queues := m } : State).chans = s.chans)) (s.onQueue q f).queues
@[simp] theorem onQueue_scrub (s : State) (q : Nat) (f : Queue → Queue) : (s.onQueue q f).scrub = s.scrub :=
    (fun m => (rfl : ({ s with queues := m } : State).scrub = s.scrub)) (s.onQueue q f).queues
@[simp] theorem onQueue_tablesLost (s : State) (q : Nat) (f : Queue → Queue) : (s.onQueue q f).tablesLost = s.tablesLost :=
    (fun m => (rfl : ({ s with queues := m } : State).tablesLost = s.tablesLost)) (s.onQueue q f).queues
@[simp] theorem onQueue_supply (s : State) (q : Nat) (f : Queue → Queue) : (s.onQueue q f).supply = s.supply :=
    (fun m => (rfl : ({ s with queues := m } : State).supply = s.supply)) (s.onQueue q f).queues
@[simp] theorem onQueue_stk (s : State) (q : Nat) (f : Queue → Queue) : (s.onQueue q f).stk = s.stk :=
    (fun m => (rfl : ({ s with queues := m } : State).stk = s.stk)) (s.onQueue q f).queues
@[simp] theorem onQueue_sec (s : State) (q : Nat) (f : Queue → Queue) : (s.onQueue q f).sec = s.sec :=
    (fun m => (rfl : ({ s with queues := m } : State).sec = s.sec)) (s.onQueue q f).queues
@[simp] theorem onQueue_recd (s : State) (q : Nat) (f : Queue → Queue) : (s.onQueue q f).recd = s.recd :=
    (fun m => (rfl : ({ s with queues := m } : State).recd = s.recd)) (s.onQueue q f).queues
@[simp] theorem onQueue_pins (s : State) (q : Nat) (f : Queue → Queue) : (s.onQueue q f).pins = s.pins :=
    (fun m => (rfl : ({ s with queues := m } : State).pins = s.pins)) (s.onQueue q f).queues
@[simp] theorem onQueue_pending (s : State) (q : Nat) (f : Queue → Queue) : (s.onQueue q f).pending = s.pending :=
    (fun m => (rfl : ({ s with queues := m } : State).pending = s.pending)) (s.onQueue q f).queues

/-! A command of a queue changed. -/

@[simp] theorem onCmd_ctl (s : State) (q tag : Nat) (f : Cmd → Cmd) : (s.onCmd q tag f).ctl = s.ctl :=
    (fun m => (rfl : ({ s with queues := m } : State).ctl = s.ctl)) (s.onCmd q tag f).queues
@[simp] theorem onCmd_written (s : State) (q tag : Nat) (f : Cmd → Cmd) : (s.onCmd q tag f).written = s.written :=
    (fun m => (rfl : ({ s with queues := m } : State).written = s.written)) (s.onCmd q tag f).queues
@[simp] theorem onCmd_out (s : State) (q tag : Nat) (f : Cmd → Cmd) : (s.onCmd q tag f).out = s.out :=
    (fun m => (rfl : ({ s with queues := m } : State).out = s.out)) (s.onCmd q tag f).queues
@[simp] theorem onCmd_fv (s : State) (q tag : Nat) (f : Cmd → Cmd) : (s.onCmd q tag f).fv = s.fv :=
    (fun m => (rfl : ({ s with queues := m } : State).fv = s.fv)) (s.onCmd q tag f).queues
@[simp] theorem onCmd_time (s : State) (q tag : Nat) (f : Cmd → Cmd) : (s.onCmd q tag f).time = s.time :=
    (fun m => (rfl : ({ s with queues := m } : State).time = s.time)) (s.onCmd q tag f).queues
@[simp] theorem onCmd_strapX (s : State) (q tag : Nat) (f : Cmd → Cmd) : (s.onCmd q tag f).strapX = s.strapX :=
    (fun m => (rfl : ({ s with queues := m } : State).strapX = s.strapX)) (s.onCmd q tag f).queues
@[simp] theorem onCmd_strapY (s : State) (q tag : Nat) (f : Cmd → Cmd) : (s.onCmd q tag f).strapY = s.strapY :=
    (fun m => (rfl : ({ s with queues := m } : State).strapY = s.strapY)) (s.onCmd q tag f).queues
@[simp] theorem onCmd_reach (s : State) (q tag : Nat) (f : Cmd → Cmd) : (s.onCmd q tag f).reach = s.reach :=
    (fun m => (rfl : ({ s with queues := m } : State).reach = s.reach)) (s.onCmd q tag f).queues
@[simp] theorem onCmd_evq (s : State) (q tag : Nat) (f : Cmd → Cmd) : (s.onCmd q tag f).evq = s.evq :=
    (fun m => (rfl : ({ s with queues := m } : State).evq = s.evq)) (s.onCmd q tag f).queues
@[simp] theorem onCmd_dram (s : State) (q tag : Nat) (f : Cmd → Cmd) : (s.onCmd q tag f).dram = s.dram :=
    (fun m => (rfl : ({ s with queues := m } : State).dram = s.dram)) (s.onCmd q tag f).queues
@[simp] theorem onCmd_caches (s : State) (q tag : Nat) (f : Cmd → Cmd) : (s.onCmd q tag f).caches = s.caches :=
    (fun m => (rfl : ({ s with queues := m } : State).caches = s.caches)) (s.onCmd q tag f).queues
@[simp] theorem onCmd_bufs (s : State) (q tag : Nat) (f : Cmd → Cmd) : (s.onCmd q tag f).bufs = s.bufs :=
    (fun m => (rfl : ({ s with queues := m } : State).bufs = s.bufs)) (s.onCmd q tag f).queues
@[simp] theorem onCmd_twin (s : State) (q tag : Nat) (f : Cmd → Cmd) : (s.onCmd q tag f).twin = s.twin :=
    (fun m => (rfl : ({ s with queues := m } : State).twin = s.twin)) (s.onCmd q tag f).queues
@[simp] theorem onCmd_parts (s : State) (q tag : Nat) (f : Cmd → Cmd) : (s.onCmd q tag f).parts = s.parts :=
    (fun m => (rfl : ({ s with queues := m } : State).parts = s.parts)) (s.onCmd q tag f).queues
@[simp] theorem onCmd_nextPart (s : State) (q tag : Nat) (f : Cmd → Cmd) : (s.onCmd q tag f).nextPart = s.nextPart :=
    (fun m => (rfl : ({ s with queues := m } : State).nextPart = s.nextPart)) (s.onCmd q tag f).queues
@[simp] theorem onCmd_logs (s : State) (q tag : Nat) (f : Cmd → Cmd) : (s.onCmd q tag f).logs = s.logs :=
    (fun m => (rfl : ({ s with queues := m } : State).logs = s.logs)) (s.onCmd q tag f).queues
@[simp] theorem onCmd_queues (s : State) (q tag : Nat) (f : Cmd → Cmd) : (s.onCmd q tag f).queues = s.queues.modify q fun x => { x with cmds := x.cmds.map fun c => if c.tag = tag then f c else c } :=
    rfl
@[simp] theorem onCmd_rates (s : State) (q tag : Nat) (f : Cmd → Cmd) : (s.onCmd q tag f).rates = s.rates :=
    (fun m => (rfl : ({ s with queues := m } : State).rates = s.rates)) (s.onCmd q tag f).queues
@[simp] theorem onCmd_icmp (s : State) (q tag : Nat) (f : Cmd → Cmd) : (s.onCmd q tag f).icmp = s.icmp :=
    (fun m => (rfl : ({ s with queues := m } : State).icmp = s.icmp)) (s.onCmd q tag f).queues
@[simp] theorem onCmd_tp (s : State) (q tag : Nat) (f : Cmd → Cmd) : (s.onCmd q tag f).tp = s.tp :=
    (fun m => (rfl : ({ s with queues := m } : State).tp = s.tp)) (s.onCmd q tag f).queues
@[simp] theorem onCmd_spates (s : State) (q tag : Nat) (f : Cmd → Cmd) : (s.onCmd q tag f).spates = s.spates :=
    (fun m => (rfl : ({ s with queues := m } : State).spates = s.spates)) (s.onCmd q tag f).queues
@[simp] theorem onCmd_fiddles (s : State) (q tag : Nat) (f : Cmd → Cmd) : (s.onCmd q tag f).fiddles = s.fiddles :=
    (fun m => (rfl : ({ s with queues := m } : State).fiddles = s.fiddles)) (s.onCmd q tag f).queues
@[simp] theorem onCmd_spent (s : State) (q tag : Nat) (f : Cmd → Cmd) : (s.onCmd q tag f).spent = s.spent :=
    (fun m => (rfl : ({ s with queues := m } : State).spent = s.spent)) (s.onCmd q tag f).queues
@[simp] theorem onCmd_eng (s : State) (q tag : Nat) (f : Cmd → Cmd) : (s.onCmd q tag f).eng = s.eng :=
    (fun m => (rfl : ({ s with queues := m } : State).eng = s.eng)) (s.onCmd q tag f).queues
@[simp] theorem onCmd_stage (s : State) (q tag : Nat) (f : Cmd → Cmd) : (s.onCmd q tag f).stage = s.stage :=
    (fun m => (rfl : ({ s with queues := m } : State).stage = s.stage)) (s.onCmd q tag f).queues
@[simp] theorem onCmd_flash (s : State) (q tag : Nat) (f : Cmd → Cmd) : (s.onCmd q tag f).flash = s.flash :=
    (fun m => (rfl : ({ s with queues := m } : State).flash = s.flash)) (s.onCmd q tag f).queues
@[simp] theorem onCmd_streams (s : State) (q tag : Nat) (f : Cmd → Cmd) : (s.onCmd q tag f).streams = s.streams :=
    (fun m => (rfl : ({ s with queues := m } : State).streams = s.streams)) (s.onCmd q tag f).queues
@[simp] theorem onCmd_absent (s : State) (q tag : Nat) (f : Cmd → Cmd) : (s.onCmd q tag f).absent = s.absent :=
    (fun m => (rfl : ({ s with queues := m } : State).absent = s.absent)) (s.onCmd q tag f).queues
@[simp] theorem onCmd_peers (s : State) (q tag : Nat) (f : Cmd → Cmd) : (s.onCmd q tag f).peers = s.peers :=
    (fun m => (rfl : ({ s with queues := m } : State).peers = s.peers)) (s.onCmd q tag f).queues
@[simp] theorem onCmd_drains (s : State) (q tag : Nat) (f : Cmd → Cmd) : (s.onCmd q tag f).drains = s.drains :=
    (fun m => (rfl : ({ s with queues := m } : State).drains = s.drains)) (s.onCmd q tag f).queues
@[simp] theorem onCmd_chans (s : State) (q tag : Nat) (f : Cmd → Cmd) : (s.onCmd q tag f).chans = s.chans :=
    (fun m => (rfl : ({ s with queues := m } : State).chans = s.chans)) (s.onCmd q tag f).queues
@[simp] theorem onCmd_scrub (s : State) (q tag : Nat) (f : Cmd → Cmd) : (s.onCmd q tag f).scrub = s.scrub :=
    (fun m => (rfl : ({ s with queues := m } : State).scrub = s.scrub)) (s.onCmd q tag f).queues
@[simp] theorem onCmd_tablesLost (s : State) (q tag : Nat) (f : Cmd → Cmd) : (s.onCmd q tag f).tablesLost = s.tablesLost :=
    (fun m => (rfl : ({ s with queues := m } : State).tablesLost = s.tablesLost)) (s.onCmd q tag f).queues
@[simp] theorem onCmd_supply (s : State) (q tag : Nat) (f : Cmd → Cmd) : (s.onCmd q tag f).supply = s.supply :=
    (fun m => (rfl : ({ s with queues := m } : State).supply = s.supply)) (s.onCmd q tag f).queues
@[simp] theorem onCmd_stk (s : State) (q tag : Nat) (f : Cmd → Cmd) : (s.onCmd q tag f).stk = s.stk :=
    (fun m => (rfl : ({ s with queues := m } : State).stk = s.stk)) (s.onCmd q tag f).queues
@[simp] theorem onCmd_sec (s : State) (q tag : Nat) (f : Cmd → Cmd) : (s.onCmd q tag f).sec = s.sec :=
    (fun m => (rfl : ({ s with queues := m } : State).sec = s.sec)) (s.onCmd q tag f).queues
@[simp] theorem onCmd_recd (s : State) (q tag : Nat) (f : Cmd → Cmd) : (s.onCmd q tag f).recd = s.recd :=
    (fun m => (rfl : ({ s with queues := m } : State).recd = s.recd)) (s.onCmd q tag f).queues
@[simp] theorem onCmd_pins (s : State) (q tag : Nat) (f : Cmd → Cmd) : (s.onCmd q tag f).pins = s.pins :=
    (fun m => (rfl : ({ s with queues := m } : State).pins = s.pins)) (s.onCmd q tag f).queues
@[simp] theorem onCmd_pending (s : State) (q tag : Nat) (f : Cmd → Cmd) : (s.onCmd q tag f).pending = s.pending :=
    (fun m => (rfl : ({ s with queues := m } : State).pending = s.pending)) (s.onCmd q tag f).queues

/-! A message of a queue changed. -/

@[simp] theorem onMsg_ctl (s : State) (q msn : Nat) (f : OneSided → OneSided) : (s.onMsg q msn f).ctl = s.ctl :=
    (fun m => (rfl : ({ s with queues := m } : State).ctl = s.ctl)) (s.onMsg q msn f).queues
@[simp] theorem onMsg_written (s : State) (q msn : Nat) (f : OneSided → OneSided) : (s.onMsg q msn f).written = s.written :=
    (fun m => (rfl : ({ s with queues := m } : State).written = s.written)) (s.onMsg q msn f).queues
@[simp] theorem onMsg_out (s : State) (q msn : Nat) (f : OneSided → OneSided) : (s.onMsg q msn f).out = s.out :=
    (fun m => (rfl : ({ s with queues := m } : State).out = s.out)) (s.onMsg q msn f).queues
@[simp] theorem onMsg_fv (s : State) (q msn : Nat) (f : OneSided → OneSided) : (s.onMsg q msn f).fv = s.fv :=
    (fun m => (rfl : ({ s with queues := m } : State).fv = s.fv)) (s.onMsg q msn f).queues
@[simp] theorem onMsg_time (s : State) (q msn : Nat) (f : OneSided → OneSided) : (s.onMsg q msn f).time = s.time :=
    (fun m => (rfl : ({ s with queues := m } : State).time = s.time)) (s.onMsg q msn f).queues
@[simp] theorem onMsg_strapX (s : State) (q msn : Nat) (f : OneSided → OneSided) : (s.onMsg q msn f).strapX = s.strapX :=
    (fun m => (rfl : ({ s with queues := m } : State).strapX = s.strapX)) (s.onMsg q msn f).queues
@[simp] theorem onMsg_strapY (s : State) (q msn : Nat) (f : OneSided → OneSided) : (s.onMsg q msn f).strapY = s.strapY :=
    (fun m => (rfl : ({ s with queues := m } : State).strapY = s.strapY)) (s.onMsg q msn f).queues
@[simp] theorem onMsg_reach (s : State) (q msn : Nat) (f : OneSided → OneSided) : (s.onMsg q msn f).reach = s.reach :=
    (fun m => (rfl : ({ s with queues := m } : State).reach = s.reach)) (s.onMsg q msn f).queues
@[simp] theorem onMsg_evq (s : State) (q msn : Nat) (f : OneSided → OneSided) : (s.onMsg q msn f).evq = s.evq :=
    (fun m => (rfl : ({ s with queues := m } : State).evq = s.evq)) (s.onMsg q msn f).queues
@[simp] theorem onMsg_dram (s : State) (q msn : Nat) (f : OneSided → OneSided) : (s.onMsg q msn f).dram = s.dram :=
    (fun m => (rfl : ({ s with queues := m } : State).dram = s.dram)) (s.onMsg q msn f).queues
@[simp] theorem onMsg_caches (s : State) (q msn : Nat) (f : OneSided → OneSided) : (s.onMsg q msn f).caches = s.caches :=
    (fun m => (rfl : ({ s with queues := m } : State).caches = s.caches)) (s.onMsg q msn f).queues
@[simp] theorem onMsg_bufs (s : State) (q msn : Nat) (f : OneSided → OneSided) : (s.onMsg q msn f).bufs = s.bufs :=
    (fun m => (rfl : ({ s with queues := m } : State).bufs = s.bufs)) (s.onMsg q msn f).queues
@[simp] theorem onMsg_twin (s : State) (q msn : Nat) (f : OneSided → OneSided) : (s.onMsg q msn f).twin = s.twin :=
    (fun m => (rfl : ({ s with queues := m } : State).twin = s.twin)) (s.onMsg q msn f).queues
@[simp] theorem onMsg_parts (s : State) (q msn : Nat) (f : OneSided → OneSided) : (s.onMsg q msn f).parts = s.parts :=
    (fun m => (rfl : ({ s with queues := m } : State).parts = s.parts)) (s.onMsg q msn f).queues
@[simp] theorem onMsg_nextPart (s : State) (q msn : Nat) (f : OneSided → OneSided) : (s.onMsg q msn f).nextPart = s.nextPart :=
    (fun m => (rfl : ({ s with queues := m } : State).nextPart = s.nextPart)) (s.onMsg q msn f).queues
@[simp] theorem onMsg_logs (s : State) (q msn : Nat) (f : OneSided → OneSided) : (s.onMsg q msn f).logs = s.logs :=
    (fun m => (rfl : ({ s with queues := m } : State).logs = s.logs)) (s.onMsg q msn f).queues
@[simp] theorem onMsg_queues (s : State) (q msn : Nat) (f : OneSided → OneSided) : (s.onMsg q msn f).queues = s.queues.modify q fun x => { x with msgs := x.msgs.map fun m => if m.msn = msn then f m else m } :=
    rfl
@[simp] theorem onMsg_rates (s : State) (q msn : Nat) (f : OneSided → OneSided) : (s.onMsg q msn f).rates = s.rates :=
    (fun m => (rfl : ({ s with queues := m } : State).rates = s.rates)) (s.onMsg q msn f).queues
@[simp] theorem onMsg_icmp (s : State) (q msn : Nat) (f : OneSided → OneSided) : (s.onMsg q msn f).icmp = s.icmp :=
    (fun m => (rfl : ({ s with queues := m } : State).icmp = s.icmp)) (s.onMsg q msn f).queues
@[simp] theorem onMsg_tp (s : State) (q msn : Nat) (f : OneSided → OneSided) : (s.onMsg q msn f).tp = s.tp :=
    (fun m => (rfl : ({ s with queues := m } : State).tp = s.tp)) (s.onMsg q msn f).queues
@[simp] theorem onMsg_spates (s : State) (q msn : Nat) (f : OneSided → OneSided) : (s.onMsg q msn f).spates = s.spates :=
    (fun m => (rfl : ({ s with queues := m } : State).spates = s.spates)) (s.onMsg q msn f).queues
@[simp] theorem onMsg_fiddles (s : State) (q msn : Nat) (f : OneSided → OneSided) : (s.onMsg q msn f).fiddles = s.fiddles :=
    (fun m => (rfl : ({ s with queues := m } : State).fiddles = s.fiddles)) (s.onMsg q msn f).queues
@[simp] theorem onMsg_spent (s : State) (q msn : Nat) (f : OneSided → OneSided) : (s.onMsg q msn f).spent = s.spent :=
    (fun m => (rfl : ({ s with queues := m } : State).spent = s.spent)) (s.onMsg q msn f).queues
@[simp] theorem onMsg_eng (s : State) (q msn : Nat) (f : OneSided → OneSided) : (s.onMsg q msn f).eng = s.eng :=
    (fun m => (rfl : ({ s with queues := m } : State).eng = s.eng)) (s.onMsg q msn f).queues
@[simp] theorem onMsg_stage (s : State) (q msn : Nat) (f : OneSided → OneSided) : (s.onMsg q msn f).stage = s.stage :=
    (fun m => (rfl : ({ s with queues := m } : State).stage = s.stage)) (s.onMsg q msn f).queues
@[simp] theorem onMsg_flash (s : State) (q msn : Nat) (f : OneSided → OneSided) : (s.onMsg q msn f).flash = s.flash :=
    (fun m => (rfl : ({ s with queues := m } : State).flash = s.flash)) (s.onMsg q msn f).queues
@[simp] theorem onMsg_streams (s : State) (q msn : Nat) (f : OneSided → OneSided) : (s.onMsg q msn f).streams = s.streams :=
    (fun m => (rfl : ({ s with queues := m } : State).streams = s.streams)) (s.onMsg q msn f).queues
@[simp] theorem onMsg_absent (s : State) (q msn : Nat) (f : OneSided → OneSided) : (s.onMsg q msn f).absent = s.absent :=
    (fun m => (rfl : ({ s with queues := m } : State).absent = s.absent)) (s.onMsg q msn f).queues
@[simp] theorem onMsg_peers (s : State) (q msn : Nat) (f : OneSided → OneSided) : (s.onMsg q msn f).peers = s.peers :=
    (fun m => (rfl : ({ s with queues := m } : State).peers = s.peers)) (s.onMsg q msn f).queues
@[simp] theorem onMsg_drains (s : State) (q msn : Nat) (f : OneSided → OneSided) : (s.onMsg q msn f).drains = s.drains :=
    (fun m => (rfl : ({ s with queues := m } : State).drains = s.drains)) (s.onMsg q msn f).queues
@[simp] theorem onMsg_chans (s : State) (q msn : Nat) (f : OneSided → OneSided) : (s.onMsg q msn f).chans = s.chans :=
    (fun m => (rfl : ({ s with queues := m } : State).chans = s.chans)) (s.onMsg q msn f).queues
@[simp] theorem onMsg_scrub (s : State) (q msn : Nat) (f : OneSided → OneSided) : (s.onMsg q msn f).scrub = s.scrub :=
    (fun m => (rfl : ({ s with queues := m } : State).scrub = s.scrub)) (s.onMsg q msn f).queues
@[simp] theorem onMsg_tablesLost (s : State) (q msn : Nat) (f : OneSided → OneSided) : (s.onMsg q msn f).tablesLost = s.tablesLost :=
    (fun m => (rfl : ({ s with queues := m } : State).tablesLost = s.tablesLost)) (s.onMsg q msn f).queues
@[simp] theorem onMsg_supply (s : State) (q msn : Nat) (f : OneSided → OneSided) : (s.onMsg q msn f).supply = s.supply :=
    (fun m => (rfl : ({ s with queues := m } : State).supply = s.supply)) (s.onMsg q msn f).queues
@[simp] theorem onMsg_stk (s : State) (q msn : Nat) (f : OneSided → OneSided) : (s.onMsg q msn f).stk = s.stk :=
    (fun m => (rfl : ({ s with queues := m } : State).stk = s.stk)) (s.onMsg q msn f).queues
@[simp] theorem onMsg_sec (s : State) (q msn : Nat) (f : OneSided → OneSided) : (s.onMsg q msn f).sec = s.sec :=
    (fun m => (rfl : ({ s with queues := m } : State).sec = s.sec)) (s.onMsg q msn f).queues
@[simp] theorem onMsg_recd (s : State) (q msn : Nat) (f : OneSided → OneSided) : (s.onMsg q msn f).recd = s.recd :=
    (fun m => (rfl : ({ s with queues := m } : State).recd = s.recd)) (s.onMsg q msn f).queues
@[simp] theorem onMsg_pins (s : State) (q msn : Nat) (f : OneSided → OneSided) : (s.onMsg q msn f).pins = s.pins :=
    (fun m => (rfl : ({ s with queues := m } : State).pins = s.pins)) (s.onMsg q msn f).queues
@[simp] theorem onMsg_pending (s : State) (q msn : Nat) (f : OneSided → OneSided) : (s.onMsg q msn f).pending = s.pending :=
    (fun m => (rfl : ({ s with queues := m } : State).pending = s.pending)) (s.onMsg q msn f).queues

/-! A frame discarded and counted. -/

@[simp] theorem discard_ctl (s : State) : (s.discard).ctl = s.ctl :=
    (fun m => (rfl : ({ s with tp := m } : State).ctl = s.ctl)) (s.discard).tp
@[simp] theorem discard_written (s : State) : (s.discard).written = s.written :=
    (fun m => (rfl : ({ s with tp := m } : State).written = s.written)) (s.discard).tp
@[simp] theorem discard_out (s : State) : (s.discard).out = s.out :=
    (fun m => (rfl : ({ s with tp := m } : State).out = s.out)) (s.discard).tp
@[simp] theorem discard_fv (s : State) : (s.discard).fv = s.fv := (fun m => (rfl : ({ s with tp := m } : State).fv = s.fv)) (s.discard).tp
@[simp] theorem discard_time (s : State) : (s.discard).time = s.time :=
    (fun m => (rfl : ({ s with tp := m } : State).time = s.time)) (s.discard).tp
@[simp] theorem discard_strapX (s : State) : (s.discard).strapX = s.strapX :=
    (fun m => (rfl : ({ s with tp := m } : State).strapX = s.strapX)) (s.discard).tp
@[simp] theorem discard_strapY (s : State) : (s.discard).strapY = s.strapY :=
    (fun m => (rfl : ({ s with tp := m } : State).strapY = s.strapY)) (s.discard).tp
@[simp] theorem discard_reach (s : State) : (s.discard).reach = s.reach :=
    (fun m => (rfl : ({ s with tp := m } : State).reach = s.reach)) (s.discard).tp
@[simp] theorem discard_evq (s : State) : (s.discard).evq = s.evq :=
    (fun m => (rfl : ({ s with tp := m } : State).evq = s.evq)) (s.discard).tp
@[simp] theorem discard_dram (s : State) : (s.discard).dram = s.dram :=
    (fun m => (rfl : ({ s with tp := m } : State).dram = s.dram)) (s.discard).tp
@[simp] theorem discard_caches (s : State) : (s.discard).caches = s.caches :=
    (fun m => (rfl : ({ s with tp := m } : State).caches = s.caches)) (s.discard).tp
@[simp] theorem discard_bufs (s : State) : (s.discard).bufs = s.bufs :=
    (fun m => (rfl : ({ s with tp := m } : State).bufs = s.bufs)) (s.discard).tp
@[simp] theorem discard_twin (s : State) : (s.discard).twin = s.twin :=
    (fun m => (rfl : ({ s with tp := m } : State).twin = s.twin)) (s.discard).tp
@[simp] theorem discard_parts (s : State) : (s.discard).parts = s.parts :=
    (fun m => (rfl : ({ s with tp := m } : State).parts = s.parts)) (s.discard).tp
@[simp] theorem discard_nextPart (s : State) : (s.discard).nextPart = s.nextPart :=
    (fun m => (rfl : ({ s with tp := m } : State).nextPart = s.nextPart)) (s.discard).tp
@[simp] theorem discard_logs (s : State) : (s.discard).logs = s.logs :=
    (fun m => (rfl : ({ s with tp := m } : State).logs = s.logs)) (s.discard).tp
@[simp] theorem discard_queues (s : State) : (s.discard).queues = s.queues :=
    (fun m => (rfl : ({ s with tp := m } : State).queues = s.queues)) (s.discard).tp
@[simp] theorem discard_rates (s : State) : (s.discard).rates = s.rates :=
    (fun m => (rfl : ({ s with tp := m } : State).rates = s.rates)) (s.discard).tp
@[simp] theorem discard_icmp (s : State) : (s.discard).icmp = s.icmp :=
    (fun m => (rfl : ({ s with tp := m } : State).icmp = s.icmp)) (s.discard).tp
@[simp] theorem discard_tp (s : State) : (s.discard).tp = { s.tp with discards := s.tp.discards + 1 } := rfl
@[simp] theorem discard_spates (s : State) : (s.discard).spates = s.spates :=
    (fun m => (rfl : ({ s with tp := m } : State).spates = s.spates)) (s.discard).tp
@[simp] theorem discard_fiddles (s : State) : (s.discard).fiddles = s.fiddles :=
    (fun m => (rfl : ({ s with tp := m } : State).fiddles = s.fiddles)) (s.discard).tp
@[simp] theorem discard_spent (s : State) : (s.discard).spent = s.spent :=
    (fun m => (rfl : ({ s with tp := m } : State).spent = s.spent)) (s.discard).tp
@[simp] theorem discard_eng (s : State) : (s.discard).eng = s.eng :=
    (fun m => (rfl : ({ s with tp := m } : State).eng = s.eng)) (s.discard).tp
@[simp] theorem discard_stage (s : State) : (s.discard).stage = s.stage :=
    (fun m => (rfl : ({ s with tp := m } : State).stage = s.stage)) (s.discard).tp
@[simp] theorem discard_flash (s : State) : (s.discard).flash = s.flash :=
    (fun m => (rfl : ({ s with tp := m } : State).flash = s.flash)) (s.discard).tp
@[simp] theorem discard_streams (s : State) : (s.discard).streams = s.streams :=
    (fun m => (rfl : ({ s with tp := m } : State).streams = s.streams)) (s.discard).tp
@[simp] theorem discard_absent (s : State) : (s.discard).absent = s.absent :=
    (fun m => (rfl : ({ s with tp := m } : State).absent = s.absent)) (s.discard).tp
@[simp] theorem discard_peers (s : State) : (s.discard).peers = s.peers :=
    (fun m => (rfl : ({ s with tp := m } : State).peers = s.peers)) (s.discard).tp
@[simp] theorem discard_drains (s : State) : (s.discard).drains = s.drains :=
    (fun m => (rfl : ({ s with tp := m } : State).drains = s.drains)) (s.discard).tp
@[simp] theorem discard_chans (s : State) : (s.discard).chans = s.chans :=
    (fun m => (rfl : ({ s with tp := m } : State).chans = s.chans)) (s.discard).tp
@[simp] theorem discard_scrub (s : State) : (s.discard).scrub = s.scrub :=
    (fun m => (rfl : ({ s with tp := m } : State).scrub = s.scrub)) (s.discard).tp
@[simp] theorem discard_tablesLost (s : State) : (s.discard).tablesLost = s.tablesLost :=
    (fun m => (rfl : ({ s with tp := m } : State).tablesLost = s.tablesLost)) (s.discard).tp
@[simp] theorem discard_supply (s : State) : (s.discard).supply = s.supply :=
    (fun m => (rfl : ({ s with tp := m } : State).supply = s.supply)) (s.discard).tp
@[simp] theorem discard_stk (s : State) : (s.discard).stk = s.stk :=
    (fun m => (rfl : ({ s with tp := m } : State).stk = s.stk)) (s.discard).tp
@[simp] theorem discard_sec (s : State) : (s.discard).sec = s.sec :=
    (fun m => (rfl : ({ s with tp := m } : State).sec = s.sec)) (s.discard).tp
@[simp] theorem discard_recd (s : State) : (s.discard).recd = s.recd :=
    (fun m => (rfl : ({ s with tp := m } : State).recd = s.recd)) (s.discard).tp
@[simp] theorem discard_pins (s : State) : (s.discard).pins = s.pins :=
    (fun m => (rfl : ({ s with tp := m } : State).pins = s.pins)) (s.discard).tp
@[simp] theorem discard_pending (s : State) : (s.discard).pending = s.pending :=
    (fun m => (rfl : ({ s with tp := m } : State).pending = s.pending)) (s.discard).tp

/-! The twin's side changed. -/

@[simp] theorem onTwin_ctl (s : State) (f : Twin → Twin) : (s.onTwin f).ctl = s.ctl :=
    (fun m => (rfl : ({ s with twin := m } : State).ctl = s.ctl)) (s.onTwin f).twin
@[simp] theorem onTwin_written (s : State) (f : Twin → Twin) : (s.onTwin f).written = s.written :=
    (fun m => (rfl : ({ s with twin := m } : State).written = s.written)) (s.onTwin f).twin
@[simp] theorem onTwin_out (s : State) (f : Twin → Twin) : (s.onTwin f).out = s.out :=
    (fun m => (rfl : ({ s with twin := m } : State).out = s.out)) (s.onTwin f).twin
@[simp] theorem onTwin_fv (s : State) (f : Twin → Twin) : (s.onTwin f).fv = s.fv :=
    (fun m => (rfl : ({ s with twin := m } : State).fv = s.fv)) (s.onTwin f).twin
@[simp] theorem onTwin_time (s : State) (f : Twin → Twin) : (s.onTwin f).time = s.time :=
    (fun m => (rfl : ({ s with twin := m } : State).time = s.time)) (s.onTwin f).twin
@[simp] theorem onTwin_strapX (s : State) (f : Twin → Twin) : (s.onTwin f).strapX = s.strapX :=
    (fun m => (rfl : ({ s with twin := m } : State).strapX = s.strapX)) (s.onTwin f).twin
@[simp] theorem onTwin_strapY (s : State) (f : Twin → Twin) : (s.onTwin f).strapY = s.strapY :=
    (fun m => (rfl : ({ s with twin := m } : State).strapY = s.strapY)) (s.onTwin f).twin
@[simp] theorem onTwin_reach (s : State) (f : Twin → Twin) : (s.onTwin f).reach = s.reach :=
    (fun m => (rfl : ({ s with twin := m } : State).reach = s.reach)) (s.onTwin f).twin
@[simp] theorem onTwin_evq (s : State) (f : Twin → Twin) : (s.onTwin f).evq = s.evq :=
    (fun m => (rfl : ({ s with twin := m } : State).evq = s.evq)) (s.onTwin f).twin
@[simp] theorem onTwin_dram (s : State) (f : Twin → Twin) : (s.onTwin f).dram = s.dram :=
    (fun m => (rfl : ({ s with twin := m } : State).dram = s.dram)) (s.onTwin f).twin
@[simp] theorem onTwin_caches (s : State) (f : Twin → Twin) : (s.onTwin f).caches = s.caches :=
    (fun m => (rfl : ({ s with twin := m } : State).caches = s.caches)) (s.onTwin f).twin
@[simp] theorem onTwin_bufs (s : State) (f : Twin → Twin) : (s.onTwin f).bufs = s.bufs :=
    (fun m => (rfl : ({ s with twin := m } : State).bufs = s.bufs)) (s.onTwin f).twin
@[simp] theorem onTwin_twin (s : State) (f : Twin → Twin) : (s.onTwin f).twin = f s.twin := rfl
@[simp] theorem onTwin_parts (s : State) (f : Twin → Twin) : (s.onTwin f).parts = s.parts :=
    (fun m => (rfl : ({ s with twin := m } : State).parts = s.parts)) (s.onTwin f).twin
@[simp] theorem onTwin_nextPart (s : State) (f : Twin → Twin) : (s.onTwin f).nextPart = s.nextPart :=
    (fun m => (rfl : ({ s with twin := m } : State).nextPart = s.nextPart)) (s.onTwin f).twin
@[simp] theorem onTwin_logs (s : State) (f : Twin → Twin) : (s.onTwin f).logs = s.logs :=
    (fun m => (rfl : ({ s with twin := m } : State).logs = s.logs)) (s.onTwin f).twin
@[simp] theorem onTwin_queues (s : State) (f : Twin → Twin) : (s.onTwin f).queues = s.queues :=
    (fun m => (rfl : ({ s with twin := m } : State).queues = s.queues)) (s.onTwin f).twin
@[simp] theorem onTwin_rates (s : State) (f : Twin → Twin) : (s.onTwin f).rates = s.rates :=
    (fun m => (rfl : ({ s with twin := m } : State).rates = s.rates)) (s.onTwin f).twin
@[simp] theorem onTwin_icmp (s : State) (f : Twin → Twin) : (s.onTwin f).icmp = s.icmp :=
    (fun m => (rfl : ({ s with twin := m } : State).icmp = s.icmp)) (s.onTwin f).twin
@[simp] theorem onTwin_tp (s : State) (f : Twin → Twin) : (s.onTwin f).tp = s.tp :=
    (fun m => (rfl : ({ s with twin := m } : State).tp = s.tp)) (s.onTwin f).twin
@[simp] theorem onTwin_spates (s : State) (f : Twin → Twin) : (s.onTwin f).spates = s.spates :=
    (fun m => (rfl : ({ s with twin := m } : State).spates = s.spates)) (s.onTwin f).twin
@[simp] theorem onTwin_fiddles (s : State) (f : Twin → Twin) : (s.onTwin f).fiddles = s.fiddles :=
    (fun m => (rfl : ({ s with twin := m } : State).fiddles = s.fiddles)) (s.onTwin f).twin
@[simp] theorem onTwin_spent (s : State) (f : Twin → Twin) : (s.onTwin f).spent = s.spent :=
    (fun m => (rfl : ({ s with twin := m } : State).spent = s.spent)) (s.onTwin f).twin
@[simp] theorem onTwin_eng (s : State) (f : Twin → Twin) : (s.onTwin f).eng = s.eng :=
    (fun m => (rfl : ({ s with twin := m } : State).eng = s.eng)) (s.onTwin f).twin
@[simp] theorem onTwin_stage (s : State) (f : Twin → Twin) : (s.onTwin f).stage = s.stage :=
    (fun m => (rfl : ({ s with twin := m } : State).stage = s.stage)) (s.onTwin f).twin
@[simp] theorem onTwin_flash (s : State) (f : Twin → Twin) : (s.onTwin f).flash = s.flash :=
    (fun m => (rfl : ({ s with twin := m } : State).flash = s.flash)) (s.onTwin f).twin
@[simp] theorem onTwin_streams (s : State) (f : Twin → Twin) : (s.onTwin f).streams = s.streams :=
    (fun m => (rfl : ({ s with twin := m } : State).streams = s.streams)) (s.onTwin f).twin
@[simp] theorem onTwin_absent (s : State) (f : Twin → Twin) : (s.onTwin f).absent = s.absent :=
    (fun m => (rfl : ({ s with twin := m } : State).absent = s.absent)) (s.onTwin f).twin
@[simp] theorem onTwin_peers (s : State) (f : Twin → Twin) : (s.onTwin f).peers = s.peers :=
    (fun m => (rfl : ({ s with twin := m } : State).peers = s.peers)) (s.onTwin f).twin
@[simp] theorem onTwin_drains (s : State) (f : Twin → Twin) : (s.onTwin f).drains = s.drains :=
    (fun m => (rfl : ({ s with twin := m } : State).drains = s.drains)) (s.onTwin f).twin
@[simp] theorem onTwin_chans (s : State) (f : Twin → Twin) : (s.onTwin f).chans = s.chans :=
    (fun m => (rfl : ({ s with twin := m } : State).chans = s.chans)) (s.onTwin f).twin
@[simp] theorem onTwin_scrub (s : State) (f : Twin → Twin) : (s.onTwin f).scrub = s.scrub :=
    (fun m => (rfl : ({ s with twin := m } : State).scrub = s.scrub)) (s.onTwin f).twin
@[simp] theorem onTwin_tablesLost (s : State) (f : Twin → Twin) : (s.onTwin f).tablesLost = s.tablesLost :=
    (fun m => (rfl : ({ s with twin := m } : State).tablesLost = s.tablesLost)) (s.onTwin f).twin
@[simp] theorem onTwin_supply (s : State) (f : Twin → Twin) : (s.onTwin f).supply = s.supply :=
    (fun m => (rfl : ({ s with twin := m } : State).supply = s.supply)) (s.onTwin f).twin
@[simp] theorem onTwin_stk (s : State) (f : Twin → Twin) : (s.onTwin f).stk = s.stk :=
    (fun m => (rfl : ({ s with twin := m } : State).stk = s.stk)) (s.onTwin f).twin
@[simp] theorem onTwin_sec (s : State) (f : Twin → Twin) : (s.onTwin f).sec = s.sec :=
    (fun m => (rfl : ({ s with twin := m } : State).sec = s.sec)) (s.onTwin f).twin
@[simp] theorem onTwin_recd (s : State) (f : Twin → Twin) : (s.onTwin f).recd = s.recd :=
    (fun m => (rfl : ({ s with twin := m } : State).recd = s.recd)) (s.onTwin f).twin
@[simp] theorem onTwin_pins (s : State) (f : Twin → Twin) : (s.onTwin f).pins = s.pins :=
    (fun m => (rfl : ({ s with twin := m } : State).pins = s.pins)) (s.onTwin f).twin
@[simp] theorem onTwin_pending (s : State) (f : Twin → Twin) : (s.onTwin f).pending = s.pending :=
    (fun m => (rfl : ({ s with twin := m } : State).pending = s.pending)) (s.onTwin f).twin

/-! The flash side changed. -/

@[simp] theorem onFlash_ctl (s : State) (f : Flash → Flash) : (s.onFlash f).ctl = s.ctl :=
    (fun m => (rfl : ({ s with flash := m } : State).ctl = s.ctl)) (s.onFlash f).flash
@[simp] theorem onFlash_written (s : State) (f : Flash → Flash) : (s.onFlash f).written = s.written :=
    (fun m => (rfl : ({ s with flash := m } : State).written = s.written)) (s.onFlash f).flash
@[simp] theorem onFlash_out (s : State) (f : Flash → Flash) : (s.onFlash f).out = s.out :=
    (fun m => (rfl : ({ s with flash := m } : State).out = s.out)) (s.onFlash f).flash
@[simp] theorem onFlash_fv (s : State) (f : Flash → Flash) : (s.onFlash f).fv = s.fv :=
    (fun m => (rfl : ({ s with flash := m } : State).fv = s.fv)) (s.onFlash f).flash
@[simp] theorem onFlash_time (s : State) (f : Flash → Flash) : (s.onFlash f).time = s.time :=
    (fun m => (rfl : ({ s with flash := m } : State).time = s.time)) (s.onFlash f).flash
@[simp] theorem onFlash_strapX (s : State) (f : Flash → Flash) : (s.onFlash f).strapX = s.strapX :=
    (fun m => (rfl : ({ s with flash := m } : State).strapX = s.strapX)) (s.onFlash f).flash
@[simp] theorem onFlash_strapY (s : State) (f : Flash → Flash) : (s.onFlash f).strapY = s.strapY :=
    (fun m => (rfl : ({ s with flash := m } : State).strapY = s.strapY)) (s.onFlash f).flash
@[simp] theorem onFlash_reach (s : State) (f : Flash → Flash) : (s.onFlash f).reach = s.reach :=
    (fun m => (rfl : ({ s with flash := m } : State).reach = s.reach)) (s.onFlash f).flash
@[simp] theorem onFlash_evq (s : State) (f : Flash → Flash) : (s.onFlash f).evq = s.evq :=
    (fun m => (rfl : ({ s with flash := m } : State).evq = s.evq)) (s.onFlash f).flash
@[simp] theorem onFlash_dram (s : State) (f : Flash → Flash) : (s.onFlash f).dram = s.dram :=
    (fun m => (rfl : ({ s with flash := m } : State).dram = s.dram)) (s.onFlash f).flash
@[simp] theorem onFlash_caches (s : State) (f : Flash → Flash) : (s.onFlash f).caches = s.caches :=
    (fun m => (rfl : ({ s with flash := m } : State).caches = s.caches)) (s.onFlash f).flash
@[simp] theorem onFlash_bufs (s : State) (f : Flash → Flash) : (s.onFlash f).bufs = s.bufs :=
    (fun m => (rfl : ({ s with flash := m } : State).bufs = s.bufs)) (s.onFlash f).flash
@[simp] theorem onFlash_twin (s : State) (f : Flash → Flash) : (s.onFlash f).twin = s.twin :=
    (fun m => (rfl : ({ s with flash := m } : State).twin = s.twin)) (s.onFlash f).flash
@[simp] theorem onFlash_parts (s : State) (f : Flash → Flash) : (s.onFlash f).parts = s.parts :=
    (fun m => (rfl : ({ s with flash := m } : State).parts = s.parts)) (s.onFlash f).flash
@[simp] theorem onFlash_nextPart (s : State) (f : Flash → Flash) : (s.onFlash f).nextPart = s.nextPart :=
    (fun m => (rfl : ({ s with flash := m } : State).nextPart = s.nextPart)) (s.onFlash f).flash
@[simp] theorem onFlash_logs (s : State) (f : Flash → Flash) : (s.onFlash f).logs = s.logs :=
    (fun m => (rfl : ({ s with flash := m } : State).logs = s.logs)) (s.onFlash f).flash
@[simp] theorem onFlash_queues (s : State) (f : Flash → Flash) : (s.onFlash f).queues = s.queues :=
    (fun m => (rfl : ({ s with flash := m } : State).queues = s.queues)) (s.onFlash f).flash
@[simp] theorem onFlash_rates (s : State) (f : Flash → Flash) : (s.onFlash f).rates = s.rates :=
    (fun m => (rfl : ({ s with flash := m } : State).rates = s.rates)) (s.onFlash f).flash
@[simp] theorem onFlash_icmp (s : State) (f : Flash → Flash) : (s.onFlash f).icmp = s.icmp :=
    (fun m => (rfl : ({ s with flash := m } : State).icmp = s.icmp)) (s.onFlash f).flash
@[simp] theorem onFlash_tp (s : State) (f : Flash → Flash) : (s.onFlash f).tp = s.tp :=
    (fun m => (rfl : ({ s with flash := m } : State).tp = s.tp)) (s.onFlash f).flash
@[simp] theorem onFlash_spates (s : State) (f : Flash → Flash) : (s.onFlash f).spates = s.spates :=
    (fun m => (rfl : ({ s with flash := m } : State).spates = s.spates)) (s.onFlash f).flash
@[simp] theorem onFlash_fiddles (s : State) (f : Flash → Flash) : (s.onFlash f).fiddles = s.fiddles :=
    (fun m => (rfl : ({ s with flash := m } : State).fiddles = s.fiddles)) (s.onFlash f).flash
@[simp] theorem onFlash_spent (s : State) (f : Flash → Flash) : (s.onFlash f).spent = s.spent :=
    (fun m => (rfl : ({ s with flash := m } : State).spent = s.spent)) (s.onFlash f).flash
@[simp] theorem onFlash_eng (s : State) (f : Flash → Flash) : (s.onFlash f).eng = s.eng :=
    (fun m => (rfl : ({ s with flash := m } : State).eng = s.eng)) (s.onFlash f).flash
@[simp] theorem onFlash_stage (s : State) (f : Flash → Flash) : (s.onFlash f).stage = s.stage :=
    (fun m => (rfl : ({ s with flash := m } : State).stage = s.stage)) (s.onFlash f).flash
@[simp] theorem onFlash_flash (s : State) (f : Flash → Flash) : (s.onFlash f).flash = f s.flash := rfl
@[simp] theorem onFlash_streams (s : State) (f : Flash → Flash) : (s.onFlash f).streams = s.streams :=
    (fun m => (rfl : ({ s with flash := m } : State).streams = s.streams)) (s.onFlash f).flash
@[simp] theorem onFlash_absent (s : State) (f : Flash → Flash) : (s.onFlash f).absent = s.absent :=
    (fun m => (rfl : ({ s with flash := m } : State).absent = s.absent)) (s.onFlash f).flash
@[simp] theorem onFlash_peers (s : State) (f : Flash → Flash) : (s.onFlash f).peers = s.peers :=
    (fun m => (rfl : ({ s with flash := m } : State).peers = s.peers)) (s.onFlash f).flash
@[simp] theorem onFlash_drains (s : State) (f : Flash → Flash) : (s.onFlash f).drains = s.drains :=
    (fun m => (rfl : ({ s with flash := m } : State).drains = s.drains)) (s.onFlash f).flash
@[simp] theorem onFlash_chans (s : State) (f : Flash → Flash) : (s.onFlash f).chans = s.chans :=
    (fun m => (rfl : ({ s with flash := m } : State).chans = s.chans)) (s.onFlash f).flash
@[simp] theorem onFlash_scrub (s : State) (f : Flash → Flash) : (s.onFlash f).scrub = s.scrub :=
    (fun m => (rfl : ({ s with flash := m } : State).scrub = s.scrub)) (s.onFlash f).flash
@[simp] theorem onFlash_tablesLost (s : State) (f : Flash → Flash) : (s.onFlash f).tablesLost = s.tablesLost :=
    (fun m => (rfl : ({ s with flash := m } : State).tablesLost = s.tablesLost)) (s.onFlash f).flash
@[simp] theorem onFlash_supply (s : State) (f : Flash → Flash) : (s.onFlash f).supply = s.supply :=
    (fun m => (rfl : ({ s with flash := m } : State).supply = s.supply)) (s.onFlash f).flash
@[simp] theorem onFlash_stk (s : State) (f : Flash → Flash) : (s.onFlash f).stk = s.stk :=
    (fun m => (rfl : ({ s with flash := m } : State).stk = s.stk)) (s.onFlash f).flash
@[simp] theorem onFlash_sec (s : State) (f : Flash → Flash) : (s.onFlash f).sec = s.sec :=
    (fun m => (rfl : ({ s with flash := m } : State).sec = s.sec)) (s.onFlash f).flash
@[simp] theorem onFlash_recd (s : State) (f : Flash → Flash) : (s.onFlash f).recd = s.recd :=
    (fun m => (rfl : ({ s with flash := m } : State).recd = s.recd)) (s.onFlash f).flash
@[simp] theorem onFlash_pins (s : State) (f : Flash → Flash) : (s.onFlash f).pins = s.pins :=
    (fun m => (rfl : ({ s with flash := m } : State).pins = s.pins)) (s.onFlash f).flash
@[simp] theorem onFlash_pending (s : State) (f : Flash → Flash) : (s.onFlash f).pending = s.pending :=
    (fun m => (rfl : ({ s with flash := m } : State).pending = s.pending)) (s.onFlash f).flash

/-! A stream changed. -/

@[simp] theorem onStream_ctl (s : State) (r : Nat) (f : Stream → Stream) : (s.onStream r f).ctl = s.ctl :=
    (fun m => (rfl : ({ s with streams := m } : State).ctl = s.ctl)) (s.onStream r f).streams
@[simp] theorem onStream_written (s : State) (r : Nat) (f : Stream → Stream) : (s.onStream r f).written = s.written :=
    (fun m => (rfl : ({ s with streams := m } : State).written = s.written)) (s.onStream r f).streams
@[simp] theorem onStream_out (s : State) (r : Nat) (f : Stream → Stream) : (s.onStream r f).out = s.out :=
    (fun m => (rfl : ({ s with streams := m } : State).out = s.out)) (s.onStream r f).streams
@[simp] theorem onStream_fv (s : State) (r : Nat) (f : Stream → Stream) : (s.onStream r f).fv = s.fv :=
    (fun m => (rfl : ({ s with streams := m } : State).fv = s.fv)) (s.onStream r f).streams
@[simp] theorem onStream_time (s : State) (r : Nat) (f : Stream → Stream) : (s.onStream r f).time = s.time :=
    (fun m => (rfl : ({ s with streams := m } : State).time = s.time)) (s.onStream r f).streams
@[simp] theorem onStream_strapX (s : State) (r : Nat) (f : Stream → Stream) : (s.onStream r f).strapX = s.strapX :=
    (fun m => (rfl : ({ s with streams := m } : State).strapX = s.strapX)) (s.onStream r f).streams
@[simp] theorem onStream_strapY (s : State) (r : Nat) (f : Stream → Stream) : (s.onStream r f).strapY = s.strapY :=
    (fun m => (rfl : ({ s with streams := m } : State).strapY = s.strapY)) (s.onStream r f).streams
@[simp] theorem onStream_reach (s : State) (r : Nat) (f : Stream → Stream) : (s.onStream r f).reach = s.reach :=
    (fun m => (rfl : ({ s with streams := m } : State).reach = s.reach)) (s.onStream r f).streams
@[simp] theorem onStream_evq (s : State) (r : Nat) (f : Stream → Stream) : (s.onStream r f).evq = s.evq :=
    (fun m => (rfl : ({ s with streams := m } : State).evq = s.evq)) (s.onStream r f).streams
@[simp] theorem onStream_dram (s : State) (r : Nat) (f : Stream → Stream) : (s.onStream r f).dram = s.dram :=
    (fun m => (rfl : ({ s with streams := m } : State).dram = s.dram)) (s.onStream r f).streams
@[simp] theorem onStream_caches (s : State) (r : Nat) (f : Stream → Stream) : (s.onStream r f).caches = s.caches :=
    (fun m => (rfl : ({ s with streams := m } : State).caches = s.caches)) (s.onStream r f).streams
@[simp] theorem onStream_bufs (s : State) (r : Nat) (f : Stream → Stream) : (s.onStream r f).bufs = s.bufs :=
    (fun m => (rfl : ({ s with streams := m } : State).bufs = s.bufs)) (s.onStream r f).streams
@[simp] theorem onStream_twin (s : State) (r : Nat) (f : Stream → Stream) : (s.onStream r f).twin = s.twin :=
    (fun m => (rfl : ({ s with streams := m } : State).twin = s.twin)) (s.onStream r f).streams
@[simp] theorem onStream_parts (s : State) (r : Nat) (f : Stream → Stream) : (s.onStream r f).parts = s.parts :=
    (fun m => (rfl : ({ s with streams := m } : State).parts = s.parts)) (s.onStream r f).streams
@[simp] theorem onStream_nextPart (s : State) (r : Nat) (f : Stream → Stream) : (s.onStream r f).nextPart = s.nextPart :=
    (fun m => (rfl : ({ s with streams := m } : State).nextPart = s.nextPart)) (s.onStream r f).streams
@[simp] theorem onStream_logs (s : State) (r : Nat) (f : Stream → Stream) : (s.onStream r f).logs = s.logs :=
    (fun m => (rfl : ({ s with streams := m } : State).logs = s.logs)) (s.onStream r f).streams
@[simp] theorem onStream_queues (s : State) (r : Nat) (f : Stream → Stream) : (s.onStream r f).queues = s.queues :=
    (fun m => (rfl : ({ s with streams := m } : State).queues = s.queues)) (s.onStream r f).streams
@[simp] theorem onStream_rates (s : State) (r : Nat) (f : Stream → Stream) : (s.onStream r f).rates = s.rates :=
    (fun m => (rfl : ({ s with streams := m } : State).rates = s.rates)) (s.onStream r f).streams
@[simp] theorem onStream_icmp (s : State) (r : Nat) (f : Stream → Stream) : (s.onStream r f).icmp = s.icmp :=
    (fun m => (rfl : ({ s with streams := m } : State).icmp = s.icmp)) (s.onStream r f).streams
@[simp] theorem onStream_tp (s : State) (r : Nat) (f : Stream → Stream) : (s.onStream r f).tp = s.tp :=
    (fun m => (rfl : ({ s with streams := m } : State).tp = s.tp)) (s.onStream r f).streams
@[simp] theorem onStream_spates (s : State) (r : Nat) (f : Stream → Stream) : (s.onStream r f).spates = s.spates :=
    (fun m => (rfl : ({ s with streams := m } : State).spates = s.spates)) (s.onStream r f).streams
@[simp] theorem onStream_fiddles (s : State) (r : Nat) (f : Stream → Stream) : (s.onStream r f).fiddles = s.fiddles :=
    (fun m => (rfl : ({ s with streams := m } : State).fiddles = s.fiddles)) (s.onStream r f).streams
@[simp] theorem onStream_spent (s : State) (r : Nat) (f : Stream → Stream) : (s.onStream r f).spent = s.spent :=
    (fun m => (rfl : ({ s with streams := m } : State).spent = s.spent)) (s.onStream r f).streams
@[simp] theorem onStream_eng (s : State) (r : Nat) (f : Stream → Stream) : (s.onStream r f).eng = s.eng :=
    (fun m => (rfl : ({ s with streams := m } : State).eng = s.eng)) (s.onStream r f).streams
@[simp] theorem onStream_stage (s : State) (r : Nat) (f : Stream → Stream) : (s.onStream r f).stage = s.stage :=
    (fun m => (rfl : ({ s with streams := m } : State).stage = s.stage)) (s.onStream r f).streams
@[simp] theorem onStream_flash (s : State) (r : Nat) (f : Stream → Stream) : (s.onStream r f).flash = s.flash :=
    (fun m => (rfl : ({ s with streams := m } : State).flash = s.flash)) (s.onStream r f).streams
@[simp] theorem onStream_streams (s : State) (r : Nat) (f : Stream → Stream) : (s.onStream r f).streams = s.streams.put r (f (s.stream r)) :=
    rfl
@[simp] theorem onStream_absent (s : State) (r : Nat) (f : Stream → Stream) : (s.onStream r f).absent = s.absent :=
    (fun m => (rfl : ({ s with streams := m } : State).absent = s.absent)) (s.onStream r f).streams
@[simp] theorem onStream_peers (s : State) (r : Nat) (f : Stream → Stream) : (s.onStream r f).peers = s.peers :=
    (fun m => (rfl : ({ s with streams := m } : State).peers = s.peers)) (s.onStream r f).streams
@[simp] theorem onStream_drains (s : State) (r : Nat) (f : Stream → Stream) : (s.onStream r f).drains = s.drains :=
    (fun m => (rfl : ({ s with streams := m } : State).drains = s.drains)) (s.onStream r f).streams
@[simp] theorem onStream_chans (s : State) (r : Nat) (f : Stream → Stream) : (s.onStream r f).chans = s.chans :=
    (fun m => (rfl : ({ s with streams := m } : State).chans = s.chans)) (s.onStream r f).streams
@[simp] theorem onStream_scrub (s : State) (r : Nat) (f : Stream → Stream) : (s.onStream r f).scrub = s.scrub :=
    (fun m => (rfl : ({ s with streams := m } : State).scrub = s.scrub)) (s.onStream r f).streams
@[simp] theorem onStream_tablesLost (s : State) (r : Nat) (f : Stream → Stream) : (s.onStream r f).tablesLost = s.tablesLost :=
    (fun m => (rfl : ({ s with streams := m } : State).tablesLost = s.tablesLost)) (s.onStream r f).streams
@[simp] theorem onStream_supply (s : State) (r : Nat) (f : Stream → Stream) : (s.onStream r f).supply = s.supply :=
    (fun m => (rfl : ({ s with streams := m } : State).supply = s.supply)) (s.onStream r f).streams
@[simp] theorem onStream_stk (s : State) (r : Nat) (f : Stream → Stream) : (s.onStream r f).stk = s.stk :=
    (fun m => (rfl : ({ s with streams := m } : State).stk = s.stk)) (s.onStream r f).streams
@[simp] theorem onStream_sec (s : State) (r : Nat) (f : Stream → Stream) : (s.onStream r f).sec = s.sec :=
    (fun m => (rfl : ({ s with streams := m } : State).sec = s.sec)) (s.onStream r f).streams
@[simp] theorem onStream_recd (s : State) (r : Nat) (f : Stream → Stream) : (s.onStream r f).recd = s.recd :=
    (fun m => (rfl : ({ s with streams := m } : State).recd = s.recd)) (s.onStream r f).streams
@[simp] theorem onStream_pins (s : State) (r : Nat) (f : Stream → Stream) : (s.onStream r f).pins = s.pins :=
    (fun m => (rfl : ({ s with streams := m } : State).pins = s.pins)) (s.onStream r f).streams
@[simp] theorem onStream_pending (s : State) (r : Nat) (f : Stream → Stream) : (s.onStream r f).pending = s.pending :=
    (fun m => (rfl : ({ s with streams := m } : State).pending = s.pending)) (s.onStream r f).streams

/-! A DRAM channel changed. -/

@[simp] theorem onChan_ctl (s : State) (c : Nat) (f : Chan → Chan) : (s.onChan c f).ctl = s.ctl :=
    (fun m => (rfl : ({ s with chans := m } : State).ctl = s.ctl)) (s.onChan c f).chans
@[simp] theorem onChan_written (s : State) (c : Nat) (f : Chan → Chan) : (s.onChan c f).written = s.written :=
    (fun m => (rfl : ({ s with chans := m } : State).written = s.written)) (s.onChan c f).chans
@[simp] theorem onChan_out (s : State) (c : Nat) (f : Chan → Chan) : (s.onChan c f).out = s.out :=
    (fun m => (rfl : ({ s with chans := m } : State).out = s.out)) (s.onChan c f).chans
@[simp] theorem onChan_fv (s : State) (c : Nat) (f : Chan → Chan) : (s.onChan c f).fv = s.fv :=
    (fun m => (rfl : ({ s with chans := m } : State).fv = s.fv)) (s.onChan c f).chans
@[simp] theorem onChan_time (s : State) (c : Nat) (f : Chan → Chan) : (s.onChan c f).time = s.time :=
    (fun m => (rfl : ({ s with chans := m } : State).time = s.time)) (s.onChan c f).chans
@[simp] theorem onChan_strapX (s : State) (c : Nat) (f : Chan → Chan) : (s.onChan c f).strapX = s.strapX :=
    (fun m => (rfl : ({ s with chans := m } : State).strapX = s.strapX)) (s.onChan c f).chans
@[simp] theorem onChan_strapY (s : State) (c : Nat) (f : Chan → Chan) : (s.onChan c f).strapY = s.strapY :=
    (fun m => (rfl : ({ s with chans := m } : State).strapY = s.strapY)) (s.onChan c f).chans
@[simp] theorem onChan_reach (s : State) (c : Nat) (f : Chan → Chan) : (s.onChan c f).reach = s.reach :=
    (fun m => (rfl : ({ s with chans := m } : State).reach = s.reach)) (s.onChan c f).chans
@[simp] theorem onChan_evq (s : State) (c : Nat) (f : Chan → Chan) : (s.onChan c f).evq = s.evq :=
    (fun m => (rfl : ({ s with chans := m } : State).evq = s.evq)) (s.onChan c f).chans
@[simp] theorem onChan_dram (s : State) (c : Nat) (f : Chan → Chan) : (s.onChan c f).dram = s.dram :=
    (fun m => (rfl : ({ s with chans := m } : State).dram = s.dram)) (s.onChan c f).chans
@[simp] theorem onChan_caches (s : State) (c : Nat) (f : Chan → Chan) : (s.onChan c f).caches = s.caches :=
    (fun m => (rfl : ({ s with chans := m } : State).caches = s.caches)) (s.onChan c f).chans
@[simp] theorem onChan_bufs (s : State) (c : Nat) (f : Chan → Chan) : (s.onChan c f).bufs = s.bufs :=
    (fun m => (rfl : ({ s with chans := m } : State).bufs = s.bufs)) (s.onChan c f).chans
@[simp] theorem onChan_twin (s : State) (c : Nat) (f : Chan → Chan) : (s.onChan c f).twin = s.twin :=
    (fun m => (rfl : ({ s with chans := m } : State).twin = s.twin)) (s.onChan c f).chans
@[simp] theorem onChan_parts (s : State) (c : Nat) (f : Chan → Chan) : (s.onChan c f).parts = s.parts :=
    (fun m => (rfl : ({ s with chans := m } : State).parts = s.parts)) (s.onChan c f).chans
@[simp] theorem onChan_nextPart (s : State) (c : Nat) (f : Chan → Chan) : (s.onChan c f).nextPart = s.nextPart :=
    (fun m => (rfl : ({ s with chans := m } : State).nextPart = s.nextPart)) (s.onChan c f).chans
@[simp] theorem onChan_logs (s : State) (c : Nat) (f : Chan → Chan) : (s.onChan c f).logs = s.logs :=
    (fun m => (rfl : ({ s with chans := m } : State).logs = s.logs)) (s.onChan c f).chans
@[simp] theorem onChan_queues (s : State) (c : Nat) (f : Chan → Chan) : (s.onChan c f).queues = s.queues :=
    (fun m => (rfl : ({ s with chans := m } : State).queues = s.queues)) (s.onChan c f).chans
@[simp] theorem onChan_rates (s : State) (c : Nat) (f : Chan → Chan) : (s.onChan c f).rates = s.rates :=
    (fun m => (rfl : ({ s with chans := m } : State).rates = s.rates)) (s.onChan c f).chans
@[simp] theorem onChan_icmp (s : State) (c : Nat) (f : Chan → Chan) : (s.onChan c f).icmp = s.icmp :=
    (fun m => (rfl : ({ s with chans := m } : State).icmp = s.icmp)) (s.onChan c f).chans
@[simp] theorem onChan_tp (s : State) (c : Nat) (f : Chan → Chan) : (s.onChan c f).tp = s.tp :=
    (fun m => (rfl : ({ s with chans := m } : State).tp = s.tp)) (s.onChan c f).chans
@[simp] theorem onChan_spates (s : State) (c : Nat) (f : Chan → Chan) : (s.onChan c f).spates = s.spates :=
    (fun m => (rfl : ({ s with chans := m } : State).spates = s.spates)) (s.onChan c f).chans
@[simp] theorem onChan_fiddles (s : State) (c : Nat) (f : Chan → Chan) : (s.onChan c f).fiddles = s.fiddles :=
    (fun m => (rfl : ({ s with chans := m } : State).fiddles = s.fiddles)) (s.onChan c f).chans
@[simp] theorem onChan_spent (s : State) (c : Nat) (f : Chan → Chan) : (s.onChan c f).spent = s.spent :=
    (fun m => (rfl : ({ s with chans := m } : State).spent = s.spent)) (s.onChan c f).chans
@[simp] theorem onChan_eng (s : State) (c : Nat) (f : Chan → Chan) : (s.onChan c f).eng = s.eng :=
    (fun m => (rfl : ({ s with chans := m } : State).eng = s.eng)) (s.onChan c f).chans
@[simp] theorem onChan_stage (s : State) (c : Nat) (f : Chan → Chan) : (s.onChan c f).stage = s.stage :=
    (fun m => (rfl : ({ s with chans := m } : State).stage = s.stage)) (s.onChan c f).chans
@[simp] theorem onChan_flash (s : State) (c : Nat) (f : Chan → Chan) : (s.onChan c f).flash = s.flash :=
    (fun m => (rfl : ({ s with chans := m } : State).flash = s.flash)) (s.onChan c f).chans
@[simp] theorem onChan_streams (s : State) (c : Nat) (f : Chan → Chan) : (s.onChan c f).streams = s.streams :=
    (fun m => (rfl : ({ s with chans := m } : State).streams = s.streams)) (s.onChan c f).chans
@[simp] theorem onChan_absent (s : State) (c : Nat) (f : Chan → Chan) : (s.onChan c f).absent = s.absent :=
    (fun m => (rfl : ({ s with chans := m } : State).absent = s.absent)) (s.onChan c f).chans
@[simp] theorem onChan_peers (s : State) (c : Nat) (f : Chan → Chan) : (s.onChan c f).peers = s.peers :=
    (fun m => (rfl : ({ s with chans := m } : State).peers = s.peers)) (s.onChan c f).chans
@[simp] theorem onChan_drains (s : State) (c : Nat) (f : Chan → Chan) : (s.onChan c f).drains = s.drains :=
    (fun m => (rfl : ({ s with chans := m } : State).drains = s.drains)) (s.onChan c f).chans
@[simp] theorem onChan_chans (s : State) (c : Nat) (f : Chan → Chan) : (s.onChan c f).chans = s.chans.put c (f (s.chan c)) := rfl
@[simp] theorem onChan_scrub (s : State) (c : Nat) (f : Chan → Chan) : (s.onChan c f).scrub = s.scrub :=
    (fun m => (rfl : ({ s with chans := m } : State).scrub = s.scrub)) (s.onChan c f).chans
@[simp] theorem onChan_tablesLost (s : State) (c : Nat) (f : Chan → Chan) : (s.onChan c f).tablesLost = s.tablesLost :=
    (fun m => (rfl : ({ s with chans := m } : State).tablesLost = s.tablesLost)) (s.onChan c f).chans
@[simp] theorem onChan_supply (s : State) (c : Nat) (f : Chan → Chan) : (s.onChan c f).supply = s.supply :=
    (fun m => (rfl : ({ s with chans := m } : State).supply = s.supply)) (s.onChan c f).chans
@[simp] theorem onChan_stk (s : State) (c : Nat) (f : Chan → Chan) : (s.onChan c f).stk = s.stk :=
    (fun m => (rfl : ({ s with chans := m } : State).stk = s.stk)) (s.onChan c f).chans
@[simp] theorem onChan_sec (s : State) (c : Nat) (f : Chan → Chan) : (s.onChan c f).sec = s.sec :=
    (fun m => (rfl : ({ s with chans := m } : State).sec = s.sec)) (s.onChan c f).chans
@[simp] theorem onChan_recd (s : State) (c : Nat) (f : Chan → Chan) : (s.onChan c f).recd = s.recd :=
    (fun m => (rfl : ({ s with chans := m } : State).recd = s.recd)) (s.onChan c f).chans
@[simp] theorem onChan_pins (s : State) (c : Nat) (f : Chan → Chan) : (s.onChan c f).pins = s.pins :=
    (fun m => (rfl : ({ s with chans := m } : State).pins = s.pins)) (s.onChan c f).chans
@[simp] theorem onChan_pending (s : State) (c : Nat) (f : Chan → Chan) : (s.onChan c f).pending = s.pending :=
    (fun m => (rfl : ({ s with chans := m } : State).pending = s.pending)) (s.onChan c f).chans

/-! The stack's side changed. -/

@[simp] theorem onStk_ctl (s : State) (f : Stk → Stk) : (s.onStk f).ctl = s.ctl :=
    (fun m => (rfl : ({ s with stk := m } : State).ctl = s.ctl)) (s.onStk f).stk
@[simp] theorem onStk_written (s : State) (f : Stk → Stk) : (s.onStk f).written = s.written :=
    (fun m => (rfl : ({ s with stk := m } : State).written = s.written)) (s.onStk f).stk
@[simp] theorem onStk_out (s : State) (f : Stk → Stk) : (s.onStk f).out = s.out :=
    (fun m => (rfl : ({ s with stk := m } : State).out = s.out)) (s.onStk f).stk
@[simp] theorem onStk_fv (s : State) (f : Stk → Stk) : (s.onStk f).fv = s.fv :=
    (fun m => (rfl : ({ s with stk := m } : State).fv = s.fv)) (s.onStk f).stk
@[simp] theorem onStk_time (s : State) (f : Stk → Stk) : (s.onStk f).time = s.time :=
    (fun m => (rfl : ({ s with stk := m } : State).time = s.time)) (s.onStk f).stk
@[simp] theorem onStk_strapX (s : State) (f : Stk → Stk) : (s.onStk f).strapX = s.strapX :=
    (fun m => (rfl : ({ s with stk := m } : State).strapX = s.strapX)) (s.onStk f).stk
@[simp] theorem onStk_strapY (s : State) (f : Stk → Stk) : (s.onStk f).strapY = s.strapY :=
    (fun m => (rfl : ({ s with stk := m } : State).strapY = s.strapY)) (s.onStk f).stk
@[simp] theorem onStk_reach (s : State) (f : Stk → Stk) : (s.onStk f).reach = s.reach :=
    (fun m => (rfl : ({ s with stk := m } : State).reach = s.reach)) (s.onStk f).stk
@[simp] theorem onStk_evq (s : State) (f : Stk → Stk) : (s.onStk f).evq = s.evq :=
    (fun m => (rfl : ({ s with stk := m } : State).evq = s.evq)) (s.onStk f).stk
@[simp] theorem onStk_dram (s : State) (f : Stk → Stk) : (s.onStk f).dram = s.dram :=
    (fun m => (rfl : ({ s with stk := m } : State).dram = s.dram)) (s.onStk f).stk
@[simp] theorem onStk_caches (s : State) (f : Stk → Stk) : (s.onStk f).caches = s.caches :=
    (fun m => (rfl : ({ s with stk := m } : State).caches = s.caches)) (s.onStk f).stk
@[simp] theorem onStk_bufs (s : State) (f : Stk → Stk) : (s.onStk f).bufs = s.bufs :=
    (fun m => (rfl : ({ s with stk := m } : State).bufs = s.bufs)) (s.onStk f).stk
@[simp] theorem onStk_twin (s : State) (f : Stk → Stk) : (s.onStk f).twin = s.twin :=
    (fun m => (rfl : ({ s with stk := m } : State).twin = s.twin)) (s.onStk f).stk
@[simp] theorem onStk_parts (s : State) (f : Stk → Stk) : (s.onStk f).parts = s.parts :=
    (fun m => (rfl : ({ s with stk := m } : State).parts = s.parts)) (s.onStk f).stk
@[simp] theorem onStk_nextPart (s : State) (f : Stk → Stk) : (s.onStk f).nextPart = s.nextPart :=
    (fun m => (rfl : ({ s with stk := m } : State).nextPart = s.nextPart)) (s.onStk f).stk
@[simp] theorem onStk_logs (s : State) (f : Stk → Stk) : (s.onStk f).logs = s.logs :=
    (fun m => (rfl : ({ s with stk := m } : State).logs = s.logs)) (s.onStk f).stk
@[simp] theorem onStk_queues (s : State) (f : Stk → Stk) : (s.onStk f).queues = s.queues :=
    (fun m => (rfl : ({ s with stk := m } : State).queues = s.queues)) (s.onStk f).stk
@[simp] theorem onStk_rates (s : State) (f : Stk → Stk) : (s.onStk f).rates = s.rates :=
    (fun m => (rfl : ({ s with stk := m } : State).rates = s.rates)) (s.onStk f).stk
@[simp] theorem onStk_icmp (s : State) (f : Stk → Stk) : (s.onStk f).icmp = s.icmp :=
    (fun m => (rfl : ({ s with stk := m } : State).icmp = s.icmp)) (s.onStk f).stk
@[simp] theorem onStk_tp (s : State) (f : Stk → Stk) : (s.onStk f).tp = s.tp :=
    (fun m => (rfl : ({ s with stk := m } : State).tp = s.tp)) (s.onStk f).stk
@[simp] theorem onStk_spates (s : State) (f : Stk → Stk) : (s.onStk f).spates = s.spates :=
    (fun m => (rfl : ({ s with stk := m } : State).spates = s.spates)) (s.onStk f).stk
@[simp] theorem onStk_fiddles (s : State) (f : Stk → Stk) : (s.onStk f).fiddles = s.fiddles :=
    (fun m => (rfl : ({ s with stk := m } : State).fiddles = s.fiddles)) (s.onStk f).stk
@[simp] theorem onStk_spent (s : State) (f : Stk → Stk) : (s.onStk f).spent = s.spent :=
    (fun m => (rfl : ({ s with stk := m } : State).spent = s.spent)) (s.onStk f).stk
@[simp] theorem onStk_eng (s : State) (f : Stk → Stk) : (s.onStk f).eng = s.eng :=
    (fun m => (rfl : ({ s with stk := m } : State).eng = s.eng)) (s.onStk f).stk
@[simp] theorem onStk_stage (s : State) (f : Stk → Stk) : (s.onStk f).stage = s.stage :=
    (fun m => (rfl : ({ s with stk := m } : State).stage = s.stage)) (s.onStk f).stk
@[simp] theorem onStk_flash (s : State) (f : Stk → Stk) : (s.onStk f).flash = s.flash :=
    (fun m => (rfl : ({ s with stk := m } : State).flash = s.flash)) (s.onStk f).stk
@[simp] theorem onStk_streams (s : State) (f : Stk → Stk) : (s.onStk f).streams = s.streams :=
    (fun m => (rfl : ({ s with stk := m } : State).streams = s.streams)) (s.onStk f).stk
@[simp] theorem onStk_absent (s : State) (f : Stk → Stk) : (s.onStk f).absent = s.absent :=
    (fun m => (rfl : ({ s with stk := m } : State).absent = s.absent)) (s.onStk f).stk
@[simp] theorem onStk_peers (s : State) (f : Stk → Stk) : (s.onStk f).peers = s.peers :=
    (fun m => (rfl : ({ s with stk := m } : State).peers = s.peers)) (s.onStk f).stk
@[simp] theorem onStk_drains (s : State) (f : Stk → Stk) : (s.onStk f).drains = s.drains :=
    (fun m => (rfl : ({ s with stk := m } : State).drains = s.drains)) (s.onStk f).stk
@[simp] theorem onStk_chans (s : State) (f : Stk → Stk) : (s.onStk f).chans = s.chans :=
    (fun m => (rfl : ({ s with stk := m } : State).chans = s.chans)) (s.onStk f).stk
@[simp] theorem onStk_scrub (s : State) (f : Stk → Stk) : (s.onStk f).scrub = s.scrub :=
    (fun m => (rfl : ({ s with stk := m } : State).scrub = s.scrub)) (s.onStk f).stk
@[simp] theorem onStk_tablesLost (s : State) (f : Stk → Stk) : (s.onStk f).tablesLost = s.tablesLost :=
    (fun m => (rfl : ({ s with stk := m } : State).tablesLost = s.tablesLost)) (s.onStk f).stk
@[simp] theorem onStk_supply (s : State) (f : Stk → Stk) : (s.onStk f).supply = s.supply :=
    (fun m => (rfl : ({ s with stk := m } : State).supply = s.supply)) (s.onStk f).stk
@[simp] theorem onStk_stk (s : State) (f : Stk → Stk) : (s.onStk f).stk = f s.stk := rfl
@[simp] theorem onStk_sec (s : State) (f : Stk → Stk) : (s.onStk f).sec = s.sec :=
    (fun m => (rfl : ({ s with stk := m } : State).sec = s.sec)) (s.onStk f).stk
@[simp] theorem onStk_recd (s : State) (f : Stk → Stk) : (s.onStk f).recd = s.recd :=
    (fun m => (rfl : ({ s with stk := m } : State).recd = s.recd)) (s.onStk f).stk
@[simp] theorem onStk_pins (s : State) (f : Stk → Stk) : (s.onStk f).pins = s.pins :=
    (fun m => (rfl : ({ s with stk := m } : State).pins = s.pins)) (s.onStk f).stk
@[simp] theorem onStk_pending (s : State) (f : Stk → Stk) : (s.onStk f).pending = s.pending :=
    (fun m => (rfl : ({ s with stk := m } : State).pending = s.pending)) (s.onStk f).stk

/-! The supply side changed. -/

@[simp] theorem onSupply_ctl (s : State) (f : Supply → Supply) : (s.onSupply f).ctl = s.ctl :=
    (fun m => (rfl : ({ s with supply := m } : State).ctl = s.ctl)) (s.onSupply f).supply
@[simp] theorem onSupply_written (s : State) (f : Supply → Supply) : (s.onSupply f).written = s.written :=
    (fun m => (rfl : ({ s with supply := m } : State).written = s.written)) (s.onSupply f).supply
@[simp] theorem onSupply_out (s : State) (f : Supply → Supply) : (s.onSupply f).out = s.out :=
    (fun m => (rfl : ({ s with supply := m } : State).out = s.out)) (s.onSupply f).supply
@[simp] theorem onSupply_fv (s : State) (f : Supply → Supply) : (s.onSupply f).fv = s.fv :=
    (fun m => (rfl : ({ s with supply := m } : State).fv = s.fv)) (s.onSupply f).supply
@[simp] theorem onSupply_time (s : State) (f : Supply → Supply) : (s.onSupply f).time = s.time :=
    (fun m => (rfl : ({ s with supply := m } : State).time = s.time)) (s.onSupply f).supply
@[simp] theorem onSupply_strapX (s : State) (f : Supply → Supply) : (s.onSupply f).strapX = s.strapX :=
    (fun m => (rfl : ({ s with supply := m } : State).strapX = s.strapX)) (s.onSupply f).supply
@[simp] theorem onSupply_strapY (s : State) (f : Supply → Supply) : (s.onSupply f).strapY = s.strapY :=
    (fun m => (rfl : ({ s with supply := m } : State).strapY = s.strapY)) (s.onSupply f).supply
@[simp] theorem onSupply_reach (s : State) (f : Supply → Supply) : (s.onSupply f).reach = s.reach :=
    (fun m => (rfl : ({ s with supply := m } : State).reach = s.reach)) (s.onSupply f).supply
@[simp] theorem onSupply_evq (s : State) (f : Supply → Supply) : (s.onSupply f).evq = s.evq :=
    (fun m => (rfl : ({ s with supply := m } : State).evq = s.evq)) (s.onSupply f).supply
@[simp] theorem onSupply_dram (s : State) (f : Supply → Supply) : (s.onSupply f).dram = s.dram :=
    (fun m => (rfl : ({ s with supply := m } : State).dram = s.dram)) (s.onSupply f).supply
@[simp] theorem onSupply_caches (s : State) (f : Supply → Supply) : (s.onSupply f).caches = s.caches :=
    (fun m => (rfl : ({ s with supply := m } : State).caches = s.caches)) (s.onSupply f).supply
@[simp] theorem onSupply_bufs (s : State) (f : Supply → Supply) : (s.onSupply f).bufs = s.bufs :=
    (fun m => (rfl : ({ s with supply := m } : State).bufs = s.bufs)) (s.onSupply f).supply
@[simp] theorem onSupply_twin (s : State) (f : Supply → Supply) : (s.onSupply f).twin = s.twin :=
    (fun m => (rfl : ({ s with supply := m } : State).twin = s.twin)) (s.onSupply f).supply
@[simp] theorem onSupply_parts (s : State) (f : Supply → Supply) : (s.onSupply f).parts = s.parts :=
    (fun m => (rfl : ({ s with supply := m } : State).parts = s.parts)) (s.onSupply f).supply
@[simp] theorem onSupply_nextPart (s : State) (f : Supply → Supply) : (s.onSupply f).nextPart = s.nextPart :=
    (fun m => (rfl : ({ s with supply := m } : State).nextPart = s.nextPart)) (s.onSupply f).supply
@[simp] theorem onSupply_logs (s : State) (f : Supply → Supply) : (s.onSupply f).logs = s.logs :=
    (fun m => (rfl : ({ s with supply := m } : State).logs = s.logs)) (s.onSupply f).supply
@[simp] theorem onSupply_queues (s : State) (f : Supply → Supply) : (s.onSupply f).queues = s.queues :=
    (fun m => (rfl : ({ s with supply := m } : State).queues = s.queues)) (s.onSupply f).supply
@[simp] theorem onSupply_rates (s : State) (f : Supply → Supply) : (s.onSupply f).rates = s.rates :=
    (fun m => (rfl : ({ s with supply := m } : State).rates = s.rates)) (s.onSupply f).supply
@[simp] theorem onSupply_icmp (s : State) (f : Supply → Supply) : (s.onSupply f).icmp = s.icmp :=
    (fun m => (rfl : ({ s with supply := m } : State).icmp = s.icmp)) (s.onSupply f).supply
@[simp] theorem onSupply_tp (s : State) (f : Supply → Supply) : (s.onSupply f).tp = s.tp :=
    (fun m => (rfl : ({ s with supply := m } : State).tp = s.tp)) (s.onSupply f).supply
@[simp] theorem onSupply_spates (s : State) (f : Supply → Supply) : (s.onSupply f).spates = s.spates :=
    (fun m => (rfl : ({ s with supply := m } : State).spates = s.spates)) (s.onSupply f).supply
@[simp] theorem onSupply_fiddles (s : State) (f : Supply → Supply) : (s.onSupply f).fiddles = s.fiddles :=
    (fun m => (rfl : ({ s with supply := m } : State).fiddles = s.fiddles)) (s.onSupply f).supply
@[simp] theorem onSupply_spent (s : State) (f : Supply → Supply) : (s.onSupply f).spent = s.spent :=
    (fun m => (rfl : ({ s with supply := m } : State).spent = s.spent)) (s.onSupply f).supply
@[simp] theorem onSupply_eng (s : State) (f : Supply → Supply) : (s.onSupply f).eng = s.eng :=
    (fun m => (rfl : ({ s with supply := m } : State).eng = s.eng)) (s.onSupply f).supply
@[simp] theorem onSupply_stage (s : State) (f : Supply → Supply) : (s.onSupply f).stage = s.stage :=
    (fun m => (rfl : ({ s with supply := m } : State).stage = s.stage)) (s.onSupply f).supply
@[simp] theorem onSupply_flash (s : State) (f : Supply → Supply) : (s.onSupply f).flash = s.flash :=
    (fun m => (rfl : ({ s with supply := m } : State).flash = s.flash)) (s.onSupply f).supply
@[simp] theorem onSupply_streams (s : State) (f : Supply → Supply) : (s.onSupply f).streams = s.streams :=
    (fun m => (rfl : ({ s with supply := m } : State).streams = s.streams)) (s.onSupply f).supply
@[simp] theorem onSupply_absent (s : State) (f : Supply → Supply) : (s.onSupply f).absent = s.absent :=
    (fun m => (rfl : ({ s with supply := m } : State).absent = s.absent)) (s.onSupply f).supply
@[simp] theorem onSupply_peers (s : State) (f : Supply → Supply) : (s.onSupply f).peers = s.peers :=
    (fun m => (rfl : ({ s with supply := m } : State).peers = s.peers)) (s.onSupply f).supply
@[simp] theorem onSupply_drains (s : State) (f : Supply → Supply) : (s.onSupply f).drains = s.drains :=
    (fun m => (rfl : ({ s with supply := m } : State).drains = s.drains)) (s.onSupply f).supply
@[simp] theorem onSupply_chans (s : State) (f : Supply → Supply) : (s.onSupply f).chans = s.chans :=
    (fun m => (rfl : ({ s with supply := m } : State).chans = s.chans)) (s.onSupply f).supply
@[simp] theorem onSupply_scrub (s : State) (f : Supply → Supply) : (s.onSupply f).scrub = s.scrub :=
    (fun m => (rfl : ({ s with supply := m } : State).scrub = s.scrub)) (s.onSupply f).supply
@[simp] theorem onSupply_tablesLost (s : State) (f : Supply → Supply) : (s.onSupply f).tablesLost = s.tablesLost :=
    (fun m => (rfl : ({ s with supply := m } : State).tablesLost = s.tablesLost)) (s.onSupply f).supply
@[simp] theorem onSupply_supply (s : State) (f : Supply → Supply) : (s.onSupply f).supply = f s.supply := rfl
@[simp] theorem onSupply_stk (s : State) (f : Supply → Supply) : (s.onSupply f).stk = s.stk :=
    (fun m => (rfl : ({ s with supply := m } : State).stk = s.stk)) (s.onSupply f).supply
@[simp] theorem onSupply_sec (s : State) (f : Supply → Supply) : (s.onSupply f).sec = s.sec :=
    (fun m => (rfl : ({ s with supply := m } : State).sec = s.sec)) (s.onSupply f).supply
@[simp] theorem onSupply_recd (s : State) (f : Supply → Supply) : (s.onSupply f).recd = s.recd :=
    (fun m => (rfl : ({ s with supply := m } : State).recd = s.recd)) (s.onSupply f).supply
@[simp] theorem onSupply_pins (s : State) (f : Supply → Supply) : (s.onSupply f).pins = s.pins :=
    (fun m => (rfl : ({ s with supply := m } : State).pins = s.pins)) (s.onSupply f).supply
@[simp] theorem onSupply_pending (s : State) (f : Supply → Supply) : (s.onSupply f).pending = s.pending :=
    (fun m => (rfl : ({ s with supply := m } : State).pending = s.pending)) (s.onSupply f).supply

/-! The recorder changed. -/

@[simp] theorem onRec_ctl (s : State) (f : Recorder → Recorder) : (s.onRec f).ctl = s.ctl :=
    (fun m => (rfl : ({ s with recd := m } : State).ctl = s.ctl)) (s.onRec f).recd
@[simp] theorem onRec_written (s : State) (f : Recorder → Recorder) : (s.onRec f).written = s.written :=
    (fun m => (rfl : ({ s with recd := m } : State).written = s.written)) (s.onRec f).recd
@[simp] theorem onRec_out (s : State) (f : Recorder → Recorder) : (s.onRec f).out = s.out :=
    (fun m => (rfl : ({ s with recd := m } : State).out = s.out)) (s.onRec f).recd
@[simp] theorem onRec_fv (s : State) (f : Recorder → Recorder) : (s.onRec f).fv = s.fv :=
    (fun m => (rfl : ({ s with recd := m } : State).fv = s.fv)) (s.onRec f).recd
@[simp] theorem onRec_time (s : State) (f : Recorder → Recorder) : (s.onRec f).time = s.time :=
    (fun m => (rfl : ({ s with recd := m } : State).time = s.time)) (s.onRec f).recd
@[simp] theorem onRec_strapX (s : State) (f : Recorder → Recorder) : (s.onRec f).strapX = s.strapX :=
    (fun m => (rfl : ({ s with recd := m } : State).strapX = s.strapX)) (s.onRec f).recd
@[simp] theorem onRec_strapY (s : State) (f : Recorder → Recorder) : (s.onRec f).strapY = s.strapY :=
    (fun m => (rfl : ({ s with recd := m } : State).strapY = s.strapY)) (s.onRec f).recd
@[simp] theorem onRec_reach (s : State) (f : Recorder → Recorder) : (s.onRec f).reach = s.reach :=
    (fun m => (rfl : ({ s with recd := m } : State).reach = s.reach)) (s.onRec f).recd
@[simp] theorem onRec_evq (s : State) (f : Recorder → Recorder) : (s.onRec f).evq = s.evq :=
    (fun m => (rfl : ({ s with recd := m } : State).evq = s.evq)) (s.onRec f).recd
@[simp] theorem onRec_dram (s : State) (f : Recorder → Recorder) : (s.onRec f).dram = s.dram :=
    (fun m => (rfl : ({ s with recd := m } : State).dram = s.dram)) (s.onRec f).recd
@[simp] theorem onRec_caches (s : State) (f : Recorder → Recorder) : (s.onRec f).caches = s.caches :=
    (fun m => (rfl : ({ s with recd := m } : State).caches = s.caches)) (s.onRec f).recd
@[simp] theorem onRec_bufs (s : State) (f : Recorder → Recorder) : (s.onRec f).bufs = s.bufs :=
    (fun m => (rfl : ({ s with recd := m } : State).bufs = s.bufs)) (s.onRec f).recd
@[simp] theorem onRec_twin (s : State) (f : Recorder → Recorder) : (s.onRec f).twin = s.twin :=
    (fun m => (rfl : ({ s with recd := m } : State).twin = s.twin)) (s.onRec f).recd
@[simp] theorem onRec_parts (s : State) (f : Recorder → Recorder) : (s.onRec f).parts = s.parts :=
    (fun m => (rfl : ({ s with recd := m } : State).parts = s.parts)) (s.onRec f).recd
@[simp] theorem onRec_nextPart (s : State) (f : Recorder → Recorder) : (s.onRec f).nextPart = s.nextPart :=
    (fun m => (rfl : ({ s with recd := m } : State).nextPart = s.nextPart)) (s.onRec f).recd
@[simp] theorem onRec_logs (s : State) (f : Recorder → Recorder) : (s.onRec f).logs = s.logs :=
    (fun m => (rfl : ({ s with recd := m } : State).logs = s.logs)) (s.onRec f).recd
@[simp] theorem onRec_queues (s : State) (f : Recorder → Recorder) : (s.onRec f).queues = s.queues :=
    (fun m => (rfl : ({ s with recd := m } : State).queues = s.queues)) (s.onRec f).recd
@[simp] theorem onRec_rates (s : State) (f : Recorder → Recorder) : (s.onRec f).rates = s.rates :=
    (fun m => (rfl : ({ s with recd := m } : State).rates = s.rates)) (s.onRec f).recd
@[simp] theorem onRec_icmp (s : State) (f : Recorder → Recorder) : (s.onRec f).icmp = s.icmp :=
    (fun m => (rfl : ({ s with recd := m } : State).icmp = s.icmp)) (s.onRec f).recd
@[simp] theorem onRec_tp (s : State) (f : Recorder → Recorder) : (s.onRec f).tp = s.tp :=
    (fun m => (rfl : ({ s with recd := m } : State).tp = s.tp)) (s.onRec f).recd
@[simp] theorem onRec_spates (s : State) (f : Recorder → Recorder) : (s.onRec f).spates = s.spates :=
    (fun m => (rfl : ({ s with recd := m } : State).spates = s.spates)) (s.onRec f).recd
@[simp] theorem onRec_fiddles (s : State) (f : Recorder → Recorder) : (s.onRec f).fiddles = s.fiddles :=
    (fun m => (rfl : ({ s with recd := m } : State).fiddles = s.fiddles)) (s.onRec f).recd
@[simp] theorem onRec_spent (s : State) (f : Recorder → Recorder) : (s.onRec f).spent = s.spent :=
    (fun m => (rfl : ({ s with recd := m } : State).spent = s.spent)) (s.onRec f).recd
@[simp] theorem onRec_eng (s : State) (f : Recorder → Recorder) : (s.onRec f).eng = s.eng :=
    (fun m => (rfl : ({ s with recd := m } : State).eng = s.eng)) (s.onRec f).recd
@[simp] theorem onRec_stage (s : State) (f : Recorder → Recorder) : (s.onRec f).stage = s.stage :=
    (fun m => (rfl : ({ s with recd := m } : State).stage = s.stage)) (s.onRec f).recd
@[simp] theorem onRec_flash (s : State) (f : Recorder → Recorder) : (s.onRec f).flash = s.flash :=
    (fun m => (rfl : ({ s with recd := m } : State).flash = s.flash)) (s.onRec f).recd
@[simp] theorem onRec_streams (s : State) (f : Recorder → Recorder) : (s.onRec f).streams = s.streams :=
    (fun m => (rfl : ({ s with recd := m } : State).streams = s.streams)) (s.onRec f).recd
@[simp] theorem onRec_absent (s : State) (f : Recorder → Recorder) : (s.onRec f).absent = s.absent :=
    (fun m => (rfl : ({ s with recd := m } : State).absent = s.absent)) (s.onRec f).recd
@[simp] theorem onRec_peers (s : State) (f : Recorder → Recorder) : (s.onRec f).peers = s.peers :=
    (fun m => (rfl : ({ s with recd := m } : State).peers = s.peers)) (s.onRec f).recd
@[simp] theorem onRec_drains (s : State) (f : Recorder → Recorder) : (s.onRec f).drains = s.drains :=
    (fun m => (rfl : ({ s with recd := m } : State).drains = s.drains)) (s.onRec f).recd
@[simp] theorem onRec_chans (s : State) (f : Recorder → Recorder) : (s.onRec f).chans = s.chans :=
    (fun m => (rfl : ({ s with recd := m } : State).chans = s.chans)) (s.onRec f).recd
@[simp] theorem onRec_scrub (s : State) (f : Recorder → Recorder) : (s.onRec f).scrub = s.scrub :=
    (fun m => (rfl : ({ s with recd := m } : State).scrub = s.scrub)) (s.onRec f).recd
@[simp] theorem onRec_tablesLost (s : State) (f : Recorder → Recorder) : (s.onRec f).tablesLost = s.tablesLost :=
    (fun m => (rfl : ({ s with recd := m } : State).tablesLost = s.tablesLost)) (s.onRec f).recd
@[simp] theorem onRec_supply (s : State) (f : Recorder → Recorder) : (s.onRec f).supply = s.supply :=
    (fun m => (rfl : ({ s with recd := m } : State).supply = s.supply)) (s.onRec f).recd
@[simp] theorem onRec_stk (s : State) (f : Recorder → Recorder) : (s.onRec f).stk = s.stk :=
    (fun m => (rfl : ({ s with recd := m } : State).stk = s.stk)) (s.onRec f).recd
@[simp] theorem onRec_sec (s : State) (f : Recorder → Recorder) : (s.onRec f).sec = s.sec :=
    (fun m => (rfl : ({ s with recd := m } : State).sec = s.sec)) (s.onRec f).recd
@[simp] theorem onRec_recd (s : State) (f : Recorder → Recorder) : (s.onRec f).recd = f s.recd := rfl
@[simp] theorem onRec_pins (s : State) (f : Recorder → Recorder) : (s.onRec f).pins = s.pins :=
    (fun m => (rfl : ({ s with recd := m } : State).pins = s.pins)) (s.onRec f).recd
@[simp] theorem onRec_pending (s : State) (f : Recorder → Recorder) : (s.onRec f).pending = s.pending :=
    (fun m => (rfl : ({ s with recd := m } : State).pending = s.pending)) (s.onRec f).recd

/-! The open frame changed. -/

@[simp] theorem onFrame_ctl (s : State) (f : Frame → Frame) : (s.onFrame f).ctl = s.ctl :=
    (fun m => (rfl : ({ s with recd := m } : State).ctl = s.ctl)) (s.onFrame f).recd
@[simp] theorem onFrame_written (s : State) (f : Frame → Frame) : (s.onFrame f).written = s.written :=
    (fun m => (rfl : ({ s with recd := m } : State).written = s.written)) (s.onFrame f).recd
@[simp] theorem onFrame_out (s : State) (f : Frame → Frame) : (s.onFrame f).out = s.out :=
    (fun m => (rfl : ({ s with recd := m } : State).out = s.out)) (s.onFrame f).recd
@[simp] theorem onFrame_fv (s : State) (f : Frame → Frame) : (s.onFrame f).fv = s.fv :=
    (fun m => (rfl : ({ s with recd := m } : State).fv = s.fv)) (s.onFrame f).recd
@[simp] theorem onFrame_time (s : State) (f : Frame → Frame) : (s.onFrame f).time = s.time :=
    (fun m => (rfl : ({ s with recd := m } : State).time = s.time)) (s.onFrame f).recd
@[simp] theorem onFrame_strapX (s : State) (f : Frame → Frame) : (s.onFrame f).strapX = s.strapX :=
    (fun m => (rfl : ({ s with recd := m } : State).strapX = s.strapX)) (s.onFrame f).recd
@[simp] theorem onFrame_strapY (s : State) (f : Frame → Frame) : (s.onFrame f).strapY = s.strapY :=
    (fun m => (rfl : ({ s with recd := m } : State).strapY = s.strapY)) (s.onFrame f).recd
@[simp] theorem onFrame_reach (s : State) (f : Frame → Frame) : (s.onFrame f).reach = s.reach :=
    (fun m => (rfl : ({ s with recd := m } : State).reach = s.reach)) (s.onFrame f).recd
@[simp] theorem onFrame_evq (s : State) (f : Frame → Frame) : (s.onFrame f).evq = s.evq :=
    (fun m => (rfl : ({ s with recd := m } : State).evq = s.evq)) (s.onFrame f).recd
@[simp] theorem onFrame_dram (s : State) (f : Frame → Frame) : (s.onFrame f).dram = s.dram :=
    (fun m => (rfl : ({ s with recd := m } : State).dram = s.dram)) (s.onFrame f).recd
@[simp] theorem onFrame_caches (s : State) (f : Frame → Frame) : (s.onFrame f).caches = s.caches :=
    (fun m => (rfl : ({ s with recd := m } : State).caches = s.caches)) (s.onFrame f).recd
@[simp] theorem onFrame_bufs (s : State) (f : Frame → Frame) : (s.onFrame f).bufs = s.bufs :=
    (fun m => (rfl : ({ s with recd := m } : State).bufs = s.bufs)) (s.onFrame f).recd
@[simp] theorem onFrame_twin (s : State) (f : Frame → Frame) : (s.onFrame f).twin = s.twin :=
    (fun m => (rfl : ({ s with recd := m } : State).twin = s.twin)) (s.onFrame f).recd
@[simp] theorem onFrame_parts (s : State) (f : Frame → Frame) : (s.onFrame f).parts = s.parts :=
    (fun m => (rfl : ({ s with recd := m } : State).parts = s.parts)) (s.onFrame f).recd
@[simp] theorem onFrame_nextPart (s : State) (f : Frame → Frame) : (s.onFrame f).nextPart = s.nextPart :=
    (fun m => (rfl : ({ s with recd := m } : State).nextPart = s.nextPart)) (s.onFrame f).recd
@[simp] theorem onFrame_logs (s : State) (f : Frame → Frame) : (s.onFrame f).logs = s.logs :=
    (fun m => (rfl : ({ s with recd := m } : State).logs = s.logs)) (s.onFrame f).recd
@[simp] theorem onFrame_queues (s : State) (f : Frame → Frame) : (s.onFrame f).queues = s.queues :=
    (fun m => (rfl : ({ s with recd := m } : State).queues = s.queues)) (s.onFrame f).recd
@[simp] theorem onFrame_rates (s : State) (f : Frame → Frame) : (s.onFrame f).rates = s.rates :=
    (fun m => (rfl : ({ s with recd := m } : State).rates = s.rates)) (s.onFrame f).recd
@[simp] theorem onFrame_icmp (s : State) (f : Frame → Frame) : (s.onFrame f).icmp = s.icmp :=
    (fun m => (rfl : ({ s with recd := m } : State).icmp = s.icmp)) (s.onFrame f).recd
@[simp] theorem onFrame_tp (s : State) (f : Frame → Frame) : (s.onFrame f).tp = s.tp :=
    (fun m => (rfl : ({ s with recd := m } : State).tp = s.tp)) (s.onFrame f).recd
@[simp] theorem onFrame_spates (s : State) (f : Frame → Frame) : (s.onFrame f).spates = s.spates :=
    (fun m => (rfl : ({ s with recd := m } : State).spates = s.spates)) (s.onFrame f).recd
@[simp] theorem onFrame_fiddles (s : State) (f : Frame → Frame) : (s.onFrame f).fiddles = s.fiddles :=
    (fun m => (rfl : ({ s with recd := m } : State).fiddles = s.fiddles)) (s.onFrame f).recd
@[simp] theorem onFrame_spent (s : State) (f : Frame → Frame) : (s.onFrame f).spent = s.spent :=
    (fun m => (rfl : ({ s with recd := m } : State).spent = s.spent)) (s.onFrame f).recd
@[simp] theorem onFrame_eng (s : State) (f : Frame → Frame) : (s.onFrame f).eng = s.eng :=
    (fun m => (rfl : ({ s with recd := m } : State).eng = s.eng)) (s.onFrame f).recd
@[simp] theorem onFrame_stage (s : State) (f : Frame → Frame) : (s.onFrame f).stage = s.stage :=
    (fun m => (rfl : ({ s with recd := m } : State).stage = s.stage)) (s.onFrame f).recd
@[simp] theorem onFrame_flash (s : State) (f : Frame → Frame) : (s.onFrame f).flash = s.flash :=
    (fun m => (rfl : ({ s with recd := m } : State).flash = s.flash)) (s.onFrame f).recd
@[simp] theorem onFrame_streams (s : State) (f : Frame → Frame) : (s.onFrame f).streams = s.streams :=
    (fun m => (rfl : ({ s with recd := m } : State).streams = s.streams)) (s.onFrame f).recd
@[simp] theorem onFrame_absent (s : State) (f : Frame → Frame) : (s.onFrame f).absent = s.absent :=
    (fun m => (rfl : ({ s with recd := m } : State).absent = s.absent)) (s.onFrame f).recd
@[simp] theorem onFrame_peers (s : State) (f : Frame → Frame) : (s.onFrame f).peers = s.peers :=
    (fun m => (rfl : ({ s with recd := m } : State).peers = s.peers)) (s.onFrame f).recd
@[simp] theorem onFrame_drains (s : State) (f : Frame → Frame) : (s.onFrame f).drains = s.drains :=
    (fun m => (rfl : ({ s with recd := m } : State).drains = s.drains)) (s.onFrame f).recd
@[simp] theorem onFrame_chans (s : State) (f : Frame → Frame) : (s.onFrame f).chans = s.chans :=
    (fun m => (rfl : ({ s with recd := m } : State).chans = s.chans)) (s.onFrame f).recd
@[simp] theorem onFrame_scrub (s : State) (f : Frame → Frame) : (s.onFrame f).scrub = s.scrub :=
    (fun m => (rfl : ({ s with recd := m } : State).scrub = s.scrub)) (s.onFrame f).recd
@[simp] theorem onFrame_tablesLost (s : State) (f : Frame → Frame) : (s.onFrame f).tablesLost = s.tablesLost :=
    (fun m => (rfl : ({ s with recd := m } : State).tablesLost = s.tablesLost)) (s.onFrame f).recd
@[simp] theorem onFrame_supply (s : State) (f : Frame → Frame) : (s.onFrame f).supply = s.supply :=
    (fun m => (rfl : ({ s with recd := m } : State).supply = s.supply)) (s.onFrame f).recd
@[simp] theorem onFrame_stk (s : State) (f : Frame → Frame) : (s.onFrame f).stk = s.stk :=
    (fun m => (rfl : ({ s with recd := m } : State).stk = s.stk)) (s.onFrame f).recd
@[simp] theorem onFrame_sec (s : State) (f : Frame → Frame) : (s.onFrame f).sec = s.sec :=
    (fun m => (rfl : ({ s with recd := m } : State).sec = s.sec)) (s.onFrame f).recd
@[simp] theorem onFrame_recd (s : State) (f : Frame → Frame) : (s.onFrame f).recd = { s.recd with frame := f s.recd.frame } := rfl
@[simp] theorem onFrame_pins (s : State) (f : Frame → Frame) : (s.onFrame f).pins = s.pins :=
    (fun m => (rfl : ({ s with recd := m } : State).pins = s.pins)) (s.onFrame f).recd
@[simp] theorem onFrame_pending (s : State) (f : Frame → Frame) : (s.onFrame f).pending = s.pending :=
    (fun m => (rfl : ({ s with recd := m } : State).pending = s.pending)) (s.onFrame f).recd

/-! The staged state changed. -/

@[simp] theorem onStage_ctl (s : State) (f : Stage → Stage) : (s.onStage f).ctl = s.ctl :=
    (fun m => (rfl : ({ s with stage := m } : State).ctl = s.ctl)) (s.onStage f).stage
@[simp] theorem onStage_written (s : State) (f : Stage → Stage) : (s.onStage f).written = s.written :=
    (fun m => (rfl : ({ s with stage := m } : State).written = s.written)) (s.onStage f).stage
@[simp] theorem onStage_out (s : State) (f : Stage → Stage) : (s.onStage f).out = s.out :=
    (fun m => (rfl : ({ s with stage := m } : State).out = s.out)) (s.onStage f).stage
@[simp] theorem onStage_fv (s : State) (f : Stage → Stage) : (s.onStage f).fv = s.fv :=
    (fun m => (rfl : ({ s with stage := m } : State).fv = s.fv)) (s.onStage f).stage
@[simp] theorem onStage_time (s : State) (f : Stage → Stage) : (s.onStage f).time = s.time :=
    (fun m => (rfl : ({ s with stage := m } : State).time = s.time)) (s.onStage f).stage
@[simp] theorem onStage_strapX (s : State) (f : Stage → Stage) : (s.onStage f).strapX = s.strapX :=
    (fun m => (rfl : ({ s with stage := m } : State).strapX = s.strapX)) (s.onStage f).stage
@[simp] theorem onStage_strapY (s : State) (f : Stage → Stage) : (s.onStage f).strapY = s.strapY :=
    (fun m => (rfl : ({ s with stage := m } : State).strapY = s.strapY)) (s.onStage f).stage
@[simp] theorem onStage_reach (s : State) (f : Stage → Stage) : (s.onStage f).reach = s.reach :=
    (fun m => (rfl : ({ s with stage := m } : State).reach = s.reach)) (s.onStage f).stage
@[simp] theorem onStage_evq (s : State) (f : Stage → Stage) : (s.onStage f).evq = s.evq :=
    (fun m => (rfl : ({ s with stage := m } : State).evq = s.evq)) (s.onStage f).stage
@[simp] theorem onStage_dram (s : State) (f : Stage → Stage) : (s.onStage f).dram = s.dram :=
    (fun m => (rfl : ({ s with stage := m } : State).dram = s.dram)) (s.onStage f).stage
@[simp] theorem onStage_caches (s : State) (f : Stage → Stage) : (s.onStage f).caches = s.caches :=
    (fun m => (rfl : ({ s with stage := m } : State).caches = s.caches)) (s.onStage f).stage
@[simp] theorem onStage_bufs (s : State) (f : Stage → Stage) : (s.onStage f).bufs = s.bufs :=
    (fun m => (rfl : ({ s with stage := m } : State).bufs = s.bufs)) (s.onStage f).stage
@[simp] theorem onStage_twin (s : State) (f : Stage → Stage) : (s.onStage f).twin = s.twin :=
    (fun m => (rfl : ({ s with stage := m } : State).twin = s.twin)) (s.onStage f).stage
@[simp] theorem onStage_parts (s : State) (f : Stage → Stage) : (s.onStage f).parts = s.parts :=
    (fun m => (rfl : ({ s with stage := m } : State).parts = s.parts)) (s.onStage f).stage
@[simp] theorem onStage_nextPart (s : State) (f : Stage → Stage) : (s.onStage f).nextPart = s.nextPart :=
    (fun m => (rfl : ({ s with stage := m } : State).nextPart = s.nextPart)) (s.onStage f).stage
@[simp] theorem onStage_logs (s : State) (f : Stage → Stage) : (s.onStage f).logs = s.logs :=
    (fun m => (rfl : ({ s with stage := m } : State).logs = s.logs)) (s.onStage f).stage
@[simp] theorem onStage_queues (s : State) (f : Stage → Stage) : (s.onStage f).queues = s.queues :=
    (fun m => (rfl : ({ s with stage := m } : State).queues = s.queues)) (s.onStage f).stage
@[simp] theorem onStage_rates (s : State) (f : Stage → Stage) : (s.onStage f).rates = s.rates :=
    (fun m => (rfl : ({ s with stage := m } : State).rates = s.rates)) (s.onStage f).stage
@[simp] theorem onStage_icmp (s : State) (f : Stage → Stage) : (s.onStage f).icmp = s.icmp :=
    (fun m => (rfl : ({ s with stage := m } : State).icmp = s.icmp)) (s.onStage f).stage
@[simp] theorem onStage_tp (s : State) (f : Stage → Stage) : (s.onStage f).tp = s.tp :=
    (fun m => (rfl : ({ s with stage := m } : State).tp = s.tp)) (s.onStage f).stage
@[simp] theorem onStage_spates (s : State) (f : Stage → Stage) : (s.onStage f).spates = s.spates :=
    (fun m => (rfl : ({ s with stage := m } : State).spates = s.spates)) (s.onStage f).stage
@[simp] theorem onStage_fiddles (s : State) (f : Stage → Stage) : (s.onStage f).fiddles = s.fiddles :=
    (fun m => (rfl : ({ s with stage := m } : State).fiddles = s.fiddles)) (s.onStage f).stage
@[simp] theorem onStage_spent (s : State) (f : Stage → Stage) : (s.onStage f).spent = s.spent :=
    (fun m => (rfl : ({ s with stage := m } : State).spent = s.spent)) (s.onStage f).stage
@[simp] theorem onStage_eng (s : State) (f : Stage → Stage) : (s.onStage f).eng = s.eng :=
    (fun m => (rfl : ({ s with stage := m } : State).eng = s.eng)) (s.onStage f).stage
@[simp] theorem onStage_stage (s : State) (f : Stage → Stage) : (s.onStage f).stage = f s.stage := rfl
@[simp] theorem onStage_flash (s : State) (f : Stage → Stage) : (s.onStage f).flash = s.flash :=
    (fun m => (rfl : ({ s with stage := m } : State).flash = s.flash)) (s.onStage f).stage
@[simp] theorem onStage_streams (s : State) (f : Stage → Stage) : (s.onStage f).streams = s.streams :=
    (fun m => (rfl : ({ s with stage := m } : State).streams = s.streams)) (s.onStage f).stage
@[simp] theorem onStage_absent (s : State) (f : Stage → Stage) : (s.onStage f).absent = s.absent :=
    (fun m => (rfl : ({ s with stage := m } : State).absent = s.absent)) (s.onStage f).stage
@[simp] theorem onStage_peers (s : State) (f : Stage → Stage) : (s.onStage f).peers = s.peers :=
    (fun m => (rfl : ({ s with stage := m } : State).peers = s.peers)) (s.onStage f).stage
@[simp] theorem onStage_drains (s : State) (f : Stage → Stage) : (s.onStage f).drains = s.drains :=
    (fun m => (rfl : ({ s with stage := m } : State).drains = s.drains)) (s.onStage f).stage
@[simp] theorem onStage_chans (s : State) (f : Stage → Stage) : (s.onStage f).chans = s.chans :=
    (fun m => (rfl : ({ s with stage := m } : State).chans = s.chans)) (s.onStage f).stage
@[simp] theorem onStage_scrub (s : State) (f : Stage → Stage) : (s.onStage f).scrub = s.scrub :=
    (fun m => (rfl : ({ s with stage := m } : State).scrub = s.scrub)) (s.onStage f).stage
@[simp] theorem onStage_tablesLost (s : State) (f : Stage → Stage) : (s.onStage f).tablesLost = s.tablesLost :=
    (fun m => (rfl : ({ s with stage := m } : State).tablesLost = s.tablesLost)) (s.onStage f).stage
@[simp] theorem onStage_supply (s : State) (f : Stage → Stage) : (s.onStage f).supply = s.supply :=
    (fun m => (rfl : ({ s with stage := m } : State).supply = s.supply)) (s.onStage f).stage
@[simp] theorem onStage_stk (s : State) (f : Stage → Stage) : (s.onStage f).stk = s.stk :=
    (fun m => (rfl : ({ s with stage := m } : State).stk = s.stk)) (s.onStage f).stage
@[simp] theorem onStage_sec (s : State) (f : Stage → Stage) : (s.onStage f).sec = s.sec :=
    (fun m => (rfl : ({ s with stage := m } : State).sec = s.sec)) (s.onStage f).stage
@[simp] theorem onStage_recd (s : State) (f : Stage → Stage) : (s.onStage f).recd = s.recd :=
    (fun m => (rfl : ({ s with stage := m } : State).recd = s.recd)) (s.onStage f).stage
@[simp] theorem onStage_pins (s : State) (f : Stage → Stage) : (s.onStage f).pins = s.pins :=
    (fun m => (rfl : ({ s with stage := m } : State).pins = s.pins)) (s.onStage f).stage
@[simp] theorem onStage_pending (s : State) (f : Stage → Stage) : (s.onStage f).pending = s.pending :=
    (fun m => (rfl : ({ s with stage := m } : State).pending = s.pending)) (s.onStage f).stage

end Sys2Proof.Machine.State
end

