-- ==== Sys2Proof/Laws/Memory.lean ====
section
/-! SUPPORT. The bytes of the device's DRAM: a read after a write, what a write leaves alone, and the canonical form of memory, which
every write keeps. -/

namespace Sys2Proof.Machine

/-- A write gives its bytes to its addresses and leaves every other alone. -/
theorem get_writeMem (bs : List Byte) (m : SMap Byte) (a x : Nat) :
    (writeMem m a bs).get 0 x = if a ≤ x ∧ x < a + bs.length then bs.getD (x - a) 0 else m.get 0 x := by
  induction bs generalizing m a with
  | nil => simp [writeMem, show ¬ (a ≤ x ∧ x < a) by omega]
  | cons b t ih =>
    rw [writeMem, ih]
    rcases Nat.lt_trichotomy x a with h | rfl | h
    · rw [if_neg (by omega), if_neg (by omega), SMap.get_set_ne _ _ _ _ (by omega)]
    · simp
    · obtain ⟨d, rfl⟩ : ∃ d, x = a + 1 + d := ⟨x - (a + 1), by omega⟩
      rw [SMap.get_set_ne _ _ _ _ (by omega), show a + 1 + d - a = d + 1 by omega, Nat.add_sub_cancel_left]
      simp only [List.length_cons, List.getD_cons_succ]
      exact if_congr (by omega) rfl rfl

@[simp] theorem length_readMem (m : SMap Byte) (a n : Nat) : (readMem m a n).length = n := by
  induction n generalizing a with
  | zero => rfl
  | succ n ih => simp [readMem, ih]

/-- A byte of what is read is the byte at its address. -/
theorem getD_readMem (m : SMap Byte) (a n j : Nat) (h : j < n) : (readMem m a n).getD j 0 = m.get 0 (a + j) := by
  induction n generalizing a j with
  | zero => omega
  | succ n ih =>
    cases j with
    | zero => simp [readMem]
    | succ j => rw [readMem, List.getD_cons_succ, ih _ _ (by omega)]; congr 1; omega

/-- Reading where bytes were just written gives them. -/
theorem readMem_writeMem (m : SMap Byte) (a : Nat) (bs : List Byte) : readMem (writeMem m a bs) a bs.length = bs := by
  refine List.ext_getElem (by simp) fun j h1 h2 => ?_
  have h := getD_readMem (writeMem m a bs) a bs.length j h2
  rw [get_writeMem, if_pos (by omega), Nat.add_sub_cancel_left] at h
  rwa [List.getD_eq_getElem _ _ h1, List.getD_eq_getElem _ _ h2] at h

/-- A write keeps memory in its canonical form. -/
theorem Memory.wf_writeMem (bs : List Byte) (m : SMap Byte) (a : Nat) (h : Memory.wf m = true) : Memory.wf (writeMem m a bs) = true := by
  induction bs generalizing m a with
  | nil => exact h
  | cons b t ih => exact ih _ _ (SMap.wf_set a b h)

namespace State

/-- Bytes put into DRAM read back, and no other byte of it changes. -/
theorem readDram_setDram (s : State) (a : Nat) (bs : List Byte) : (s.setDram a bs).readDram a bs.length = bs := readMem_writeMem _ _ _
theorem setDram_beside (s : State) (a : Nat) (bs : List Byte) (x : Nat) (h : x < a ∨ a + bs.length ≤ x) :
    (s.setDram a bs).dram.mem.get 0 x = s.dram.mem.get 0 x := by
  rw [setDram_dram, get_writeMem, if_neg (by omega)]
theorem memWf_setDram (s : State) (a : Nat) (bs : List Byte) (h : Memory.wf s.dram.mem = true) :
    Memory.wf (s.setDram a bs).dram.mem = true := Memory.wf_writeMem _ _ _ h

end State

end Sys2Proof.Machine
end

