-- ==== Sys2Proof/Laws/Operations.lean ====
section
/-! SUPPORT. What the shared operations can do: of each, the part of the state that it leaves alone, and of those over tables what a
key reads as after. -/

namespace Sys2Proof

/-- A key of a map after a change of one listed key. -/
theorem SMap.at?_modify {α : Type} (m : SMap α) (k x : Nat) (f : α → α) :
    (m.modify k f).at? x = if x = k then (m.at? k).map f else m.at? x := by
  induction m with
  | nil => simp [modify, at?]
  | cons e t ih =>
    obtain ⟨a, b⟩ := e
    simp only [modify] at ih
    by_cases h : a = k
    · subst h
      by_cases hx : x = a
      · subst hx; simp [modify, at?]
      · simp [modify, at?, ih, hx, Ne.symm hx]
    · by_cases hx : x = k
      · subst hx; simp [modify, at?, ih, h]
      · simp [modify, at?, ih, h, hx]

namespace Machine.State

/-- The state but for what posting an event may change: control words, what is sent, the event ring and the counts of the open frame. -/
def quiet (s : State) : State :=
  { s with ctl := [], out := [], reach := [], evq := State.reset.evq, recd := State.reset.recd }
/-- And but for the line caches, and what they write back. -/
def uncached (s : State) : State :=
  { s.quiet with caches := [], dram := { s.dram with mem := [], poison := [] } }
/-- And but for the buffers of the pools. -/
def unpooled (s : State) : State := { s.quiet with bufs := [] }

/-! Fields, messages and events. -/

@[simp] theorem setWord_quiet (s : State) (k : Nat) (v : U64) : (s.setWord k v).quiet = s.quiet := by simp [quiet]
@[simp] theorem setF_quiet (s : State) (x : Fld) (v r w : Nat) : (s.setF x v r w).quiet = s.quiet := by simp [quiet]
@[simp] theorem bump_quiet (s : State) (x : Fld) (r n w : Nat) : (s.bump x r n w).quiet = s.quiet := by simp [quiet]
@[simp] theorem setBitF_quiet (s : State) (x : Fld) (r i : Nat) (b : Bool) : (s.setBitF x r i b).quiet = s.quiet := by simp [quiet]
@[simp] theorem emit_quiet (s : State) (m : Msg) : (s.emit m).quiet = s.quiet := by simp [quiet]
@[simp] theorem onFrame_quiet (s : State) (f : Frame → Frame) : (s.onFrame f).quiet = s.quiet := by simp [quiet]
@[simp] theorem onRec_quiet (s : State) (f : Recorder → Recorder) : (s.onRec f).quiet = s.quiet := by simp [quiet]
@[simp] theorem reachEvent_quiet (s : State) (c i : Nat) (d : List Nat) (n : Nat) : (s.reachEvent c i d n).quiet = s.quiet := by
  simp only [reachEvent, quiet]
@[simp] theorem eventLost_quiet (s : State) : s.eventLost.quiet = s.quiet := by simp [eventLost]

@[simp] theorem raiseMsix0_quiet (s : State) : s.raiseMsix0.quiet = s.quiet := by
  unfold raiseMsix0; split
  · split
    · rfl
    · simp [quiet]
  · simp [quiet]
@[simp] theorem eventWrite_quiet (s : State) (a c : Nat) (d : List Nat) : (s.eventWrite a c d).quiet = s.quiet := by
  unfold eventWrite; split
  · simp only [onFrame_quiet, raiseMsix0_quiet, emit_quiet]; simp only [quiet]
  · exact eventLost_quiet s
/-- An event is written to the ring, kept, lost and counted, or masked: nothing else changes (R217). -/
@[simp] theorem event_quiet (s : State) (c : Nat) (d : List Nat) : (s.event c d).quiet = s.quiet := by
  unfold event; split
  · rfl
  · split
    · split
      · simp only [quiet]
      · exact eventLost_quiet s
    · exact eventWrite_quiet _ _ _ _
/-- A masked event does nothing at all. -/
theorem event_masked (s : State) (c : Nat) (d : List Nat) (h : s.eventMasked c = true) : s.event c d = s := by
  simp [event, h]

/-- A message leaves everything but what is sent. -/
@[simp] theorem sendCascade_quiet (s : State) (d t : Nat) (a : List Nat) (b : List Byte) : (s.sendCascade d t a b).quiet = s.quiet := by
  unfold sendCascade; split
  · generalize s.others = l
    induction l generalizing s with
    | nil => rfl
    | cons e l ih => exact ih _
  · rfl

/-! Line caches. -/

theorem uncached_of_quiet {s t : State} (h : t.quiet = s.quiet) : t.uncached = s.uncached := by
  have hd : t.quiet.dram = s.quiet.dram := by rw [h]
  simp only [quiet] at hd
  simp only [uncached, h, hd]
@[simp] theorem setF_uncached (s : State) (x : Fld) (v r w : Nat) : (s.setF x v r w).uncached = s.uncached :=
  uncached_of_quiet (setF_quiet s x v r w)
@[simp] theorem bump_uncached (s : State) (x : Fld) (r n w : Nat) : (s.bump x r n w).uncached = s.uncached :=
  uncached_of_quiet (bump_quiet s x r n w)
@[simp] theorem event_uncached (s : State) (c : Nat) (d : List Nat) : (s.event c d).uncached = s.uncached :=
  uncached_of_quiet (event_quiet s c d)
@[simp] theorem setCache_uncached (s : State) (c : Nat) (x : Cache) : (s.setCache c x).uncached = s.uncached := by
  simp [uncached, quiet]
@[simp] theorem setDram_uncached (s : State) (a : Nat) (b : List Byte) : (s.setDram a b).uncached = s.uncached := by
  simp [uncached, quiet]
@[simp] theorem poisonCount_uncached (s : State) (r : Nat) (b : Bool) : (s.poisonCount r b).uncached = s.uncached := by
  simp [poisonCount]
@[simp] theorem clearPoison_uncached (s : State) (l : Nat) : (s.clearPoison l).uncached = s.uncached := by
  unfold clearPoison; split
  · simp only; split
    · simp only [poisonCount_uncached, bump_uncached]; simp only [uncached, quiet]
    · simp only [bump_uncached]; simp only [uncached, quiet]
  · rfl
@[simp] theorem wroteBack_uncached (s : State) (c l : Nat) : (s.wroteBack c l).uncached = s.uncached := by simp [wroteBack]
@[simp] theorem cacheFill_uncached (s : State) (c i l : Nat) (d : Option (List Byte)) (p : Bool) :
    (s.cacheFill c i l d p).uncached = s.uncached := by
  unfold cacheFill; simp only [setCache_uncached]; split <;> simp
@[simp] theorem cacheAlloc_uncached (s : State) (l : Nat) (d : Option (List Byte)) (p : Bool) :
    (s.cacheAlloc l d p).uncached = s.uncached := by
  unfold cacheAlloc; simp only; split
  · simp
  · split <;> simp
@[simp] theorem cacheHit_uncached (s : State) (c i : Nat) : (s.cacheHit c i).uncached = s.uncached := by
  unfold cacheHit; simp only [setCache_uncached]; split <;> simp
@[simp] theorem prefetch_uncached (s : State) (l m : Nat) : (s.prefetch l m).uncached = s.uncached := by
  unfold prefetch; simp only; split
  · split <;> simp
  · rfl
/-- A read through a line cache changes the cache, the lines that it writes back and its counters (R239 to R242). -/
@[simp] theorem cacheRead_uncached (s : State) (l m : Nat) : (s.cacheRead l m).uncached = s.uncached := by
  unfold cacheRead; simp only; split
  · rfl
  · split
    · simp
    · split <;> simp
/-- And so does a write (R239). -/
@[simp] theorem cacheWrite_uncached (s : State) (l m : Nat) (v a w : Bool) (o : List Byte) :
    (s.cacheWrite l m v a w o).uncached = s.uncached := by
  unfold cacheWrite; simp only; split
  · rfl
  · split
    · simp
    · split
      · split <;> simp
      · split <;> simp

/-! Buffer pools. -/

theorem unpooled_of_quiet {s t : State} (h : t.quiet = s.quiet) : t.unpooled = s.unpooled := by unfold unpooled; rw [h]
@[simp] theorem poolTake_quiet (s : State) (p n : Nat) : (s.poolTake p n).quiet = s.quiet := by simp [poolTake, poolLow]
@[simp] theorem poolFail_quiet (s : State) (p : Nat) : (s.poolFail p).quiet = s.quiet := by simp [poolFail]
@[simp] theorem poolDrained_quiet (s : State) (p : Nat) : (s.poolDrained p).quiet = s.quiet := by
  unfold poolDrained; split <;> simp
@[simp] theorem poolGive_quiet (s : State) (p n : Nat) : (s.poolGive p n).quiet = s.quiet := by simp [poolGive]
@[simp] theorem poolReject_quiet (s : State) (h w k : Nat) : (s.poolReject h w k).quiet = s.quiet := by
  unfold poolReject; simp only; split
  · simp
  · split <;> simp
@[simp] theorem poolNone_quiet (s : State) (h w : Nat) : (s.poolNone h w).quiet = s.quiet := by simp [poolNone]
@[simp] theorem poolGrant_unpooled (s : State) (h o : Nat) : (s.poolGrant h o).unpooled = s.unpooled := by
  simp [poolGrant, poolLow, unpooled, quiet]
/-- A free changes the buffers, its pool's words, and posts events (R257). -/
@[simp] theorem poolRelease_unpooled (s : State) (h : Nat) : (s.poolRelease h).unpooled = s.unpooled := by
  unfold poolRelease; simp only
  refine (unpooled_of_quiet (poolGive_quiet _ _ _)).trans ?_
  split <;> simp only [unpooled, quiet]
@[simp] theorem poolUnref_unpooled (s : State) (h w n : Nat) : (s.poolUnref h w n).unpooled = s.unpooled := by
  unfold poolUnref; split
  · split
    · exact unpooled_of_quiet (poolReject_quiet _ _ _ _)
    · split
      · exact unpooled_of_quiet (poolReject_quiet _ _ _ _)
      · split
        · exact poolRelease_unpooled _ _
        · simp only [unpooled, quiet]
  · exact unpooled_of_quiet (poolNone_quiet _ _ _)
@[simp] theorem poolPlainFree_unpooled (s : State) (h w : Nat) : (s.poolPlainFree h w).unpooled = s.unpooled := by
  unfold poolPlainFree; split
  · split
    · exact unpooled_of_quiet (poolReject_quiet _ _ _ _)
    · split
      · exact unpooled_of_quiet (poolReject_quiet _ _ _ _)
      · split
        · exact poolRelease_unpooled _ _
        · rfl
  · exact unpooled_of_quiet (poolNone_quiet _ _ _)

/-! Parts, threads and frames of the twin link. -/

/-- A store that has failed ends its thread's program and changes nothing else (R160, R162, R168). -/
theorem storeFails_frame (s : State) (t c : Nat) : s.storeFails t c = { s with eng := (s.storeFails t c).eng } := rfl
/-- A part that is complete: the parts change, and the thread whose store it was (R160). -/
theorem partDone_frame (s : State) (p c : Nat) (v : U64) (n : Nat) (d : List Byte) :
    s.partDone p c v n d = { s with parts := (s.partDone p c v n d).parts, eng := (s.partDone p c v n d).eng } := by
  unfold partDone; simp only; split
  · split
    · split <;> rfl
    · rfl
  · rfl
/-- It alone of the parts changes: it is done, with its code. -/
theorem partDone_at (s : State) (p c : Nat) (v : U64) (n : Nat) (d : List Byte) (x : Nat) :
    (s.partDone p c v n d).parts.at? x =
      if x = p then (s.parts.at? p).map fun y => { y with st := .done, code := c, result := v, doneLen := n, rdata := d }
      else s.parts.at? x := by
  have h : (s.partDone p c v n d).parts =
      s.parts.modify p fun y => { y with st := .done, code := c, result := v, doneLen := n, rdata := d } := by
    unfold partDone; simp only; split
    · split
      · split <;> rfl
      · rfl
    · rfl
  rw [h, SMap.at?_modify]

theorem linkTransmit_frame (s : State) (vc n : Nat) (m : Msg) :
    s.linkTransmit vc n m = { s with twin := (s.linkTransmit vc n m).twin, out := (s.linkTransmit vc n m).out } := rfl
/-- A frame goes out, waits or is lost: only the twin's side and what is sent change (R53). -/
theorem linkSend_frame (s : State) (t : Nat) (m : Msg) :
    s.linkSend t m = { s with twin := (s.linkSend t m).twin, out := (s.linkSend t m).out } := by
  unfold linkSend; simp only; split
  · rfl
  · split <;> rfl
theorem sendTwin_frame (s : State) (t : Nat) (a : List Nat) (b : List Byte) :
    s.sendTwin t a b = { s with twin := (s.sendTwin t a b).twin, out := (s.sendTwin t a b).out } := linkSend_frame _ _ _

end Machine.State

end Sys2Proof
end

