-- ==== Sys2Proof/Laws/Words.lean ====
section
/-! SUPPORT. Control words and fields: a read after a write; that the control words stay canonical. -/

namespace Sys2Proof.Machine.State

@[simp] theorem word_setWord_same (s : State) (k : Nat) (v : U64) : (s.setWord k v).word k = v := by
  simp [word, setWord]

theorem word_setWord_ne (s : State) {k k' : Nat} (v : U64) (h : k' ≠ k) : (s.setWord k v).word k' = s.word k' := by
  simp [word, setWord, SMap.get_set_ne _ _ _ _ h]

/-- A field whose word is another is not changed. -/
theorem f_setF_word (s : State) (x y : Fld) (v r w r' w' : Nat) (h : y.key r' w' ≠ x.key r w) :
    (s.setF x v r w).f y r' w' = s.f y r' w' := by
  simp only [f, setF, word_setWord_ne s _ h]

/-- A field of the same word beside it is not changed. -/
theorem f_setF_beside (s : State) (x y : Fld) (v r w r' w' : Nat) (hk : y.key r' w' = x.key r w) (h : x.lo ≤ x.hi)
    (h64 : y.hi < 64) (d : x.hi < y.lo ∨ y.hi < x.lo) : (s.setF x v r w).f y r' w' = s.f y r' w' := by
  simp only [f, setF, hk, word_setWord_same, BitVec.toNat_ofNat]
  rw [bits_mod _ _ _ _ h64, bits_setBits_other _ _ _ _ _ _ h d]

/-- A field reads as the low bits of what it was given. -/
theorem f_setF_same (s : State) (x : Fld) (v r w : Nat) (h : x.lo ≤ x.hi) (h64 : x.hi < 64) :
    (s.setF x v r w).f x r w = v % 2 ^ (x.hi + 1 - x.lo) := by
  simp only [f, setF, word_setWord_same, BitVec.toNat_ofNat]
  rw [bits_mod _ _ _ _ h64, bits_setBits_same _ _ _ _ h]

/-- A write changes the control words and nothing else. -/
theorem setF_frame (s : State) (x : Fld) (v r w : Nat) : s.setF x v r w = { s with ctl := (s.setF x v r w).ctl } := rfl
theorem bump_frame (s : State) (x : Fld) (r n w : Nat) : s.bump x r n w = { s with ctl := (s.bump x r n w).ctl } := rfl

theorem ctlWf_setWord {s : State} (k : Nat) (v : U64) (h : s.ctlWf = true) : (s.setWord k v).ctlWf = true := SMap.wf_set k v h
theorem ctlWf_setF {s : State} (x : Fld) (v r w : Nat) (h : s.ctlWf = true) : (s.setF x v r w).ctlWf = true := ctlWf_setWord _ _ h

end Sys2Proof.Machine.State
end

