-- ==== Sys2Proof/Laws/Sets.lean ====
section
/-! SUPPORT. What a list of field updates does to the control words. -/

namespace Sys2Proof.Machine

/-- A write of a field leaves every bit outside it. -/
theorem word_setF_beside (s : State) (x : Fld) (v r w k i : Nat) (h : x.lo ≤ x.hi)
    (d : ¬ (x.key r w = k ∧ x.lo ≤ i ∧ i ≤ x.hi)) : ((s.setF x v r w).word k).getLsbD i = (s.word k).getLsbD i := by
  by_cases hk : k = x.key r w
  · subst hk
    simp only [State.setF, State.word_setWord_same]
    by_cases h64 : i < 64
    · rw [BitVec.getLsbD_ofNat]
      simp only [h64, decide_true, Bool.true_and]
      rw [testBit_setBits _ _ _ _ _ h, BitVec.getLsbD]
      have : ¬ (x.lo ≤ i ∧ i ≤ x.hi) := fun c => d ⟨rfl, c⟩
      simp [this]
    · rw [BitVec.getLsbD_of_ge _ _ (by omega), BitVec.getLsbD_of_ge _ _ (by omega)]
  · simp only [State.setF, State.word_setWord_ne s _ hk]

theorem ctl_frame {s u : State} (h : u = { s with ctl := u.ctl }) (m : SMap U64) : { u with ctl := m } = { s with ctl := m } := by
  generalize u.ctl = c at h
  subst h
  rfl

theorem Sets.nil (s : State) : Sets s s [] := ⟨rfl, by simp, fun _ _ _ => rfl⟩

/-- One more field set, apart from those before it. -/
theorem Sets.setF {s u : State} {l : List (Fld × Nat × Nat × Nat)} (h : Sets s u l) (x : Fld) (v r w : Nat) (hx : x.lo ≤ x.hi)
    (h64 : x.hi < 64)
    (d : ∀ e ∈ l, e.1.hi < 64 ∧ (e.1.key e.2.1 e.2.2.1 ≠ x.key r w ∨ x.hi < e.1.lo ∨ e.1.hi < x.lo)) :
    Sets s (u.setF x v r w) ((x, r, w, v) :: l) := by
  obtain ⟨h1, h2, h3⟩ := h
  refine ⟨?_, ?_, ?_⟩
  · exact (State.setF_frame u x v r w).trans (ctl_frame h1 _)
  · intro e he
    rcases List.mem_cons.1 he with rfl | he
    · exact State.f_setF_same _ _ _ _ _ hx h64
    · rw [← h2 e he]
      obtain ⟨e64, d⟩ := d e he
      by_cases hk : e.1.key e.2.1 e.2.2.1 = x.key r w
      · exact State.f_setF_beside _ _ _ _ _ _ _ _ hk hx e64 (d.resolve_left (fun c => c hk))
      · exact State.f_setF_word _ _ _ _ _ _ _ _ hk
  · intro k i hn
    rw [word_setF_beside _ _ _ _ _ _ _ hx (hn (x, r, w, v) (.head _))]
    exact h3 k i fun e he => hn e (List.mem_cons_of_mem _ he)

theorem Sets.bump {s u : State} {l : List (Fld × Nat × Nat × Nat)} (h : Sets s u l) (x : Fld) (r n : Nat) (hx : x.lo ≤ x.hi)
    (h64 : x.hi < 64)
    (d : ∀ e ∈ l, e.1.hi < 64 ∧ (e.1.key e.2.1 e.2.2.1 ≠ x.key r 0 ∨ x.hi < e.1.lo ∨ e.1.hi < x.lo)) :
    Sets s (u.bump x r n) ((x, r, 0, satAdd (x.hi + 1 - x.lo) (u.f x r 0) n) :: l) := h.setF x _ r 0 hx h64 d

/-- The order of the list does not matter. -/
theorem Sets.mem_iff {s u : State} {l m : List (Fld × Nat × Nat × Nat)} (h : Sets s u l) (e : ∀ x, x ∈ m ↔ x ∈ l) : Sets s u m :=
  ⟨h.1, fun x hx => h.2.1 x ((e x).1 hx), fun k i hn => h.2.2 k i fun x hx => hn x ((e x).2 hx)⟩

end Sys2Proof.Machine
end

