-- ==== Sys2Proof/WellFormed.lean ====
section
/-! DEFINITION. When the operands of a command lie in the ranges that the spec gives them. -/

namespace Sys2Proof

/-- The operands lie in their ranges: thread 16 × engine + thread of 64 engines (R146), queue of 270,336 (R111), tag of 16 bits (R113),
device of 64 (R10), octet of 12 and port of 8 (R78), lane of 96 (R77), stream of 256 (R266), pool of 16 (R255), DRAM channel of 16 (R299),
flash channel of 32 with 16 dies (R320), rail of 32 (R358), cluster of 8 (R146), PLL of 5 (R378). A meaning is total: on a command that is
not well formed it answers as its operands lead. -/
def Instr.wellFormed : Instr → Bool
  | .pwronRstN x y => decide (x < 8 ∧ y < 8)
  | .registerWrite key _ => decide (key < 2 ^ 49)
  | .i3cTargetRead off => decide (off < 256)
  | .jtagSamplePreload pins preload => decide (pins.length = preload.length)
  | .prepAck dev _ _ | .weirOutcomeQuery dev _ | .spateFlags dev _ _ _ _ | .claimAck dev _ | .claimNak dev | .inServiceChange dev _ | .beatAckTimeout
    dev => decide (dev < 64)
  | .groupCloseRequest g => decide (g.dev < 64)
  | .remoteControlAccess src _ key _ => decide (src < 64 ∧ key < 2 ^ 48)
  | .revoke region | .revocationMark region | .revokeDrainComplete region => decide (region < 65536)
  | .mappingDrainComplete dom => decide (dom < 65536)
  | .laneLock lane | .laneLockLoss lane => decide (lane < 96)
  | .portLinkUp octet port => decide (octet < 12 ∧ port < 8)
  | .portLinkDown octet port reason => decide (octet < 12 ∧ port < 8 ∧ reason < 4)
  | .portOff octet _ | .twinOctetDown octet => decide (octet < 12)
  | .pairHello h => decide (h.index < 64)
  | .twinFrameCrcFail f => decide (f.vc < 4)
  | .fwdReq src p => decide (src < 64 ∧ p.region < 65536)
  | .mirror f => decide (f.lines.all (·.length = 64))
  | .credit _ lead => decide (lead.all (· < 64))
  | .reservedFrameDiscard f vc => decide (vc < 4 ∧ f.type < 64)
  | .grantRequest pair epoch side | .grantReport pair epoch side => decide (pair < 32 ∧ epoch < 2 ^ 32 ∧ side < 2)
  | .grantRecord pair epoch side src => decide (pair < 32 ∧ epoch < 2 ^ 32 ∧ side < 2 ∧ src < 64)
  | .grantRecordAck pair epoch | .grantRefusal pair epoch => decide (pair < 32 ∧ epoch < 2 ^ 32)
  | .grant pair epoch arbiter => decide (pair < 32 ∧ epoch < 2 ^ 32 ∧ arbiter < 64)
  | .saveNotice f _ => decide (f.value < 2 ^ 32)
  | .grantDecline dev epoch | .beatAck dev epoch => decide (dev < 64 ∧ epoch < 2 ^ 32)
  | .resyncData _ _ _ data => decide (data.length = 65536)
  | .healData _ data => decide (data.all (·.length = 64))
  | .hostFrameReceive f | .hostRelay f _ => decide (f.port < 96)
  | .braidWrite h _ | .braidReadReq h _ _ | .braidCapsule h _ | .braidAtomic h _ _ _ => decide (h.port < 96 ∧ h.type < 16)
  | .braidSack c _ _ _ _ => decide (c.rq < 2 ^ 32)
  | .braidEcho f _ => decide (f.hdr.rq < 2 ^ 32)
  | .braidRnr c msn _ => decide (c.rq < 2 ^ 32 ∧ msn < 65536)
  | .sackTimer dq | .retransmitTimeout dq _ _ | .pathHoldoffExpiry dq _ | .compatAck dq _ | .compatNak dq | .compatAckTimeout dq => decide (dq < 2 ^
    25)
  | .compatSend h _ | .compatRdmaWrite h _ | .compatRdmaRead h | .compatCompareSwap h _ _ | .compatFetchAdd h _ => decide (h.port < 96)
  | .pfcPause port prio _ => decide (port < 96 ∧ prio < 8)
  | .pauseLong port => decide (port < 96)
  | .contextFetchComplete q | .eddyParkTimeout q | .queueCloseDone q | .kill q | .elogWordSelect q _ => decide (q < 270336)
  | .read q tag | .write q tag | .writeAtomic q tag | .compareWrite q tag | .fetchAdd q tag | .invoke q tag | .abort q tag | .append q tag | .tileRead
    q tag | .segmentRelease q tag | .elogRead q tag | .queueRestart q tag | .commandCompletion q tag => decide (q < 270336 ∧ tag < 65536)
  | .partHold src _ | .partCancelOrRelease src _ _ | .timeFrame src _ _ _ => decide (src < 64)
  | .partHoldAnswer q tag dev _ => decide (q < 270336 ∧ tag < 65536 ∧ dev < 64)
  | .invocationStart cluster | .disReq cluster | .clusterPowerGate cluster => decide (cluster < 8)
  | .invocationTimeout t | .invocationCompletion t | .add t _ _ _ | .sub t _ _ _ | .mul t _ _ _ | .mulh t _ _ _ _ | .and t _ _ _ | .or t _ _ _ | .xor
    t _ _ _ | .shl t _ _ _ | .shr t _ _ _ | .sar t _ _ _ | .rol t _ _ _ | .min t _ _ _ | .max t _ _ _ | .minu t _ _ _ | .maxu t _ _ _ | .addi t _ _ _ |
    .andi t _ _ _ | .ori t _ _ _ | .xori t _ _ _ | .shli t _ _ _ | .shri t _ _ _ _ | .lui t _ _ _ | .movi t _ _ | .popc t _ _ | .clz t _ _ | .ctz t _ _ |
    .bswap t _ _ | .sel t _ _ _ _ | .cmpeq t _ _ _ _ _ | .cmplt t _ _ _ _ _ | .cmpltu t _ _ _ _ _ | .beq t _ _ _ | .bne t _ _ _ | .blt t _ _ _ | .bge t _
    _ _ | .bltu t _ _ _ | .bgeu t _ _ _ | .jmpf t _ | .loop t _ _ | .endl t | .exit t _ | .fault t _ _ | .yield t | .ld8 t _ _ _ _ _ | .ld16 t _ _ _ _ _ |
    .ld32 t _ _ _ _ _ | .ld64 t _ _ _ _ _ | .st8 t _ _ _ _ | .st16 t _ _ _ _ | .st32 t _ _ _ _ | .st64 t _ _ _ _ | .ldl t _ _ _ _ | .stl t _ _ _ _ | .ldlX
    t _ _ | .stlX t _ _ | .vmov t _ _ | .vext t _ _ _ _ | .vins t _ _ _ _ | .ldb t _ _ _ _ _ | .stb t _ _ _ _ _ | .mcopy t _ _ _ _ _ _ | .mfill t _ _ _ _
    _ | .mcmp t _ _ _ _ _ _ | .cas64 t _ _ _ _ _ | .cas128 t _ _ _ _ _ | .swap64 t _ _ _ _ _ | .fadd64 t _ _ _ _ _ | .fand t _ _ _ _ _ | .fetchOr t _ _ _
    _ _ | .fmax t _ _ _ _ _ _ | .lcas t _ _ _ _ _ _ | .pfence t | .txb t | .txe t _ | .txa t | .pstat t _ | .qpost t _ _ _ _ _ _ | .qcomp t _ _ _ _ _ |
    .qsend t _ _ _ _ _ | .farm t _ _ _ | .fdisarm t _ _ | .bfree t _ _ | .bref t _ _ | .bunref t _ _ | .blen t _ _ | .cinv t _ _ _ _ _ | .cinvAll t _ _ |
    .cwb t _ _ _ _ _ | .cwbi t _ _ _ _ _ | .clock t _ _ _ _ _ | .cunlk t _ _ _ _ _ | .cen t _ _ | .cdis t _ _ | .cstat t _ _ | .stile t _ _ _ _ _ | .srel
    t _ _ _ | .swait t _ _ _ | .sstat t _ _ | .genc t _ _ _ _ _ _ | .gdec t _ _ _ _ _ _ | .shk t _ _ _ _ _ | .seal t _ _ | .cfgs t _ _ _ | .cfgr t _ _ _ |
    .cfgc t _ | .cfgi t _ _ _ | .wwait t _ _ | .drst t _ | .evt t _ _ | .time t _ | .cal t _ | .hist t _ _ => decide (t < 1024)
  | .balloc t _ _ _ idx => decide (t < 1024 ∧ idx < 2 ^ 20)
  | .lowFreeRead pool => decide (pool < 16)
  | .waitPeakRead stream | .streamLoadImageDone stream _ | .tileStallTimeout stream _ | .newFirst stream _ | .scheduleCheck stream |
    .streamControllerTakeover stream => decide (stream < 256)
  | .zqRunsRead chan | .refresh chan _ | .zqLatchRefresh chan | .dramReadData chan _ _ => decide (chan < 16)
  | .zeroingDone pool idx => decide (pool < 16 ∧ idx < 2 ^ 20)
  | .tileFetchComplete stream seg tile | .tileFlashReadFail stream seg tile | .tileRecoveryTimeout stream seg tile => decide (stream < 256 ∧ seg < 2 ^
    13 ∧ tile < 2 ^ 14)
  | .releaseCount stream seg dev q tag _ => decide (stream < 256 ∧ seg < 2 ^ 13 ∧ dev < 64 ∧ q < 270336 ∧ tag < 65536)
  | .calibrationRefresh chan sb _ _ | .dramCommandSlot chan sb _ => decide (chan < 16 ∧ sb < 2)
  | .moduleSensorRead chan module _ => decide (chan < 16 ∧ module < 2)
  | .powerDownEntry chan sb rank | .patrolScrubRead chan _ sb rank _ _ => decide (chan < 16 ∧ sb < 2 ∧ rank < 8)
  | .dramRequest chan port _ _ sb rank _ isWrite data => decide (chan < 16 ∧ port ≤ 6 ∧ sb < 2 ∧ rank < 8 ∧ (data.length = if isWrite then 64 else 0))
  | .flashProgramFailure chan die _ | .flashEraseFailure chan die _ => decide (chan < 32 ∧ die < 16)
  | .flashReadRetry chan die step _ _ => decide (chan < 32 ∧ die < 16 ∧ 1 ≤ step.step ∧ step.step ≤ 5)
  | .inputFailed code | .inputGood code => decide (code < 1024)
  | .railSettleDwell rail | .railSettleLimit rail | .railOffConfirmed rail _ | .chatterEdge rail | .railWarningClear rail => decide (rail < 32)
  | .railFault rail code | .railWarning rail code => decide (rail < 32 ∧ code < 1024)
  | .engineClockGate engine => decide (engine < 64)
  | .blockPowerGate domain => decide (20 ≤ domain ∧ domain ≤ 22)
  | .domainWakeDone domain _ => decide (domain < 24)
  | .pllLockLoss pll => decide (pll < 5)
  | .stepDown epoch => decide (epoch < 2 ^ 32)
  | .claim src epoch _ => decide (src < 64 ∧ epoch < 2 ^ 32)
  | .join dev stepping _ => decide (dev < 64 ∧ stepping < 256)
  | .joinRefuse reason => decide (reason < 4)
  | .exclude dev cause => decide (dev < 64 ∧ cause < 16)
  | .cascadeLinkChange dir _ => decide (dir < 4)
  | .cascadeFrameHop type vc src dst hops _ => decide (type < 64 ∧ vc < 4 ∧ src < 64 ∧ dst < 64 ∧ hops.hops < 16)
  | .rngHealthFail test => decide (test < 3)
  | .scheduledSeal slot | .sealRecordWrite slot => decide (slot < 256)
  | .sysRstN | .mgwResetControl .. | .mgwResetWarm .. | .mgwResetStack .. | .stackWordsCopyDone .. | .bootSequenceTableRead .. | .firmwareVerify .. |
    .dramTrainingDone .. | .flashScanDone .. | .bootWindowReady | .pcieLinkUp | .mgwCqBaseWrite .. | .mgwCqDoorbellWrite .. | .controlDescriptorFetch .. |
    .controlProgramTimeout | .mgwEqBaseWrite .. | .mgwEqHeadWrite .. | .eqOverflowClear .. | .entdaa .. | .jtagBypass .. | .jtagIdcode | .jtagExtest |
    .weirCutoff | .prep .. | .weirDecision | .go .. | .nogo .. | .weirApply .. | .weirOutcome .. | .doubtMaxExpiry | .groupWords .. | .groupCloseAnswer ..
    | .pairHelloTimer | .reconciliationDone .. | .fwdResp .. | .mirrorAck .. | .heartbeatTimer | .heartbeat .. | .readFenceTimeout .. | .twinLossTimeout
    .. | .grantRequestRetry | .holdLimitExpiry | .twinGrant .. | .grantReportRetry | .resyncDone .. | .healReq .. | .healTimeout .. | .rateRiseTimer |
    .rateContextFree .. | .cnp .. | .partAdmission .. | .partCompletion .. | .eddyPeakRead | .timeErrMaxRead | .dataResp .. | .dramWriteOnMedium .. |
    .writeBehindProgramDone .. | .flashScrub .. | .flashRelocation .. | .ownBudget .. | .saveRateRetest .. | .armingTestDone .. | .pfailN | .saveNowHalt |
    .saveNowResume | .saveMetadataDone | .saveRecordsDone | .saveCommitDone .. | .resumeDwell | .powerLost | .restoreDone .. | .seqSyncRise | .seqGuardEnd
    | .seqChainIn .. | .seqChainRet .. | .railEnableGap | .chainLimit | .syncLimit | .powerDownGap | .dischargeTestStart .. | .dischargeTestEsr .. |
    .dischargeTestV1 .. | .dischargeTestEnd .. | .dischargeTestTimeout | .junctionSensorRead .. | .thermTrip | .timeBroadcast | .masterStepDown |
    .deputyClaim | .claimTimeout | .selfExclusion | .stackFormTimeout | .linkMap .. | .flashKeyRotationDone | .attestReportReady | .frameClose .. |
    .recorderCheckpoint .. | .pfailNHigh | .rngHealthPass | .thermTripRelease | .frameLoadDone | .perstN => true

end Sys2Proof
end

