-- ==== Sys2Proof/Tests/Slice0.lean ====
section
/-! SUPPORT. Witnesses: for each statement with premises, states and operands that meet them together; ill-formed commands that
`Instr.wellFormed` refuses; and single steps with values worked out from the rules. -/

namespace Sys2Proof.Tests
set_option Elab.async false
open Sys2Proof Sys2Proof.Machine

/-! The instructions. -/

/-- A thread at the only word of its image, with the handle in every handle register. -/
def thr (w : U64) (x : Handle := .invalid) (ctl : Bool := false) : Thread :=
  ⟨.replicate 32 0, .replicate 8 0, .replicate 8 x, 0, ctl, false, 0, 0, [], none, [w], [], 0, false, 100, .control 0, 0, 10, false,
    none, none, none, none, [], none⟩
/-- A state with that thread as its one thread, thread 0. -/
def on (h : Thread) (s : State := .reset) : State := { s with eng := { s.eng with threads := [(0, h)], badWords := [] } }
/-- After reset with buffers 0 and 1 of pool 0, of 128 bytes each, owned by thread 0. -/
def withBufs : State := { State.reset.setF F.POOL_CTL_SIZE_LOG2 7 with bufs := [(0, ⟨.owned, 0, 1, [(0, 1)], [1, 2, 3]⟩), (1, ⟨.owned, 0, 2, [(0, 2)], []⟩)] }
/-- After reset, in pair mode SOLO_PROV, with region 3 VOLATILE (class 2), of 4 granules from device granule 2 on of pair 0. -/
def withRegion (cls : Nat := 2) : State :=
  (((State.reset.setF F.REG_SHAPE_VALID 1 3).setF F.REG_SHAPE_CLASS cls 3).setF F.REG_SHAPE_LEN_GRAN 4 3).setF F.REG_BASE_BASE_GRAN 2 3


theorem runs_thr (w : U64) (x : Handle) (c : Bool) (s : State) : Runs (on (thr w x c) s) 0 w (thr w x c) := ⟨rfl, rfl, rfl, rfl, rfl⟩

theorem test_witness_RegisterResults :
    Runs (on (thr (iword 0x01 31 0 1 0 0 0))) 0 (iword 0x01 31 0 1 0 0 0) (thr (iword 0x01 31 0 1 0 0 0)) ∧
    Runs (on (thr (iword 0x3C 7 0 1 0 3 56))) 0 (iword 0x3C 7 0 1 0 3 56) (thr (iword 0x3C 7 0 1 0 3 56)) ∧
    (63#32).toNat ≤ 63 ∧ (56#32).toNat < 64 ∧ (56#32).toNat % 2 ^ (3#2).toNat = 0 ∧ (63#32).toNat < 64 ∧ (63#32).toNat % 2 ^ (0#2).toNat = 0 :=
  ⟨runs_thr .., runs_thr .., by decide⟩

theorem test_witness_ProgramFlow :
    Runs (on (thr (iword 0x20 0 1 2 0 0 3))) 0 (iword 0x20 0 1 2 0 0 3) (thr (iword 0x20 0 1 2 0 0 3)) ∧
    Runs (on (thr (iword 0x2A 0 1 0 0 0 127))) 0 (iword 0x2A 0 1 0 0 0 127) (thr (iword 0x2A 0 1 0 0 0 127)) ∧ (127#32).toNat ≤ 127 :=
  ⟨runs_thr .., runs_thr .., by decide⟩

theorem test_witness_Addressing :
    withBufs.handleSpan (.buffer 0 true false) = some (128, true, false, false) ∧ withBufs.handleSpan .invalid = none ∧
    withBufs.ea (.buffer 0 true true) 128 1 .read 1 = .inr 2 ∧ withBufs.ea (.buffer 0 true true) 127 1 .write 1 = .inl 127 ∧
    withBufs.ea (.buffer 0 true false) 0 1 .write 1 = .inr 3 ∧ withBufs.ea (.buffer 0 true false) 4 8 .read 8 = .inr 7 := by
  decide +kernel
theorem test_witness_Addressing_fault :
    let h := thr (iword 0x33 1 0 0 1 0 4) (.buffer 0 true true)
    Runs (on h withBufs) 0 (iword 0x33 1 0 0 1 0 4) h ∧ (on h withBufs).ea (h.rh 1) (offsetOf h 0 4) 8 .read 8 = .inr 7 :=
  ⟨runs_thr .., by decide +kernel⟩


/-- Empty caches are sound. -/
theorem caches_sound (s : State) (h : s.caches = []) : CachesSound s := by
  intro c i
  simp [State.cache, h, Cache.entry, SMap.get, SMap.at?, CEntry.empty]

theorem test_witness_LoadInstructions :
    let h := thr (iword 0x33 1 0 0 1 1 120) (.buffer 0 true false)
    let l := thr (iword 0x3D 6 0 0 1 1 0) (.buffer 0 true false)
    (Runs (on h withBufs) 0 (iword 0x33 1 0 0 1 1 120) h ∧ InBuffer (on h withBufs) h 1 (offsetOf h 0 120) 8 8 0 ⟨.owned, 0, 1, [(0, 1)], [1, 2, 3]⟩ true false) ∧
    (Runs (on l withBufs) 0 (iword 0x3D 6 0 0 1 1 0) l ∧ (6#3).toNat + 2 ≤ 8 ∧
      InBuffer (on l withBufs) l 1 (offsetOf l 0 0) 128 64 0 ⟨.owned, 0, 1, [(0, 1)], [1, 2, 3]⟩ true false) :=
  ⟨⟨runs_thr .., rfl, rfl, by decide +kernel⟩, runs_thr .., by decide, rfl, rfl, by decide +kernel⟩

theorem test_witness_LoadInstructions_region :
    let h := thr (iword 0x33 1 0 0 1 0 65528) (.region (some (0, 0)) 3 131072 65536 true true false)
    let s := on h withRegion
    Runs s 0 (iword 0x33 1 0 0 1 0 65528) h ∧ InRegion h 1 (offsetOf h 0 65528) 8 8 3 196600 true true ∧ s.readDev 3 196600 = s.index ∧
      s.regionClass 3 ≠ Cls.stream ∧ ServedHere s 0 3 196600 8 false :=
  ⟨runs_thr .., ⟨(0, 0), 131072, 65536, false, rfl, rfl, by decide +kernel⟩, by decide +kernel, by decide +kernel, by decide +kernel, rfl, by decide +kernel,
    caches_sound _ rfl, by decide +kernel⟩

theorem test_witness_StoreInstructions :
    let h := thr (iword 0x34 0 0 1 1 0 127) (.buffer 1 false true)
    let l := thr (iword 0x3E 0 0 6 1 1 0) (.buffer 1 false true)
    (Runs (on h withBufs) 0 (iword 0x34 0 0 1 1 0 127) h ∧ InBuffer (on h withBufs) h 1 (offsetOf h 0 127) 1 1 1 ⟨.owned, 0, 2, [(0, 2)], []⟩ false true) ∧
    (Runs (on l withBufs) 0 (iword 0x3E 0 0 6 1 1 0) l ∧ InBuffer (on l withBufs) l 1 (offsetOf l 0 0) 128 64 1 ⟨.owned, 0, 2, [(0, 2)], []⟩ false true) :=
  ⟨⟨runs_thr .., rfl, rfl, by decide +kernel⟩, runs_thr .., rfl, rfl, by decide +kernel⟩

theorem test_witness_StoreInstructions_region :
    let h := thr (iword 0x37 0 0 1 1 0 8) (.region (some (0, 0)) 3 0 65536 true true false)
    let s := on h withRegion
    Runs s 0 (iword 0x37 0 0 1 1 0 8) h ∧ InRegion h 1 (offsetOf h 0 8) 8 8 3 8 true true ∧ s.leadDev 3 8 = s.index ∧ s.isVolatile 3 = true ∧
      ServedHere s 0 3 8 8 true ∧ s.parts.at? s.nextPart = none :=
  ⟨runs_thr .., ⟨(0, 0), 0, 65536, false, rfl, rfl, by decide +kernel⟩, by decide +kernel, by decide +kernel,
    ⟨by decide +kernel, rfl, by decide +kernel, caches_sound _ rfl, by decide +kernel⟩, rfl⟩

/-- A scratch entry of cluster 0, and a cache that holds it locked as entry 31. -/
def scratchEnt : CEntry := ⟨none, false, none, true, true, false, List.replicate 64 7, false, [], false, false⟩
def withScratch : State := { State.reset with caches := [(0, ⟨[(31, scratchEnt)], []⟩)] }

theorem test_witness_ScratchAndLocks :
    let h := thr (iword 0x38 7 0 0 0 1 31) .invalid true
    let k := thr (iword 0x7B 1 0 0 0 1 255) .invalid true
    (Runs (on h withScratch) 0 (iword 0x38 7 0 0 0 1 31) h ∧ h.ctl = true ∧ (on h withScratch).scratch? 31 = some scratchEnt ∧
      (on h).scratch? 31 = none) ∧
    (Runs (on k) 0 (iword 0x7B 1 0 0 0 1 255) k ∧ (255#32).toNat < 256 ∧ ((on k).cache 7).locked < 32 ∧ (((on k).cache 7).entry 31).locked = false) ∧
    ((withScratch.cache 0).entry 31).locked = true ∧ ((withScratch.cache 0).entry 31).isScratch = true ∧
    32 ≤ ({ entries := (List.range 32).map fun e => (e, scratchEnt), order := [] } : Cache).locked :=
  ⟨⟨runs_thr .., rfl, rfl, rfl⟩, ⟨runs_thr .., by decide +kernel⟩, by decide +kernel, by decide +kernel, by decide +kernel⟩

theorem test_witness_BulkInBuffers :
    let h := { thr (iword 0x3F 1 0 0 1 2 16) (.buffer 0 true true) with g := (Vector.replicate 32 0).set 1 128, h := (Vector.replicate 8 (.buffer 0 true true)).set 2 (.buffer 1 true true) }
    Runs (on h withBufs) 0 (iword 0x3F 1 0 0 1 2 16) h ∧ InBuffer (on h withBufs) h 1 (h.rg 0) 16 1 0 ⟨.owned, 0, 1, [(0, 1)], [1, 2, 3]⟩ true true ∧
      InBuffer (on h withBufs) h 2 (h.rg 0) 16 1 1 ⟨.owned, 0, 2, [(0, 2)], []⟩ true true ∧ min (h.rg 1).toNat (16#32).toNat = 16 ∧ 1 ≤ (16#32).toNat ∧
      (16#32).toNat ≤ 65536 :=
  ⟨⟨rfl, rfl, rfl, rfl, rfl⟩, ⟨rfl, rfl, by decide +kernel⟩, ⟨rfl, rfl, by decide +kernel⟩, by decide +kernel⟩

/-- A part of thread 0 that is done. -/
def donePart (kind : PartKind) (rdata : List Byte) : Part := { State.newPart (.thread 0) kind 0 3 0 rdata.length [] [] with st := .done, rdata := rdata }

theorem test_witness_AtomicResults :
    let h (w : U64) := thr w (.region (some (0, 0)) 3 0 64 true true true)
    let p := donePart .fetchAdd (List.replicate 8 1)
    let q := donePart .compare (List.replicate 16 1)
    let r := donePart .compare (List.replicate 64 1)
    let s (w : U64) (p : Part) : State := { on (h w) with parts := [(5, p)] }
    let find (s : State) := (s.partsOf 0).find? (fun e => partAtomic e.2.kind || e.2.kind == .group || e.2.kind == .seal)
    (Runs (s (iword 0x53 1 0 2 1 0 56) p) 0 (iword 0x53 1 0 2 1 0 56) (h (iword 0x53 1 0 2 1 0 56)) ∧ find (s (iword 0x53 1 0 2 1 0 56) p) = some (5, p) ∧
      p.rdata.length = 8 ∧ 56 + 8 ≤ 64) ∧
    (Runs (s (iword 0x51 30 0 2 1 0 48) q) 0 (iword 0x51 30 0 2 1 0 48) (h (iword 0x51 30 0 2 1 0 48)) ∧ find (s (iword 0x51 30 0 2 1 0 48) q) = some (5, q) ∧
      q.rdata.length = 16 ∧ 48 + 16 ≤ 64 ∧ (30#5).toNat % 2 = 0) ∧
    (Runs (s (iword 0x57 1 0 2 1 3 0) r) 0 (iword 0x57 1 0 2 1 3 0) (h (iword 0x57 1 0 2 1 3 0)) ∧ find (s (iword 0x57 1 0 2 1 3 0) r) = some (5, r) ∧ r.rdata.length = 64) ∧
    (s 0 p).parts.at? 5 = some p ∧ p.st = .done ∧ p.code = 0 :=
  ⟨⟨⟨rfl, rfl, rfl, rfl, rfl⟩, rfl, by decide⟩, ⟨⟨rfl, rfl, rfl, rfl, rfl⟩, rfl, by decide⟩, ⟨⟨rfl, rfl, rfl, rfl, rfl⟩, rfl, by decide⟩, rfl, rfl, rfl⟩

theorem test_witness_Persistence :
    let h := thr (iword 0x60 0 0 0 0 0 0)
    let b := thr (iword 0x61 0 0 0 0 0 0)
    let e := { thr (iword 0x62 1 0 0 0 0 0) with tx := some ⟨none, [], []⟩ }
    let p : State := { (State.reset.setF F.POOL_STATUS_STATE 1 1).setF F.POOL_CTL_COUNT 4 1 with bufs := [] }
    let w := { State.newPart (.thread 0) .write 0 3 0 8 [] [] with st := .admitted }
    let dur := { withRegion 0 with parts := [(1, w)] }
    (Runs (on h) 0 (iword 0x60 0 0 0 0 0 0) h ∧ (on h).storesPending 0 = false ∧ (on h dur).storesPending 0 = true) ∧
    (Runs (on b p) 0 (iword 0x61 0 0 0 0 0 0) b ∧ (on b p).poolRoom 1 1 = true) ∧
    (Runs (on e) 0 (iword 0x62 1 0 0 0 0 0) e ∧ e.tx = some ⟨none, [], []⟩) :=
  ⟨⟨runs_thr .., by decide +kernel, by decide +kernel⟩, ⟨runs_thr .., by decide +kernel⟩, ⟨rfl, rfl, rfl, rfl, rfl⟩, rfl⟩

/-- Queue 5 exists, READY, with a depth of 16. -/
def withQueue : State :=
  { (State.reset.setF F.Q_STATUS_STATE QS.ready 5).setF F.Q_CTL_QDEPTH_M1 15 5 with queues := [(5, .empty)], bufs := withBufs.bufs }

theorem test_witness_PostsAndFiddleheads :
    let y : Buf := ⟨.owned, 0, 1, [(0, 1)], [1, 2, 3]⟩
    let x := { thr 0 (.queue 5 true) with h := (Vector.replicate 8 (Handle.queue 5 true)).set 2 (.buffer 0 true true) }
    (let w := iword 0x68 0 0 0 1 2 0
     let h := { x with img := [w] }
     Runs (on h withQueue) 0 w h ∧ h.rh 1 = .queue 5 true ∧ InBuffer (on h withQueue) h 2 (h.rg 0) 0 1 0 y true true ∧ (on h withQueue).qState 5 = QS.ready ∧
       (on h).qState 5 ≠ QS.ready) ∧
    (let w := iword 0x69 1 2 0 1 0 255
     let h := { x with img := [w] }
     Runs (on h withQueue) 0 w h ∧ (255#32).toNat ≤ 255 ∧ 0 ∉ (on h withQueue).tagsInUse 5 ∧ ((on h withQueue).tagsInUse 5).length < (on h withQueue).qDepth 5) ∧
    (let w := iword 0x6A 1 2 0 1 0 64
     let h := { x with img := [w] }
     Runs (on h withQueue) 0 w h ∧ 1 ≤ (64#32).toNat ∧ (64#32).toNat ≤ 64) :=
  ⟨⟨⟨rfl, rfl, rfl, rfl, rfl⟩, rfl, ⟨rfl, rfl, by decide +kernel⟩, by decide +kernel, by decide +kernel⟩,
    ⟨⟨rfl, rfl, rfl, rfl, rfl⟩, by decide, by decide +kernel, by decide +kernel⟩, ⟨rfl, rfl, rfl, rfl, rfl⟩, by decide, by decide⟩

/-- A fiddlehead descriptor for queue 5: action 2, trigger 1, tag 9. -/
def farmDesc : List U64 := [BitVec.ofNat 64 (5 * 2 ^ 32 + 9 * 2 ^ 16 + 2 * 2 ^ 8 + 1), 0, 0, 0, 0, 0, 0, 0]
theorem test_witness_PostsAndFiddleheads_arm :
    let y : Buf := ⟨.owned, 0, 1, [(0, 1)], farmDesc.flatMap fun q => toBytes 8 q.toNat⟩
    let w := iword 0x6B 1 0 0 1 0 0
    let h := thr w (.buffer 0 true true)
    let s := on h { withQueue with bufs := [(0, y)] , ctl := (withQueue.setF F.POOL_CTL_SIZE_LOG2 7).ctl }
    let f : Fiddle := ⟨5, farmDesc, 0⟩
    let k := thr (iword 0x6C 1 0 0 0 0 0)
    (Runs s 0 w h ∧ InBuffer s h 1 (h.rg 0) 64 64 0 y true true ∧ ((List.range 8).map fun i => BitVec.ofNat 64 (bufValue y ((h.rg 0).toNat + 8 * i) 8)) = farmDesc ∧
      State.fiddleBad (farmDesc.getD 0 0).toNat (farmDesc.getD 1 0).toNat (farmDesc.getD 4 0).toNat = false ∧ s.farmReason h farmDesc = none) ∧
    (Runs (on k { withQueue with fiddles := [(0, f)] }) 0 (iword 0x6C 1 0 0 0 0 0) k ∧ (on k { withQueue with fiddles := [(0, f)] }).fiddles.at? 0 = some f ∧
      (on k withQueue).fiddles.at? 0 = none ∧ (on k withQueue).qDomain 5 = k.dom ∧ (withQueue.setF F.Q_CTL_DOMAIN 1 5).qDomain 5 ≠ k.dom ∧ k.ctl = false) :=
  ⟨⟨⟨rfl, rfl, rfl, rfl, rfl⟩, ⟨rfl, rfl, by decide +kernel⟩, by decide +kernel, by decide +kernel, by decide +kernel⟩,
    ⟨rfl, rfl, rfl, rfl, rfl⟩, rfl, rfl, by decide +kernel, by decide +kernel, rfl⟩

theorem test_witness_BufferInstructions :
    let s := ((withBufs.setF F.POOL_CTL_ENG_OPEN 1).setF F.POOL_STATUS_STATE 1).setF F.POOL_CTL_COUNT 4
    let a := thr (iword 0x70 1 0 0 1 0 0)
    (Runs (on a s) 0 (iword 0x70 1 0 0 1 0 0) a ∧ s.flag F.POOL_CTL_ENG_OPEN 0 = true ∧ a.rh 1 = .invalid ∧ s.poolOn 0 = true ∧ s.poolFree 0 ≠ 0 ∧
      3 < s.f F.POOL_CTL_COUNT 0 ∧ s.buf? (0 * 2 ^ 20 + 3) = none ∧ (s.setF F.POOL_STATUS_STATE 0).poolOn 0 = false ∧ ((s.setF F.POOL_CTL_COUNT 2).setF F.POOL_STATUS_ALLOCATED 2).poolFree 0 = 0) ∧
    (let h := thr (iword 0x72 1 0 0 1 0 0) (.buffer 1 true true)
     Runs (on h s) 0 (iword 0x72 1 0 0 1 0 0) h ∧ h.rh 1 = .buffer 1 true true ∧ s.buf? 1 = some ⟨.owned, 0, 2, [(0, 2)], []⟩ ∧ 0 < 2 ∧ 2 < 255 ∧
       1 < (⟨.owned, 0, 2, [(0, 2)], []⟩ : Buf).held.get 0 0) ∧
    (let h := thr (iword 0x73 1 0 0 1 0 0) (.buffer 0 true true)
     Runs (on h s) 0 (iword 0x73 1 0 0 1 0 0) h ∧ s.buf? 0 = some ⟨.owned, 0, 1, [(0, 1)], [1, 2, 3]⟩ ∧ (⟨.owned, 0, 1, [(0, 1)], []⟩ : Buf).held.get 0 0 ≤ 1) :=
  ⟨⟨runs_thr .., by decide +kernel, rfl, by decide +kernel, by decide +kernel, by decide +kernel, rfl, by decide +kernel, by decide +kernel⟩,
    ⟨runs_thr .., rfl, rfl, by decide +kernel⟩, runs_thr .., rfl, by decide +kernel⟩

theorem test_witness_CacheInstructions :
    let h := thr (iword 0x78 1 0 2 1 0 0) (.buffer 0 true true)
    let c := thr (iword 0x7E 1 0 0 0 0 255) .invalid true
    (Runs (on h withBufs) 0 (iword 0x78 1 0 2 1 0 0) h ∧ (on h withBufs).ea (h.rh 1) (offsetOf h 0 0) (h.rg 2).toNat .write 1 = .inl 0) ∧
    (Runs (on c) 0 (iword 0x7E 1 0 0 0 0 255) c ∧ c.ctl = true ∧ (255#32).toNat ≤ 255 ∧ 7 ∈ bitsOf 8 255 ∧ State.reset.cacheOn 7 = false ∧
      (State.reset.setF F.CCH_STATUS_FULLINV 1 7).flag F.CCH_STATUS_FULLINV 7 = true) ∧ 7 < 8 :=
  ⟨⟨runs_thr .., by decide +kernel⟩, ⟨runs_thr .., by decide +kernel⟩, by decide⟩

theorem test_witness_StreamInstructions :
    let x := { thr 0 (.stream none 3 true) with h := (Vector.replicate 8 (Handle.stream none 3 true)).set 2 (.buffer 0 true true) }
    let p := donePart .tile [1, 2, 3]
    let s (w : U64) (p : Part) : State := { on { x with img := [w] } withBufs with parts := [(5, p)] }
    (Runs (s (iword 0x80 0 1 2 1 2 0) p) 0 (iword 0x80 0 1 2 1 2 0) { x with img := [iword 0x80 0 1 2 1 2 0] } ∧ x.rh 1 = .stream none 3 true ∧ x.rh 2 = .buffer 0 true true ∧
      TilePart (s 0 p) 0 5 p ∧ p.st = .done ∧ p.code = 0 ∧ (x.rg 0).toNat < p.rdata.length) ∧
    (Runs (s (iword 0x82 1 2 0 1 0 0) p) 0 (iword 0x82 1 2 0 1 0 0) { x with img := [iword 0x82 1 2 0 1 0 0] }) ∧
    (let h := { x with img := [iword 0x81 1 2 0 1 0 0], ready := some 0 }
     Runs (on h) 0 (iword 0x81 1 2 0 1 0 0) h ∧ h.ready = some 0) ∧
    (((State.reset.setF F.STR_CTL_SVALID 1 255).setF F.STR_CTL_REGION 3 255).streamOf 3 = some 255) :=
  ⟨⟨⟨rfl, rfl, rfl, rfl, rfl⟩, rfl, rfl, ⟨rfl, rfl⟩, rfl, rfl, by decide +kernel⟩, ⟨rfl, rfl, rfl, rfl, rfl⟩, ⟨⟨rfl, rfl, rfl, rfl, rfl⟩, rfl⟩, by decide +kernel⟩

theorem test_witness_CipherAndHash :
    let h := { thr (iword 0x88 1 0 0 1 0 16) (.buffer 0 true true) with g := (Vector.replicate 32 0).set 1 16 }
    let k := thr (iword 0x8A 1 0 0 1 0 16) (.buffer 0 true true)
    (Runs (on h withBufs) 0 (iword 0x88 1 0 0 1 0 16) h ∧ min (h.rg 1).toNat (16#32).toNat = 16 ∧ (h.rg 0).toNat ≤ 256 ∧
      InBuffer (on h withBufs) h 1 (h.rg 0) (0 + 16 + 16) 1 0 ⟨.owned, 0, 1, [(0, 1)], [1, 2, 3]⟩ true true) ∧
    (Runs (on k withBufs) 0 (iword 0x8A 1 0 0 1 0 16) k ∧ InBuffer (on k withBufs) k 1 (k.rg 0) 0 1 0 ⟨.owned, 0, 1, [(0, 1)], [1, 2, 3]⟩ true true) :=
  ⟨⟨⟨rfl, rfl, rfl, rfl, rfl⟩, by decide +kernel, by decide +kernel, ⟨rfl, rfl, by decide +kernel⟩⟩, runs_thr .., rfl, rfl, by decide +kernel⟩

theorem test_witness_SealsEventsTime :
    let x := thr (iword 0x8B 1 0 0 1 0 0) (.region (some (0, 0)) 3 0 64 true true false)
    let p := donePart .seal []
    let s : State := { on x (withRegion 1) with parts := [(5, p)] }
    let e := thr (iword 0x98 0 1 0 0 0 127)
    let j := thr (iword 0x9B 0 1 0 0 0 7)
    (Runs s 0 (iword 0x8B 1 0 0 1 0 0) x ∧ s.regionClass 3 = 1 ∧
      (s.partsOf 0).find? (fun e => partAtomic e.2.kind || e.2.kind == .group || e.2.kind == .seal) = some (5, p) ∧ p.st = .done ∧ p.code = 0) ∧
    (Runs (on e) 0 (iword 0x98 0 1 0 0 0 127) e ∧ (127#32).toNat < 128 ∧ (on e).eng.evtCount.get 0 0 < 16 ∧ 16 ≤ (let m : SMap Nat := [(0, 16)]; m.get 0 0)) ∧
    (Runs (on j) 0 (iword 0x9B 0 1 0 0 0 7) j ∧ (7#32).toNat < 8 ∧ [(0, 7)].findIdx? (fun e : Nat × Nat => e == (0, 7)) = some 0) :=
  ⟨⟨⟨rfl, rfl, rfl, rfl, rfl⟩, by decide +kernel, rfl, rfl, rfl⟩, ⟨runs_thr .., by decide +kernel⟩, runs_thr .., by decide +kernel⟩

/-! Control mode. -/

/-- TP_BRAID, a word of this device with staged fields; its value after reset. -/
def braidKey : Nat := F.TP_BRAID_BRAID_UDP.key 0 0
def braidAddr : U64 := BitVec.ofNat 64 braidKey
/-- A control thread whose g1 is the address of TP_BRAID and whose g2 is the value. -/
def ctlThr (w v : U64) : Thread := { thr w .invalid true with g := ((Vector.replicate 32 0).set 1 braidAddr).set 2 v }
theorem runs_ctl (w v : U64) (s : State) : Runs (on (ctlThr w v) s) 0 w (ctlThr w v) := ⟨rfl, rfl, rfl, rfl, rfl⟩

/-- A state whose open group is `g`. -/
def opened (g : List Staged) : State := { State.reset with stage := { Stage.reset with opened := some g } }

theorem test_witness_StageWords :
    let w := iword 0x90 3 1 2 0 0 0
    let good := resetWord braidKey
    let s := on (ctlThr w good)
    (Runs s 0 w (ctlThr w good) ∧ (ctlThr w good).ctl = true ∧ s.ctlTarget ((ctlThr w good).rg 1) = some (none, braidKey) ∧ s.ownTarget none = none ∧
      s.stageCode (s.ownWords (s.stage.opened.getD [])) braidKey good = 0 ∧ s.stageFull none braidKey = false) ∧
    s.stageCode [] braidKey 0 ≠ 0 ∧ s.ctlTarget (BitVec.ofNat 64 (2 ^ 57)) = none :=
  ⟨⟨runs_ctl .., rfl, by decide +kernel, by decide +kernel, by decide +kernel, by decide +kernel⟩, by decide +kernel, by decide +kernel⟩

theorem full_of_length (g : List Staged) (n : 1048576 ≤ g.length) (d : ∀ x ∈ g, x.key = 0) : (opened g).stageFull none braidKey = true := by
  have h : ∀ x ∈ g, ¬ State.isStaged braidKey ((opened g).stageDev none braidKey) x = true := fun x hx => by rw [State.isStaged, d x hx, show (0 == braidKey) = false from by decide]; simp
  exact (Bool.and_eq_true _ _).mpr ⟨decide_eq_true (Nat.le_trans n (Nat.le_trans (Nat.le_add_right _ _) (Nat.le_add_right _ _))),
    by rw [Bool.not_eq_true']; exact List.any_eq_false.mpr h⟩
theorem test_witness_StageWords_full : (opened (List.replicate 1048576 ⟨0, none, 0⟩)).stageFull none braidKey = true :=
  full_of_length _ (by rw [List.length_replicate]) fun _ h => by rw [List.eq_of_mem_replicate h]

theorem test_witness_ReadAndWriteWords :
    let r := iword 0x91 3 1 0 0 1 0
    let i := iword 0x93 3 1 2 0 0 0
    (Runs (on (ctlThr r 0)) 0 r (ctlThr r 0) ∧ (on (ctlThr r 0)).ctlTarget ((ctlThr r 0).rg 1) = some (none, braidKey) ∧ (on (ctlThr r 0)).ownTarget none = none ∧
      (on (ctlThr r 0)).ctlTarget 0xFF00000000000000 = none) ∧
    Runs (on (ctlThr i 0)) 0 i (ctlThr i 0) ∧ (Runs (on (thr i)) 0 i (thr i) ∧ (thr i).ctl = false) :=
  ⟨⟨runs_ctl .., by decide +kernel, by decide +kernel, by decide +kernel⟩, runs_ctl .., runs_thr .., rfl⟩

theorem test_witness_GroupsAndWaits :
    let c := iword 0x92 3 0 0 0 0 0
    let g : List Staged := [⟨braidKey, some 0, 5⟩]
    let op : State := { State.reset with stage := { Stage.reset with opened := some g } }
    let member := (op.setF F.STK_STATUS_MEMBER_STATE 2).setF F.STK_STATUS_MASTER_IDX 1
    let w := iword 0x94 3 0 0 0 0 2
    let x := iword 0x95 0 0 0 0 0 1
    (Runs (on (ctlThr c 0)) 0 c (ctlThr c 0) ∧ (ctlThr c 0).ready = none ∧ State.reset.stage.closing = none ∧ State.reset.stage.opened = none) ∧
    (op.memberState ≠ 2 ∧ op.stage.opened = some g) ∧
    (member.memberState = 2 ∧ member.isMaster = false ∧ (member.ownWords g).all (fun w => keySpace w.1 != 8) = true) ∧
    (Runs (on (ctlThr w 0)) 0 w (ctlThr w 0) ∧ (ctlThr w 0).wait = none ∧ State.reset.weirCount < 2) ∧
    (Runs (on { ctlThr w 0 with wait := some 0 }) 0 w { ctlThr w 0 with wait := some 0 } ∧ 0 ≤ State.reset.weirCount) ∧
    (let s : State := { on (ctlThr x 0) with flash := { State.reset.flash with run := some ⟨1, 0, 0, 0, 0, false, false⟩ } }
     Runs s 0 x (ctlThr x 0) ∧ (1#32).toNat = 1 ∧ s.deviceOff = false ∧ s.flash.run = some ⟨1, 0, 0, 0, 0, false, false⟩) :=
  ⟨⟨runs_ctl .., rfl, rfl, rfl⟩, ⟨by decide +kernel, rfl⟩, ⟨by decide +kernel, by decide +kernel, by decide +kernel⟩, ⟨runs_ctl .., rfl, by decide +kernel⟩,
    ⟨⟨rfl, rfl, rfl, rfl, rfl⟩, by decide⟩, ⟨rfl, rfl, rfl, rfl, rfl⟩, rfl, by decide +kernel, rfl⟩

theorem test_witness_RemoteControl :
    let h := { ctlThr 0 0 with wait := some 0 }
    let s : State := { State.reset with eng := { State.reset.eng with threads := [(15, h)] } }
    s.thread? State.ctlThread = some h ∧ h.wait = some 0 ∧ h.ended = none ∧ s.stage.closing = none := ⟨rfl, rfl, rfl, rfl⟩

/-! Boot, resets, side interfaces. -/

/-- The state after reset with fields set: field, record, word, value. -/
def with' (l : List (Fld × Nat × Nat × Nat)) (s : State := .reset) : State := l.foldl (fun s e => s.setF e.1 e.2.2.2 e.2.1 e.2.2.1) s

/-- A firmware copy that does not verify. -/
def noFw : FwCopy := ⟨[], [], []⟩
/-- Sixteen trained channels of one module each. -/
def chans16 : List ChanTrain := List.replicate 16 ⟨[⟨7, 512, 2, false, true, [6400]⟩], true, 40⟩

theorem test_witness_BootStages :
    let s := with' [F.MGW_BOOT_STAGE.is 3]
    let t := with' [F.MGW_BOOT_STAGE.is 4]
    (s.f F.MGW_BOOT_STAGE = 3 ∧ s.f F.MGW_STATUS_PHASE = 0 ∧ (fwVerifies noFw && !s.belowFloor noFw) = false) ∧
    (t.f F.MGW_BOOT_STAGE = 4 ∧ t.f F.MGW_STATUS_PHASE = 0 ∧ spdFaults chans16 = [] ∧ chans16.length ≤ 16 ∧ (∀ c ∈ chans16, c.modules ≠ [] → c.trained = true)) ∧
    spdFaults (chans16.take 9) ≠ [] := by
  decide +kernel

theorem test_witness_BootWindow :
    let s := with' [F.MGW_BOOT_STAGE.is 6]
    let w : State := { with' [F.MGW_BOOT_STAGE.is 7] with pins := ⟨false, true, true, 0, [], false⟩ }
    (({ with' [F.MGW_BOOT_STAGE.is 3] with pins := ⟨false, true, false, 0, [], false⟩ } : State).pins.perst = true ∧ (with' [F.MGW_BOOT_STAGE.is 3]).deviceOff = false) ∧
    (s.f F.MGW_BOOT_STAGE = 6 ∧ s.f F.MGW_STATUS_PHASE = 0 ∧ s.recd.checkpoint = none) ∧
    (w.windowOpen = true ∧ w.eqEnabled = false ∧ w.evq.kept = [] ∧ w.f F.MGW_BOOT_STAGE = 7 ∧ w.flag F.MGW_CQ_BASE_EN = false) ∧
    (with' [F.MGW_CQ_BASE_EN.is 1 0 2]).eqEnabled = true ∧ State.fld (BitVec.ofNat 64 (2 ^ F.MGW_STATUS_EQ_OVERFLOW.lo)) F.MGW_STATUS_EQ_OVERFLOW = 1 ∧
    (let v := BitVec.ofNat 64 (2 ^ F.MGW_CQ_BASE_EN.lo + 6 * 2 ^ F.MGW_CQ_BASE_LOG2.lo)
     State.fld v F.MGW_CQ_BASE_EN = 1 ∧ 6 ≤ State.fld v F.MGW_CQ_BASE_LOG2 ∧ State.fld v F.MGW_CQ_BASE_LOG2 ≤ 16) := by
  decide +kernel

/-- A save run that has no commit record yet. -/
def run0 : SaveRun := ⟨1, 0, 0, 0, 0, false, false⟩
/-- A state in which that run is under way. -/
def saving0 (r : SaveRun := run0) : State := { State.reset with flash := { State.reset.flash with run := some r } }

theorem test_witness_inv : State.reset.Inv := by unfold State.Inv; decide +kernel

theorem test_witness_ColdReset : State.reset.Inv ∧ State.reset.flash.run = none ∧ (saving0.Inv ∧ saving0.flash.run = some run0 ∧ run0.committed = false) :=
  ⟨test_witness_inv, rfl, by unfold State.Inv; decide +kernel, rfl, rfl⟩

theorem test_witness_WarmReset :
    (State.reset.deviceOff = false ∧ State.reset.flash.run = none ∧ State.reset.flag F.SV_STATUS_ARMED = false) ∧
    (saving0.deviceOff = false ∧ saving0.flash.run = some run0 ∧ run0.committed = false) ∧
    (({ State.reset with pins := { State.reset.pins with pcie := true } } : State).pins.pcie = true ∧
      State.fld (BitVec.ofNat 64 (0xA5C3 * 2 ^ F.MGW_RESET_CONFIRM.lo + 2 * 2 ^ F.MGW_RESET_KIND.lo)) F.MGW_RESET_CONFIRM = 0xA5C3 ∧
      State.fld (BitVec.ofNat 64 (0xA5C3 * 2 ^ F.MGW_RESET_CONFIRM.lo + 2 * 2 ^ F.MGW_RESET_KIND.lo)) F.MGW_RESET_KIND = 2) ∧ State.fld 0 F.MGW_RESET_CONFIRM ≠ 0xA5C3 :=
  ⟨⟨by decide +kernel, rfl, by decide +kernel⟩, ⟨by decide +kernel, rfl, rfl⟩, ⟨rfl, by decide +kernel⟩, by decide +kernel⟩

theorem test_witness_ControlReset :
    let v (st : Nat) : U64 := BitVec.ofNat 64 (0xA5C3 * 2 ^ F.MGW_RESET_CONFIRM.lo + 2 ^ F.MGW_RESET_KIND.lo + st * 2 ^ F.MGW_RESET_STACK.lo)
    let s : State := { with' [F.STK_STATUS_DEVICES.is 1, F.MGW_BOOT_STAGE.is 7, F.STK_STATUS_MEMBER_STATE.is 2] with pins := ⟨false, true, true, 0, [], false⟩ }
    (State.fld (v 0) F.MGW_RESET_CONFIRM = 0xA5C3 ∧ State.fld (v 0) F.MGW_RESET_KIND = 1 ∧ State.fld (v 0) F.MGW_RESET_STACK = 0 ∧ State.fld (v 1) F.MGW_RESET_STACK = 1) ∧
    (s.Inv ∧ s.windowOpen = true ∧ s.flash.run = none ∧ s.devices ≤ 1 ∧ s.f F.MGW_BOOT_STAGE = 7 ∧ s.memberState = 2 ∧ s.isMaster = true) :=
  ⟨by decide +kernel, by unfold State.Inv; decide +kernel, by decide +kernel, rfl, by decide +kernel⟩

theorem test_witness_PowerDownAndCopiedWords :
    let down (d f : Nat) : State := { with' [F.SUP_SEQ_SEQ_STATE.is 17] with supply := { Supply.reset with down := d, downFor := f } }
    let s : State := { State.reset with stage := { Stage.reset with copying := true } }
    let ws : List (Nat × U64) := [(F.REG_SHAPE_VALID.key 3 0, BitVec.ofNat 64 (2 ^ 63)), (F.REG_BASE_BASE_GRAN.key 3 0, 65536)]
    ((down 2 0).seqState = 17 ∧ (down 2 0).supply.offDue = [] ∧ 1 < (down 2 0).supply.down) ∧
    ((down 1 1).seqState = 17 ∧ (down 1 1).supply.down ≤ 1 ∧ (down 1 1).supply.downFor = 1 ∧ (down 1 1).Inv) ∧ ((down 0 0).seqState = 17 ∧ (down 0 0).supply.downFor ≠ 1) ∧
    (s.stage.copying = true ∧ s.flash.image = none ∧ s.parts = [] ∧ (ws.map Prod.fst).Nodup ∧ (∀ w ∈ ws, keySpace w.1 ≠ 11) ∧
      ∀ r < 256, s.flag F.STR_CTL_SVALID r = false) :=
  ⟨by decide +kernel, ⟨by decide +kernel, by decide +kernel, rfl, by unfold State.Inv; decide +kernel⟩, by decide +kernel, rfl, rfl, rfl, by decide +kernel, by decide +kernel,
    by decide +kernel⟩

/-- An invocation that waits for cluster 0, with slot 2, domain 0 and no handles. -/
def inv0 : Inv := ⟨.invoke 5 9, 0, 2, 0, 7, 8, .invalid, 16, 0⟩

theorem test_witness_InvocationLife :
    let s : State := { with' [F.PRG_CTL_PVALID.is 1 2, F.PRG_CTL_ANY_DOMAIN.is 1 2] with eng := ⟨[], [inv0], [], [], (0, []), []⟩ }
    let w := (s.dropInv inv0.start).wakeEngine 0
    let h := thr 0
    (s.eng.waiting.find? (fun j => j.cluster == 0) = some inv0 ∧ s.supply.gated.contains 0 = false ∧ s.freeThread 0 = some 0 ∧ ¬ inv0.since + 10000 < s.time ∧
      inv0.slot < 1024 ∧ w.slotOpen inv0.slot inv0.dom = true ∧ inv0.h0 = .invalid ∧
      State.bindAll (w.bindHandle inv0 (w.startRegs 7 8 16)) .invalid (w.slotDecls 2) = .inr ((Vector.replicate 8 Handle.invalid))) ∧
    ((on h).thread? 0 = some h ∧ h.ended = none ∧ (on h).syncWait 0 h = false) ∧
    (let p := thr (iword 0x60 0 0 0 0 0 0)
     let x : State := { on p (withRegion 0) with parts := [(1, { State.newPart (.thread 0) .write 0 3 0 8 [] [] with st := .admitted })] }
     x.thread? 0 = some p ∧ x.syncWait 0 p = true) :=
  ⟨⟨rfl, by decide +kernel, by decide +kernel, by decide +kernel, by decide +kernel, by decide +kernel, rfl, rfl⟩, ⟨rfl, rfl, by decide +kernel⟩, rfl, by decide +kernel⟩

theorem test_witness_ControlPrograms :
    let e := { thr 0 .invalid true with ended := some ⟨0, 0, 1⟩, start := .control 3 }
    let s : State := { State.reset with eng := { State.reset.eng with threads := [(15, e)] } }
    let c := with' [F.MGW_STATUS_CQ_RUN.is 1, F.MGW_STATUS_PHASE.is 1, F.MGW_CQ_BASE_LOG2.is 4, F.MGW_CQ_DOORBELL_TAIL.is 1, F.PRG_CTL_PVALID.is 1 2, F.PRG_CTL_CTLMODE.is 1 2]
    let u := (c.wakeEngine 15).setF F.MGW_STATUS_CQ_HEAD 1
    (s.thread? 15 = some e ∧ e.start = .control 3 ∧ e.ended = some ⟨0, 0, 1⟩ ∧ e.tx = none ∧ s.partsOf 15 = [] ∧ s.bufs = []) ∧
    (c.flag F.MGW_STATUS_CQ_RUN = true ∧ c.f F.MGW_STATUS_PHASE = 1 ∧ c.thread? 15 = none ∧
      c.f F.MGW_STATUS_CQ_HEAD ≠ c.f F.MGW_CQ_DOORBELL_TAIL % 2 ^ c.f F.MGW_CQ_BASE_LOG2 ∧ c.supply.gated.contains 0 = false ∧ c.f F.MGW_CQ_BASE_LOG2 ≤ 16) ∧
    (u.descRefused [0] = true ∧ u.descRefused [2, 2] = false ∧ bits ((([2, 2] : List U64).getD 0 0)).toNat 7 0 = 2 ∧
      State.bindAll (u.bindControl (u.startRegs 0 0 0)) .invalid (u.slotDecls 2) = .inr (Vector.replicate 8 Handle.invalid)) :=
  ⟨⟨rfl, rfl, rfl, rfl, rfl, rfl⟩, ⟨by decide +kernel, by decide +kernel, rfl, by decide +kernel, by decide +kernel, by decide +kernel⟩,
    by decide +kernel, by decide +kernel, by decide +kernel, rfl⟩

/-! Weirs, groups, links, revocation, reads that clear. -/

/-- Device 0 of a stack of four, its master, a member; the other members are 1 to 3. -/
def masterState : State := with' [F.STK_STATUS_MEMBER_STATE.is 2, F.STK_STATUS_MASTER_IDX.is 0, F.STK_STATUS_DEVICES.is 4, F.STK_MEMBERS_MEMBERS.is 15,
  F.STK_STATUS_MASTER_EPOCH.is 3, F.STK_STATUS_DEPUTY_IDX.is 2]
/-- Device 0 of that stack where device 1 is the master. -/
def memberState' : State := with' [F.STK_STATUS_MASTER_IDX.is 1] masterState
/-- A state with a staging store. -/
def staged (s : State) (x : Stage) : State := { s with stage := x }

theorem test_witness_Weirs :
    let g : Group := ⟨4, [(F.LNK_CTL_ROLE.key 0 0, 0)], true, [(1, 1)]⟩
    let ask := staged masterState { Stage.reset with round := some (1, 4), asked := [1] }
    let dev := staged memberState' { Stage.reset with prep := some (1, 4), groups := [g] }
    (masterState.ruling = true ∧ masterState.stage.round = none ∧ State.fitting [] [g] = [g]) ∧
    (memberState'.memberState = 2 ∧ memberState'.isMaster = false ∧ dev.stage.doubt = false ∧ dev.stage.prep = some (1, 4) ∧ dev.holdsWords 4 = true ∧ dev.holdsWords 3 = false ∧
      (dev.stage.outcome.any fun o => o.weir == 1) = false) ∧
    (ask.ruling = true ∧ ask.stage.round = some (1, 4) ∧ 1 ∈ ask.stage.asked ∧ (ask.stage.acked.any fun a => a.1 == 1) = false ∧
      (ask.stage.acked.foldl (fun (m : SMap Nat) a => m.del a.1) ask.stage.misses).get 0 1 + 1 < ask.f F.WEIR_CTL_MISS_LIMIT) ∧
    (∀ d ∈ [1], ([(1, [])].any fun a : Nat × List Nat => a.1 == d) = true) :=
  ⟨⟨by decide +kernel, rfl, by decide +kernel⟩, ⟨by decide +kernel, by decide +kernel, rfl, rfl, by decide +kernel, by decide +kernel, rfl⟩,
    ⟨by decide +kernel, rfl, by decide, rfl, by decide +kernel⟩, by decide⟩

theorem test_witness_Weirs_apply :
    let g : Group := ⟨4, [(F.DEV_CTLSTAT_CTL_RUN.key 0 0, 0)], true, [(0, 1)]⟩
    let o : Outcome := ⟨1, true, 4, []⟩
    let s := staged (with' [F.WEIR_GROUP_GROUP_SEQ.is 4] memberState') { Stage.reset with outcome := some o, groups := [g] }
    let q := staged masterState { Stage.reset with history := [o] }
    let d := staged memberState' { Stage.reset with doubt := true, prep := some (1, 4) }
    (s.memberState = 2 ∧ s.stage.stackReset = false ∧ s.flash.install = false ∧ s.stage.doubt = false ∧ s.stage.outcome = some ⟨s.weirCount + 1, true, 4, []⟩ ∧
      s.stage.groups = [g] ∧ g.seq ≤ 4 ∧ (∀ x ∈ g.words, keySpace x.1 = 1) ∧ (g.words.map Prod.fst).Nodup ∧ g.mine = true ∧ g.seq % 2 ^ 32 = s.f F.WEIR_GROUP_GROUP_SEQ) ∧
    (memberState'.stage.outcome = none ∧ memberState'.stage.prep = none) ∧ (q.ruling = true ∧ q.stage.history.find? (fun x => x.weir == 1) = some o) ∧
    (d.Inv ∧ d.stage.doubt = true ∧ d.stage.prep = some (1, 4) ∧ d.parts = []) :=
  ⟨⟨by decide +kernel, rfl, rfl, rfl, rfl, rfl, by decide, by decide +kernel, by decide, rfl, by decide +kernel⟩, ⟨rfl, rfl⟩, ⟨by decide +kernel, rfl⟩,
    by unfold State.Inv; decide +kernel, rfl, rfl, rfl⟩

theorem test_witness_GroupClosing :
    let m (ok : Bool) : GroupMsg := ⟨1, [(State.devAddr 1 braidKey, resetWord braidKey)], ok⟩
    let h := thr 0
    let s : State := { opened [] with eng := { State.reset.eng with threads := [(15, h)] }, stage := { Stage.reset with closing := some [⟨braidKey, some 0, 5⟩] } }
    let i : State := { memberState' with flash := State.reset.flash }
    (masterState.ruling = true ∧ (m true).dev ≠ masterState.index ∧ (m false).othersOk = false ∧ (∀ x ∈ masterState.stage.groups, x.seq ≠ masterState.stage.nextSeq) ∧
      (masterState.closeAtMaster (m true)).2 = some 1) ∧
    (i.memberState = 2 ∧ (i.checkOwn [(braidKey, resetWord braidKey)]).2 = true ∧ (i.checkOwn [(F.LNK_CTL_ROLE.key 0 0, BitVec.ofNat 64 (2 ^ 62 + 2 ^ 40))]).2 = false) ∧
    (State.reset.memberState = 0 ∧ State.reset.flash.image = none) ∧ (s.stage.closing = some [⟨braidKey, some 0, 5⟩] ∧ s.thread? 15 = some h) :=
  ⟨⟨by decide +kernel, by decide +kernel, rfl, by decide +kernel, by decide +kernel⟩, ⟨by decide +kernel, by decide +kernel, by decide +kernel⟩, ⟨by decide +kernel, rfl⟩, rfl, rfl⟩

theorem test_witness_LinksAndPorts :
    let s := with' [F.LNK_CTL_ROLE.is 1 11, F.LNK_CTL_PORT_MODE.is 3 11, F.LNK_CTL_PORT_EN.is 128 11, F.LNK_STATUS_LANE_LOCK.is 255 11]
    let c := with' [F.LNK_CTL_ROLE.is 3 11, F.LNK_STATUS_LANE_LOCK.is 128 11]
    let u := with' [F.LNK_STATUS_PORT_UP.is 128 11] s
    (11 < 12 ∧ 7 < 8 ∧ 95 < 96 ∧ s.f F.LNK_CTL_ROLE (95 / 8) ≠ 0 ∧ s.f F.LNK_CTL_ROLE (95 / 8) ≠ 2) ∧
    ((c.f F.LNK_STATUS_LANE_LOCK (95 / 8)).testBit (95 % 8) = true ∧ c.f F.LNK_CTL_ROLE (95 / 8) ≠ 1) ∧
    (s.f F.LNK_CTL_ROLE 11 = 1 ∧ s.f F.LNK_STATUS_LANE_LOCK 11 = 0xFF ∧ 7 < s.portCount 11 ∧ (s.f F.LNK_CTL_PORT_EN 11).testBit 7 = true ∧ (s.f F.LNK_STATUS_PORT_UP 11).testBit 7 = false) ∧
    ((u.f F.LNK_STATUS_PORT_UP 11).testBit 7 = true ∧ u.stage.opened = none ∧ u.stage.closing = none ∧ u.stage.groups = []) :=
  ⟨by decide +kernel, by decide +kernel, by decide +kernel, by decide +kernel, rfl, rfl, rfl⟩

theorem test_witness_Revocations :
    let s := withRegion
    let r := with' [F.REG_STATE_REVOKE_STATE.is 1 3] s
    let p : State := { r with parts := [(1, { State.newPart (.cmd 5 9) .read 0 3 0 8 [] [] with st := .admitted })] }
    let d := with' [F.DOM_CTL_DRAIN_PENDING.is 1 65535]
    (s.regionValid 3 = true ∧ s.f F.REG_STATE_REVOKE_STATE 3 = 0) ∧ (r.regionValid 3 = true ∧ r.f F.REG_STATE_REVOKE_STATE 3 = 1 ∧ r.regionDrained 3 = true) ∧
    p.regionDrained 3 = false ∧ (d.flag F.DOM_CTL_DRAIN_PENDING 65535 = true ∧ d.mappingsDrained 65535 = true) := by
  decide +kernel

theorem test_witness_ReadsThatClear :
    let b : Buf := ⟨.zeroing, 0, 0, [], []⟩
    let s : State := { with' [F.POOL_STATUS_STATE.is 1 15] with bufs := [(15 * 2 ^ 20 + 1, b)] }
    15 < 16 ∧ 255 < 256 ∧ s.buf? (15 * 2 ^ 20 + 1) = some b ∧ b.st = .zeroing ∧ s.f F.POOL_STATUS_STATE 15 = 1 :=
  ⟨by decide, by decide, rfl, rfl, by decide +kernel⟩

/-! DRAM channels and streams. -/

/-- Channel 15 trained with 2 ranks, in state `x`. -/
def withChan (x : Chan) : State :=
  { with' [F.CH_STATUS_TRAINED.is 1 15, F.CH_STATUS_RANKS.is 2 15, F.DRM_CTL_PD_EN.is 1, F.DRM_CTL_MODS_PER_CH.is 2, F.DRM_ECC_SCRUB_EN.is 1] with chans := [(15, x)] }
/-- A request of line 7 on subchannel 1, rank 1. -/
def req (w : Bool) : DReq := ⟨0, 1, 7, 1, 1, 3, w, List.replicate 64 5, 0, false⟩

theorem test_witness_DramChannels :
    let e := withChan .empty
    let q := withChan { Chan.empty with reqs := [req true] }
    let i := withChan { Chan.empty with issued := [(req false, false)] }
    (e.trained 15 = true ∧ 6 ≤ 6 ∧ 1 < 2 ∧ 1 < e.f F.CH_STATUS_RANKS 15 ∧ ((e.chan 15).reqs.any fun y => y.id == 1) = false ∧ ((e.chan 15).issued.any fun e => e.1.id == 1) = false ∧
      ((e.chan 15).reqs.any fun y => y.isWrite && y.line == 7) = false ∧ ((e.chan 15).reqs.filter fun y => y.isWrite && y.sub == 1).length < 64) ∧
    (((q.chan 15).reqs.any fun y => y.id == 2) = false ∧ ((q.chan 15).reqs.filter fun y => y.isWrite && y.line == 7).getLast? = some (req true)) ∧
    ((q.chan 15).reqs = [req true] ∧ (q.chan 15).calRun ≠ 1 ∧ (q.chan 15).zqRun = false ∧ q.flag F.CH_STATUS_THROTTLED 15 = false ∧ q.flash.run = none ∧ 2 * 1 < q.portNs 0) ∧
    ((i.chan 15).issued.find? (fun e => e.1.id == 1) = some (req false, false) ∧ i.regionOfGran (7 / 1024) = none) ∧
    (e.flag F.DRM_CTL_PD_EN = true ∧ ((e.chan 15).reqs.any fun y => y.sub == 1 && y.rank == 1) = false ∧ (e.chan 15).calDue = false ∧ (e.chan 15).calRun ≠ 1 ∧
      (e.chan 15).zqDue = false ∧ (e.chan 15).zqRun = false ∧ (e.chan 15).asleep.contains 9 = false) :=
  ⟨by decide +kernel, ⟨by decide +kernel, rfl⟩, ⟨rfl, by decide +kernel, rfl, by decide +kernel, rfl, by decide +kernel⟩, ⟨rfl, by decide +kernel⟩, by decide +kernel⟩

theorem test_witness_DramChannels_refresh :
    let c := withChan { Chan.empty with calRun := 1 }
    let z := withChan { Chan.empty with zqRun := true }
    let e := withChan .empty
    let u : Unsettled := ⟨0, 0, [7], none, .part 4, 0, 64, false, 0⟩
    let p := State.newPart (.cmd 5 9) .write 0 3 0 64 [] []
    let s : State := { State.reset with dram := { State.reset.dram with unsettled := [u] }, parts := [(4, p)] }
    let lim := c.f F.DRM_CAL_CAL_LIMIT
    ((c.chan 15).calRun = 1 ∧ -(lim : Int) ≤ lim ∧ (lim : Int) ≤ lim ∧ (lim : Int) < lim + 1) ∧ (z.chan 15).zqRun = true ∧
    (1 < e.f F.DRM_CTL_MODS_PER_CH ∧ (e.chan 15).temps = [] ∧ 20 < e.f F.DRM_CAL_THROTTLE_C ∧ (e.chan 15).mr4Hot = false ∧ (e.chan 15).tooHot = false ∧
      e.flag F.CH_STATUS_HOT 15 = false ∧ e.flag F.CH_STATUS_THROTTLED 15 = false) ∧
    (e.flag F.DRM_ECC_SCRUB_EN = true ∧ 0 < e.moduleLines ∧ e.scrub.1 + 1 < e.moduleLines) ∧
    (s.dram.unsettled = [u] ∧ u.who = .part 4 ∧ u.mirror = none ∧ s.tstate ≠ TS.holding ∧ s.parts.at? 4 = some p ∧ (∀ k, p.org ≠ .thread k) ∧ (∀ e ∈ s.parts, e.2.st ≠ .heldSeal) ∧ u.lines.contains 7 = true ∧
      u.lines.filter (· != 7) = [] ∧ ([7, 8].filter (· != 7)) ≠ []) :=
  ⟨by decide +kernel, rfl, by decide +kernel, by decide +kernel, rfl, rfl, rfl, by decide +kernel, rfl, nofun, by decide, by decide, by decide, by decide⟩

/-- Stream 255 over region 3, filling, of 8 segments with a window of 2 slots of 1 granule, with the state `x`; device 0 of pair 0 controls it. -/
def withStream (x : Stream) : State :=
  { with' [F.STR_CTL_SVALID.is 1 255, F.STR_CTL_REGION.is 3 255, F.STR_CTL_WIN_M1.is 1 255, F.STR_SHAPE_SEG_COUNT.is 8 255, F.STR_SHAPE_SLOT_GRAN.is 4 255,
      F.STR_STATUS_STATE.is SS.filling 255, F.STR_STATUS_CONTROLLER.is 1 255, F.STR_RELEASE_QUORUM.is 2 255, F.STR_LOAD_SEG_N.is 1 255, F.STR_RELEASE_SCHED_EN.is 1 255,
      F.STR_RELEASE_SCHED_LEN.is 2 255, F.STK_STATUS_MEMBER_STATE.is 2, F.STK_MEMBERS_MEMBERS.is 3, F.TWIN_STATUS_STATE.is TS.mirrored] (withRegion 3) with streams := [(255, x)], twin := { State.reset.twin with linkDown := false } }
/-- A slot at position 0. -/
def slot0 : Slot := ⟨0, false, [], false, [], []⟩
/-- An image with one tile of 64 bytes stored at its byte 96. -/
def img0 : List Byte := toBytes 8 (2 ^ 32 + 1) ++ toBytes 8 160 ++ List.replicate 48 0 ++ toBytes 8 0 ++ toBytes 8 96 ++ toBytes 8 64 ++ List.replicate 72 0

theorem test_witness_StreamBlock :
    let l := withStream { Stream.empty with load := some (0, 4) }
    let s := withStream { Stream.empty with loaded := [(0, img0)], slots := [(0, slot0)] }
    let p := withStream { Stream.empty with slots := [(0, { slot0 with recov := [(0, 0, [1])] })] }
    (255 < 256 ∧ l.saving = false ∧ (l.stream 255).load = some (0, 4) ∧ 0 = l.f F.STR_LOAD_SEG_FIRST 255 + 0 ∧ l.srcImage [] (l.f F.STR_LOAD_SRC_REGION 255) 4 = none ∧
      0 + 1 = l.f F.STR_LOAD_SEG_N 255 ∧ l.flashTurn (Config.tileChan 255 0 0) 5 = true) ∧
    (s.slotOfSeg 255 0 = some (0, slot0) ∧ (s.stream 255).loaded.at? 0 = some img0 ∧ s.saving = false ∧ s.strRunning 255 = true ∧ s.strMine 255 0 0 = true ∧
      0 < imgTiles (rdList img0) ∧ slot0.tiles.contains 0 = false ∧ (slot0.recov.any fun e => e.1 == 0) = false ∧ s.listed 255 0 0 = false ∧ slot0.bad.contains 0 = false ∧
      s.fetchTurn 255 0 0 = true ∧ s.flashTurn (Config.tileChan 255 0 0) 5 = true ∧ (s.waitersOf 255 0 0).isEmpty = true ∧ (tileEnt (rdList img0) 0).off + (tileEnt (rdList img0) 0).slen ≤ img0.length ∧ s.twinAble = true) ∧
    (p.slotOfSeg 255 0 = some (0, { slot0 with recov := [(0, 0, [1])] }) ∧ (∃ k < 256, p.flag F.STR_POISON_PVALID 255 k = false) ∧ 0 < 2 ^ 13 ∧ p.waitersOf 255 0 0 = []) :=
  ⟨by and_intros <;> decide +kernel,
    by and_intros <;> decide +kernel,
    by decide +kernel, ⟨0, by decide, by decide +kernel⟩, by decide, by decide +kernel⟩

theorem test_witness_StreamBlock_window :
    let s := withStream .empty
    let n := with' [F.STR_STATUS_CONTROLLER.is 0 255] s
    let e := with' [F.STR_SCHED_SEG.is 2 255 0] s
    let pt := { State.newPart (.cmd 5 9) .tile 0 3 0 0 [] [] with st := .heldRead }
    let h : State := { s with parts := [(4, pt)] }
    (s.strRunning 255 = true ∧ s.controls 255 = true ∧ (s.stream 255).inherited.contains (1, 5, 9) = false ∧ s.posOf 255 0 = some 0 ∧ 0 < (s.stream 255).first + s.strN 255 ∧
      s.posOk 255 0 = true ∧ 0 < s.strSegs 255 ∧ (s.stream 255).counts.get 0 0 + 1 < s.f F.STR_RELEASE_QUORUM 255) ∧
    (s.strHolds 255 = true ∧ n.controls 255 = false ∧ n.strHolds 255 = true ∧ n.strController 255 = some n.index ∧ n.queues = []) ∧
    (s.flag F.STR_RELEASE_SCHED_EN 255 = true ∧ (s.stream 255).sched < s.f F.STR_RELEASE_SCHED_LEN 255 ∧ s.f F.STR_SCHED_SEG 255 0 < s.strN 255 ∧ e.f F.STR_SCHED_SEG 255 0 = e.strN 255 ∧
      e.posOk 255 2 = true ∧ e.strHolds 255 = true ∧ e.controls 255 = true) ∧
    (h.parts.at? 4 = some pt ∧ h.isWaiter 255 pt = true ∧ h.slotOfSeg 255 (tileSeg pt) = none) :=
  by and_intros <;> decide +kernel

/-! Queues, parts, the transport. -/

/-- A capsule of a command of queue 5: opcode, tag 9, length 64, key and address 0. -/
def capsule (op len : Nat) (q3 : Nat := 0) : Cmd :=
  ⟨9, 0, [BitVec.ofNat 64 (len * 2 ^ 32 + 9 * 2 ^ 16 + op), 0, 0, BitVec.ofNat 64 q3, 0, 0, 0, 0], List.replicate 64 1, true, 0, some ⟨3, 0, 65536 * 4, 0⟩, false, [], none, false, [], none, none, [], [],
    none⟩
/-- Device 0 with region 3 VOLATILE, queue 5 READY and resident in domain 2, and the command `c` in it. -/
def cmdState (cs : List Cmd) (st : Nat := QS.ready) (s : State := withRegion) : State :=
  { with' [F.Q_STATUS_STATE.is st 5, F.Q_STATUS_RESIDENT.is 1 5, F.Q_CTL_QDEPTH_M1.is 15 5, F.Q_CTL_DOMAIN.is 2 5] s with queues := [(5, { Queue.empty with cmds := cs })] }

theorem test_witness_AccessCommands :
    (∀ op ∈ [Op.read, Op.write, Op.writeAtomic, Op.compareWrite, Op.fetchAdd, Op.invoke],
      (cmdState [capsule op 64]).queue? 5 = some { Queue.empty with cmds := [capsule op 64] } ∧ ([capsule op 64].find? fun c => c.tag == 9) = some (capsule op 64) ∧
        (capsule op 64).op = op ∧ State.mayStart { Queue.empty with cmds := [capsule op 64] } (capsule op 64) = true) ∧
    ((capsule Op.read 64).tgt = some ⟨3, 0, 262144, 0⟩ ∧ 0 < (capsule Op.read 64).length ∧ 0 % granBytes + 64 ≤ granBytes ∧ withRegion.readDev 3 0 = withRegion.index ∧
      withRegion.leadDev 3 0 = withRegion.index) :=
  ⟨by intro op h; fin_cases h <;> exact ⟨rfl, rfl, by decide +kernel, by decide +kernel⟩, rfl, by decide +kernel, by decide +kernel, by decide +kernel, by decide +kernel⟩

theorem test_witness_AccessCommands_log :
    let s := with' [F.LOG_CTL_LVALID.is 1 7, F.LOG_CTL_REGION.is 3 7, F.TWIN_STATUS_STATE.is TS.soloProv] (cmdState [capsule Op.append 64] QS.ready (withRegion 1))
    let t := with' [F.STR_STATUS_CONTROLLER.is 0 255, F.STK_MEMBERS_MEMBERS.is 3, F.STR_CTL_SVALID.is 1 255, F.STR_CTL_REGION.is 3 255]
      (cmdState [capsule Op.segmentRelease 0] QS.ready (withRegion 3))
    (s.queue? 5 = some { Queue.empty with cmds := [capsule Op.append 64] } ∧ State.mayStart { Queue.empty with cmds := [capsule Op.append 64] } (capsule Op.append 64) = true ∧
      s.leadDev 3 (s.frontier 3) = s.index) ∧
    (State.mayStart { Queue.empty with cmds := [capsule Op.tileRead 64] } (capsule Op.tileRead 64) = true ∧ (t.tilePart (.cmd 5 9) 3 0 0 0 64 0).dev = t.index) ∧
    (State.mayStart { Queue.empty with cmds := [capsule Op.segmentRelease 0] } (capsule Op.segmentRelease 0) = true ∧ t.streamOf 3 = some 255 ∧ t.controls 255 = false ∧
      t.strController 255 = some 0 ∧ t.regionValid 3 = true ∧ t.f F.REG_STATE_REVOKE_STATE 3 = 0) :=
  ⟨⟨rfl, by decide +kernel, by decide +kernel⟩, ⟨by decide +kernel, by decide +kernel⟩, by and_intros <;> decide +kernel⟩

theorem test_witness_QueueControl :
    let a := capsule Op.abort 0 9
    let b := { capsule Op.abort 0 8 with tag := 9 }
    let e := { capsule Op.read 64 with tag := 8 }
    let l := capsule Op.elogRead 64
    let r := capsule Op.queueRestart 0
    let f := cmdState [r] QS.frozen
    (State.mayStart { Queue.empty with cmds := [a] } a = true ∧ a.op = Op.abort ∧ a.parts = [] ∧ bits (a.q 3) 15 0 = 9) ∧
    (State.mayStart { Queue.empty with cmds := [e, b] } b = true ∧ bits (b.q 3) 15 0 = 8 ∧ (cmdState [e, b]).cmd? 5 8 = some e ∧ e.outcome = none ∧ e.started = false ∧
      e.op ≠ Op.elogRead ∧ e.op ≠ Op.abort ∧ e.parts = []) ∧
    (State.mayStart { Queue.empty with cmds := [l] } l = true ∧ l.op = Op.elogRead ∧ Queue.empty.elog = []) ∧
    (State.mayStart { Queue.empty with cmds := [r] } r = true ∧ r.op = Op.queueRestart ∧ f.qState 5 = QS.frozen ∧ r.q 3 = f.f F.Q_STATUS_FREEZE_SEQ 5 ∧ 5 < 270336) ∧
    (cmdState []).qState 5 = QS.ready ∧ ((cmdState [] QS.closing).queue? 5 = some .empty ∧ (cmdState [] QS.closing).qState 5 = QS.closing ∧ (cmdState [] QS.closing).firedTags 5 = []) :=
  ⟨⟨by decide +kernel, by decide +kernel, rfl, by decide +kernel⟩, ⟨by decide +kernel, by decide +kernel, rfl, rfl, rfl, by decide +kernel, by decide +kernel, rfl⟩,
    ⟨by decide +kernel, by decide +kernel, rfl⟩, ⟨by decide +kernel, by decide +kernel, by decide +kernel, by decide +kernel, by decide⟩, by decide +kernel, rfl, by decide +kernel, by decide +kernel⟩

/-- A part of 64 bytes of region 3 that belongs to command 9 of queue 5. -/
def part0 (kind : PartKind) : Part := State.newPart (.cmd 5 9) kind 0 3 0 64 (List.replicate 64 1) []

theorem test_witness_PartsAndCompletions :
    let p : Part := { part0 .write with grp := 4 }
    let s : State := { cmdState [] with parts := [(4, p)] }
    let d := { part0 .write with st := .done }
    let c := { capsule Op.write 64 with started := true, parts := [4] }
    (s.parts.at? 4 = some p ∧ p.org = .cmd 5 9 ∧ p.dev = s.index ∧ p.st = .waiting ∧ p.onHold = false ∧ s.mates p = [(4, p)] ∧ p.cnt = 1 ∧ s.admissionHeld = false ∧
      s.isVolatile 3 = true ∧ s.leadDev 3 0 = s.index ∧ s.regionValid 3 = true ∧ s.f F.REG_STATE_REVOKE_STATE 3 = 0 ∧ s.admit6 3 0 true = .pass ∧ p.chunks = [] ∧
      s.caches = [] ∧ s.sealWaits 3 0 64 = false ∧ (∀ l ∈ linesOf (s.place 3 0).2 64, s.isPoisoned l = false) ∧ s.writeBlocked 4 p = false ∧ p.data.length = p.len) ∧
    (d.st = .done ∧ d.reported = false ∧ d.onHold = false ∧ d.code = 0 ∧ (cmdState [c]).cmd? 5 9 = some c ∧ c.op = Op.write ∧ c.parts = [4] ∧ c.outcome = none ∧
      ({ d with org := .thread 9 } : Part).org = .thread 9) := by
  and_intros <;> decide +kernel

theorem test_witness_PartsAndCompletions_hold :
    let c := { capsule Op.write 64 with started := true, parts := [4] }
    let o := { c with outcome := some ⟨0, 0, 0, 64, 0⟩ }
    let mine (e : Nat × Part) : Bool := e.2.grp == 6 && State.sameHome e.2.org (.remote 1 6)
    let m : Part := { part0 .write with org := .remote 1 6, grp := 6 }
    let s : State := { cmdState [] with parts := [(4, m)] }
    let f := { part0 .write with dev := 1, st := .forwarded }
    let k := { c with hold := some 7, asked := [1] }
    (State.mayComplete { Queue.empty with cmds := [o] } o = true ∧ (cmdState [o]).fiddles = []) ∧ (cmdState []).parts.filter mine = [] ∧
    (s.parts.filter mine = [(4, m)] ∧ s.parts.at? 4 = some m ∧ State.catchable m = true ∧ m.kind ≠ .invoke ∧
      (s.eng.threads.vals.any fun h => h.start == Start.remote 1 6) = false ∧ State.catchable { m with st := .done } = false) ∧
    ((cmdState [k]).cmd? 5 9 = some k ∧ k.hold = some 7 ∧ 7 ≠ 65536 ∧ 7 ≠ 9 ∧ k.asked = [1] ∧ k.answers = [] ∧ k.parts = [4] ∧ f.dev = 1 ∧
      1 ≠ (cmdState [k]).index ∧ f.st = .forwarded ∧ ({ cmdState [k] with parts := [(4, f)] } : State).targetOpen 5 k = true) := by
  and_intros <;> decide +kernel

/-! The transport. -/

/-- Device 0 as a member with host port 0, domain 2 with a mapping of region 3 (VOLATILE), and queue 5 as `x`, in braid (0) or compatible (1) mode. -/
def hostState (mode : Nat) (x : Queue) (s : State := withRegion) : State :=
  { with' [F.STK_STATUS_MEMBER_STATE.is 2, F.LNK_CTL_ROLE.is 1, F.LNK_CTL_PORT_EN.is 1, F.Q_STATUS_STATE.is QS.ready 5, F.Q_STATUS_RESIDENT.is 1 5, F.Q_CTL_QDEPTH_M1.is 15 5,
      F.Q_CTL_MODE.is mode 5, F.Q_CTL_DOMAIN.is 2 5, F.DOM_CTL_VALID.is 1 2, F.DOM_CTL_COMPAT_EN.is 1 2, F.DOM_KEY64_DOMAIN.is 2 2, F.DOM_KEY64_SECRET48.is 7 2, F.DOM_KEY32_DOMAIN.is 2 2,
      F.DOM_KEY32_SECRET16.is 7 2, F.MAP_VA_MVALID.is 1 2, F.MAP_VA_READ.is 1 2, F.MAP_VA_WRITE.is 1 2, F.MAP_VA_ATOMIC.is 1 2, F.MAP_TGT_REGION.is 3 2, F.MAP_LEN_NGRAN.is 4 2,
      F.POOL_STATUS_STATE.is 1, F.POOL_CTL_COUNT.is 1000] s with queues := [(5, x)] }
/-- A braid packet of message 0 and PSN 0 of queue 5, of `n` bytes at domain address 0. -/
def hdr (n : Nat) (type : Nat := Pkt.write) (psn : Nat := 0) : BraidHdr := ⟨0, none, 1, type, true, false, false, 5, 40, psn, 0, 9, n, 0, 1, BitVec.ofNat 64 (2 * 2 ^ 48 + 7), 0⟩
/-- A RoCE packet of the same message. -/
def rhdr (n : Nat) (psn : Nat := 0) : RoceHdr := ⟨0, true, true, 5, psn, 0, true, true, BitVec.ofNat 32 (2 * 2 ^ 16 + 7), 0, n, 0⟩

theorem test_witness_BraidMessages :
    let x := Queue.empty
    let s := hostState 0 x
    let u := s.setQueue 5 { x with rxNext := 1, rxSeen := [], sinceSack := 1, lastTs := 1, lastUse := 0 }
    let full := with' [F.POOL_STATUS_STATE.is 0] u
    (s.braidQueue (hdr 64) Pkt.write = some 5 ∧ s.braidQueue (hdr 64 Pkt.readReq) Pkt.readReq = some 5 ∧ s.braidQueue (hdr 8 Pkt.atomic) Pkt.atomic = some 5 ∧
      s.braidQueue (hdr 64 Pkt.capsule) Pkt.capsule = some 5) ∧ State.braidGood (hdr 64) Pkt.capsule = false ∧ s.braidHere (hdr 64) = true ∧
    (s.queue? 5 = some x ∧ InOrder s 5 x (hdr 64) ∧ (hdr 64).pktOff + 64 ≤ (hdr 64).msgLen ∧ (hdr 64).addr.toNat < 2 ^ 52 ∧
      u.refuseSize 5 64 = none ∧ u.refuseTarget 5 0 64 = none ∧ u.capsuleRefused 5 (State.capsuleWords (List.replicate 64 0)) = none ∧ (s.tagsInUse 5).contains 9 = false ∧
      (s.tagsInUse 5).length < s.qDepth 5) ∧
    (∀ n ∈ [Need.write, .read, .atomic], (u.checkAccess 5 (hdr 64).key.toNat 0 8 n (u.durablePort 0 none)).2 = (0, some ⟨3, 0, 262144, 0⟩)) ∧
    (s.readDev 3 0 = s.index ∧ s.leadDev 3 0 = s.index ∧ (0 + 0) % granBytes + 64 ≤ granBytes) ∧ full.refuseSize 5 64 = some (1, full.f F.TP_ADMIT_RETRY_BUSY) ∧
    (State.psnAfter 32 (2 ^ 32 - 1) 0 = 2 ^ 32 - 1 ∧ State.psnAfter 32 16384 0 = 16384 ∧ s.msg? 5 0 = none) ∧ (cmdState [capsule Op.read 64]).tagsInUse 5 = [9] :=
  ⟨by decide +kernel, by decide +kernel, by decide +kernel, ⟨rfl, ⟨rfl, rfl, rfl, by decide, rfl, rfl, nofun⟩, by and_intros <;> decide +kernel⟩, by and_intros <;> decide +kernel⟩

theorem test_witness_CompatMessages :
    let x := Queue.empty
    let s := hostState 1 x
    let u := s.setQueue 5 { x with rxNext := 1, nakSent := false, lastUse := 0 }
    let full := with' [F.POOL_STATUS_STATE.is 0] u
    (s.roceQueue (rhdr 64) = some 5 ∧ s.queue? 5 = some x ∧ (rhdr 64).psn = x.rxNext ∧ (rhdr 64).first = true ∧ s.msg? 5 0 = none ∧ (∀ m ∈ x.msgs, m.closed = true) ∧
      s.portBit F.LNK_STATUS_PORT_PAUSED (s.compatTx 5) = false ∧ u.refuseSize 5 64 = none ∧ u.refuseTarget 5 0 64 = none ∧ (rhdr 64).last = true ∧ u.capsuleRefused 5 (State.capsuleWords (List.replicate 64 0)) = none ∧
      (s.tagsInUse 5).contains 0 = false ∧ (s.tagsInUse 5).length < s.qDepth 5) ∧
    (∀ n ∈ [Need.write, .read, .atomic], (u.checkAccess 5 (rhdr 64).rkey.toNat 0 8 n (u.durablePort 0 none)).2 = (0, some ⟨3, 0, 262144, 0⟩)) ∧
    ((rhdr 64 1).psn ≠ x.rxNext ∧ State.psnAfter 24 1 0 < 2 ^ 23 ∧ x.nakSent = false ∧ 2 ^ 23 ≤ State.psnAfter 24 (2 ^ 24 - 1) 0 ∧ s.readPsns 64 = 1) ∧
    full.refuseSize 5 64 = some (1, full.f F.TP_ADMIT_RETRY_BUSY) :=
  ⟨⟨by decide +kernel, rfl, rfl, rfl, rfl, nofun, by and_intros <;> decide +kernel⟩, by and_intros <;> decide +kernel⟩

/-- A packet sent with PSN 3 and not acknowledged. -/
def txp (tries : Nat := 1) : TxPkt := ⟨3, 2, tries, 10, 0, none, false, ⟨.braid, 5, [Pkt.hostWrite, 3, 0, 0, 8], []⟩⟩

theorem test_witness_Acknowledgements :
    let s := hostState 0 { Queue.empty with tx := [txp], sinceSack := 1, paths := [(2, ⟨none, none, true⟩)] }
    let r := hostState 0 { Queue.empty with refused := [(1000, txp)] }
    let c := hostState 1 { Queue.empty with tx := [txp] }
    (s.homed 5 = some 5 ∧ (∀ p ∈ [txp], p.buf = none) ∧ (∀ p ∈ [txp], ∀ e ∈ [txp], e.sentUs ≤ p.sentUs + s.f F.TP_PATH_REORDER_TOL) ∧
      (1000 * 10 < 1000 * (txp).sentUs + s.rto Queue.empty txp ∧ 1000 * (txp).sentUs + s.rto Queue.empty txp ≤ 1000 * 10 ^ 9) ∧ Queue.empty.sinceSack = 0 ∧ s.isBraid 5 = true ∧ ([txp].find? fun p => p.psn == 3) = some txp ∧
      (txp 1).tries ≤ s.f F.TP_BRAID_RETRY_MAX ∧ s.f F.TP_BRAID_RETRY_MAX < (txp 999).tries ∧ s.qState 5 = QS.ready ∧ SMap.at? [(2, (⟨none, none, true⟩ : Machine.Path))] 2 = some ⟨none, none, true⟩) ∧
    (r.queue? 5 = some { Queue.empty with refused := [(1000, txp)] } ∧ 1000 ≤ 1 * 1000 ∧ Queue.empty.cmds = [] ∧ r.eng.threads = []) ∧
    (c.isBraid 5 = false ∧ [txp] ≠ [] ∧ (∀ p ∈ [txp], p.tries ≤ c.f F.TP_COMPAT_COMPAT_RETRY) ∧ (∀ p ∈ [txp 999], c.f F.TP_COMPAT_COMPAT_RETRY < p.tries) ∧ c.qState 5 = QS.ready ∧
      c.portBit F.LNK_STATUS_PORT_PAUSED (c.compatTx 5) = false) :=
  ⟨by and_intros <;> decide +kernel, ⟨rfl, by decide, rfl, rfl⟩, by decide +kernel⟩

theorem test_witness_FramesAndRates :
    let fr (p : HostPayload) : HostFrame := ⟨0, false, 0, 2, 9216, true, 1, false, false, p⟩
    let x := { Queue.empty with fetching := true, parked := [(1, 0, 3, 0), (2, 5, 3, 0)] }
    let s := with' [F.Q_STATUS_RESIDENT.is 0 5, F.POOL_STATUS_STATE.is 1 2, F.POOL_CTL_COUNT.is 100 2, F.TP_CC2_CC_EN.is 1, F.LNK_CTL_PFC_EN.is 1, F.LNK_STATUS_PORT_PAUSED.is 1,
      F.STK_MEMBERS_MEMBERS.is 3] (hostState 0 x)
    (s.portServes (fr .icmpOther).port = true ∧ (fr .icmpOther).fcsOk = true ∧ (fr .icmpOther).bytes ≤ 9216 ∧ (fr .icmpOther).tags ≤ 1 ∧ s.ownAddr 0 = true ∧ s.time < s.icmp.1 + 10 ^ 9 ∧
      s.icmp.2 < 1000 ∧ 80 ≠ s.f F.TP_BRAID_BRAID_UDP ∧ 80 ≠ 4791) ∧
    (s.present (2 * 2 ^ 19 / 2 ^ 19 % 64) = false ∧ s.hostOpen = true ∧ (fr .icmpOther).noBuf = false ∧ 5 / 2 ^ 19 % 64 = s.index ∧ 5 = 5 % 2 ^ 19 ∧ s.qState 5 ≠ QS.free ∧ s.isBraid 5 = true ∧ s.flag F.Q_STATUS_RESIDENT 5 = false ∧
      s.queue? 5 = some x ∧ s.poolOn 2 = true ∧ ceilDiv 256 256 ≤ s.eddyFree ∧ s.f F.TP_QUEUE_STAT_RESIDENT < 8192) ∧
    (1 ≠ s.index ∧ s.present 1 = true) ∧ s.flag F.TP_CC2_CC_EN = true ∧ s.flag F.LNK_CTL_PFC_EN 0 = true ∧ s.portBit F.LNK_STATUS_PORT_PAUSED 0 = true ∧
    (hostState 1 x).isBraid 5 = false :=
  by and_intros <;> decide +kernel

/-! The twin pair. -/

/-- Device 0 of a pair in a twin state, with octet 11 as its one TWIN octet. -/
def pairState (ts : Nat) (s : State := masterState) : State :=
  let s := with' [F.TWIN_STATUS_STATE.is ts, F.LNK_CTL_ROLE.is 2 11, F.TWIN_CTL_PAIR_MODE.is 1, F.TWIN_STATUS_SPLIT_EPOCH.is 6] s
  { s with twin := { s.twin with linkDown := false } }
/-- That device with another twin record. -/
def onTw (s : State) (f : Twin → Twin) : State := { s with twin := f s.twin }

theorem test_witness_TwinFrames :
    let m := pairState TS.mirrored
    let l : LinkHdr := ⟨0, 3, 1, 0⟩
    let owed := onTw m fun x => { x with owed := [0, 0, 5, 0] }
    let un := onTw m fun x => { x with unacked := [3] }
    let sent (k : Nat) := onTw m fun x => { x with replay := [(2, 7, 5, readMsg [])], retries := [(0, 0), (0, 0), (7, k), (0, 0)] }
    let resent (k : Nat) := (sent k).twin.replay.filter fun e => e.1 == 2 && seqLe 7 e.2.1
    NoRecovery m ∧ (11 ∈ m.twinOctets ∧ 11 ∉ m.twin.octetsDown ∧ m.twinOn = true ∧ m.twin.noticeSent = false ∧ (∀ k < 4, m.twin.owed.getD k 0 = 0)) ∧ CanSend m 3 1 ∧
    CanSend m 1 2 ∧ FrameDue m l 3 ∧ FrameDue (onTw m fun x => { x with seqIn := [none, none, some 0, none] }) l 2 ∧
    (∀ k ∈ [3, 8], ((resent k).any fun e => e.2.1 == 7) = true) ∧ (((sent 3).twin.replay.filter fun e => e.1 == 1 && seqLe 7 e.2.1).any fun e => e.2.1 == 7) = false ∧
    (∀ k < 4, (((sent k).twin.retries.getD 2 (0, 0)).1 = 7 ∧ ((sent k).twin.retries.getD 2 (0, 0)).2 + 1 ≤ 8)) ∧ 8 < ((sent 8).twin.retries.getD 2 (0, 0)).2 + 1 ∧
    (owed.twin.owed.getD 2 0 ≠ 0 ∧ ∀ k < 4, k ≠ 2 → owed.twin.owed.getD k 0 = 0) ∧
    (m.tstate = TS.mirrored ∧ (∀ h ∈ m.twin.held, h.1 ≠ l.crVc) ∧ 3 ∈ un.twin.unacked ∧ m.twin.unitIn = [] ∧ m.twin.late = [] ∧ m.copyReady 0 = false ∧
      ({ m with dram := { m.dram with dirty := [0] } } : State).copyReady 0 = true) ∧
    (m.regionOfGran 0 = none ∧ m.isPoisoned 0 = false ∧ m.recovering 0 = none ∧ (List.replicate 64 (0 : Byte)).length = 64) :=
  ⟨fun _ => nofun, by decide +kernel, ⟨rfl, by decide +kernel, nofun⟩, ⟨rfl, by decide +kernel, nofun⟩, ⟨by decide +kernel, rfl, nofun⟩,
    ⟨by decide +kernel, rfl, fun _ h => (Option.some.inj h).symm⟩, by and_intros <;> decide +kernel⟩

theorem test_witness_TwinFrames_parts :
    let p := part0 .write
    let q := { p with st := .heldHeal 7 }
    let u : Unsettled := ⟨0, 4, [], some 3, .part 4, 0, 64, false, 0⟩
    let m : State := { pairState TS.mirrored with parts := [(4, p)], dram := { State.reset.dram with unsettled := [u] } }
    let h : State := { pairState TS.suspect with parts := [(4, q)], dram := { State.reset.dram with heals := [7] } }
    let f : State := { pairState TS.mirrored withRegion with parts := [(4, { p with st := .forwarded, dev := 2 })] }
    (m.twin.lastResyncSeq = none ∧ m.dram.unsettled = [u] ∧ u.mirror = some 3 ∧ seqLe 3 3 = true ∧ u.lines = [] ∧ u.who = .part 4 ∧ PartIs m 4 p ∧ p.org = .cmd 5 9) ∧
    (h.tstate = TS.suspect ∧ h.twin.overdue = none ∧ 7 ∈ h.dram.heals ∧ (h.parts.filter fun e => e.2.st == .heldHeal 7) = [(4, q)] ∧ PartIs h 4 q) ∧
    (2 ≠ f.twinIdx ∧ f.admissionHeld = false ∧ f.isVolatile 3 = true ∧ f.regionValid 3 = true ∧ f.f F.REG_STATE_REVOKE_STATE 3 = 0 ∧ f.admit6 3 0 false = .pass ∧
      (∀ l ∈ linesOf (f.place 3 0).2 64, f.isPoisoned l = false) ∧ f.streamOf 3 = none ∧ PartIs f 4 { p with st := .forwarded, dev := 2 }) ∧
    CachesSound f ∧ (f.sealWaits 3 0 64 = false ∧ f.leadDev 3 0 = f.index ∧ (pairState TS.suspect).parts = [] ∧ (pairState TS.suspect).twin.overdue = none) :=
  ⟨⟨rfl, rfl, rfl, by decide +kernel, rfl, rfl, rfl, rfl⟩, ⟨by decide +kernel, rfl, by decide, rfl, rfl⟩, ⟨by decide +kernel, by decide +kernel, by decide +kernel, by decide +kernel,
    by decide +kernel, by decide +kernel, by decide +kernel, by decide +kernel, rfl⟩, caches_sound _ rfl, by decide +kernel⟩

theorem test_witness_TwinGrants :
    (∀ ts ∈ [TS.suspect, TS.resyncSource, TS.resyncTarget, TS.holding, TS.fenced, TS.mirrored, TS.solo], (pairState ts).tstate = ts) ∧
    Quiet (pairState TS.holding) ∧ ((pairState TS.holding).twin.fromTarget = false ∧ (pairState TS.holding).saving = false ∧ (pairState TS.holding).twin.noAsk = false) ∧
    ((with' [F.STK_STATUS_DEVICES.is 2] (pairState TS.holding)).devices = 2 ∧ bit (BitVec.ofNat 64 (6 * 2 ^ 32 + 1)).toNat 0 = true ∧
      bits (BitVec.ofNat 64 (6 * 2 ^ 32 + 1)).toNat 63 32 = (pairState TS.holding).epoch) ∧
    (saving0.saving = true ∧ (pairState TS.mirrored).epoch ≤ 6 ∧ (pairState TS.suspect).sentToTwin = [] ∧ (onTw (pairState TS.suspect) fun x => { x with overdue := some 3 }).twin.overdue ≠ none) ∧ ((with' [F.STK_STATUS_MASTER_IDX.is 2] (pairState TS.holding)).arbiterOf 0 = some 2) ∧
    (onTw (pairState TS.solo) fun x => { x with reportDue := true }).twin.reportDue = true :=
  ⟨by decide +kernel, ⟨rfl, rfl, rfl⟩, by decide +kernel, by decide +kernel, by decide +kernel, by decide +kernel, rfl⟩

theorem test_witness_TwinGrants_arbiter :
    let s := with' [F.STK_MEMBERS_MEMBERS.is 15] masterState
    let g := onTw s fun x => { x with arbiter := [(1, 6, 0)] }
    let w (k : Nat) := onTw s fun x => { x with pendingGrant := [(1, 6, k)] }
    (s.arbiterOf 1 = some s.index ∧ s.present (2 * 1 + 1) = true ∧ s.present (2 * 20) = false ∧ s.arbiterOf 20 = some s.index ∧ g.grantedSide 1 6 = some 0 ∧ s.grantedSide 1 6 = none ∧
      s.twin.pendingGrant = [] ∧ s.standbyOf s.index = some 2 ∧ s.inService 2 = true) ∧
    (∀ k ∈ [0, 2], ((w k).twin.pendingGrant.filter fun e => e.1 == 1 && e.2.1 == 6) = [(1, 6, k)]) ∧ ¬ (1 = s.pair ∧ 6 = s.epoch) := by
  decide +kernel

theorem test_witness_PairingAndResync :
    let s (ts : Nat) := pairState ts
    let h (e : Nat) (g : Option (Nat × Nat)) : HelloFrame := ⟨⟨0, 0, 0, 0⟩, 1, BitVec.ofNat 64 (s TS.pairing).digest, 0xB0, (s TS.pairing).f F.DRM_CAP_CAP_GIB, true, e, g, true, []⟩
    ((s TS.pairing).f F.TWIN_CTL_PAIR_MODE = 1 ∧ (s TS.pairing).tstate = TS.pairing ∧ (s TS.pairing).twin.noticeSent = false ∧ CanSend (s TS.pairing) 3 1) ∧
    ((s TS.pairing).twinOn = true ∧ (s TS.pairing).helloMismatch { h 7 none with index := 5 } = some 1 ∧ Quiet (s TS.pairing) ∧ ((s TS.pairing).twin.fromSolo || (s TS.pairing).holdsGrant) = false ∧
      ((h 7 none).grant == some (7, 1 - (s TS.pairing).side)) = false ∧ ((h 7 (some (7, 1))).grant == some (7, 1 - (s TS.pairing).side)) = true) ∧
    ((onTw (s TS.mirrored) fun x => { x with reconcile := [3] }).twin.reconcile ≠ [] ∧ (s TS.resyncTarget).tstate = TS.resyncTarget ∧ (s TS.resyncTarget).weirCount < 1 ∧
      ({ s TS.resyncTarget with dram := { State.reset.dram with dirty := [3] } } : State).copyReady 3 = true) :=
  ⟨⟨by decide +kernel, by decide +kernel, rfl, by unfold CanSend; decide +kernel⟩, ⟨by decide +kernel, by decide +kernel, ⟨rfl, rfl, rfl⟩, by decide +kernel, by decide +kernel, by decide +kernel⟩,
    by decide, by decide +kernel, by decide +kernel⟩

theorem test_witness_PairingAndResync_hello : (pairState TS.pairing).helloMismatch ⟨⟨0, 0, 0, 0⟩, 1, BitVec.ofNat 64 (pairState TS.pairing).digest, 0xB0,
    (pairState TS.pairing).f F.DRM_CAP_CAP_GIB, true, 7, none, true, []⟩ = none := by
  have hd : (BitVec.ofNat 64 (pairState TS.pairing).digest).toNat = (pairState TS.pairing).digest := by
    rw [BitVec.toNat_ofNat]; exact Nat.mod_mod _ _
  unfold State.helloMismatch
  rw [if_neg (by decide +kernel), if_neg (fun h => h hd), if_neg (by decide +kernel), if_neg (fun h => h rfl), if_neg (by decide +kernel)]

/-! Flash, saves, supply. -/

/-- Armed, with a flash channel population of 16. -/
def armedState : State := with' [F.SV_STATUS_ARMED.is 1, F.SV_CTL_ARM.is 1, F.FL_CTL_WB_EN.is 1]
/-- A state with a flash tier. -/
def onFl (s : State) (f : Flash → Flash) : State := { s with flash := f s.flash }
/-- A save image with one record of granule 4. -/
def image0 : Image := ⟨1, 2, 1, [(4, ⟨3, 6, [(7, 9)], [], 2, 1, 0, 5, 1⟩)], [], [4], [], 0, false, none, [], [], 1, none⟩

theorem test_witness_FlashTier :
    let d : State := { armedState with dram := { State.reset.dram with dirty := [4] } }
    let i := onFl d fun x => { x with inFlight := [(4, 0)] }
    let ch : FlashTrain := ⟨16, 3, 2048, 3000, true⟩
    let b := with' [F.MGW_BOOT_STAGE.is 5]
    (d.flag F.FL_CTL_WB_EN = true ∧ d.flash.run = none ∧ 4 ∈ d.dram.dirty ∧ i.flash.inFlight.at? 4 = some (i.gen 4) ∧ i.parts = [] ∧ d.flash.inFlight.at? 4 ≠ some (d.gen 4)) ∧
    (d.flash.badBlocks.contains (16 * 31 + 15, 8) = false ∧ d.flash.adopted = 0 ∧ 0 < (onFl d fun x => { x with adopted := 2 }).flash.adopted) ∧
    ((let b := onFl d fun x => { x with budgetAt := some (5, 0) }; b.flash.budgetAt = some (5, 0) ∧ b.pending = [] ∧ b.stk.slew = 0 ∧ b.twin.late = [] ∧ b.time + 1 < 5) ∧
      5 ≠ d.index ^^^ 1 ∧ 1 = d.index ^^^ 1 ∧ bit (d.f F.NCH_STATUS_DIES_RET 31) 15 = false) ∧
    (d.flag F.SV_STATUS_ARMED = true ∧ d.flag F.SV_CTL_ARM = true ∧ d.f F.SV_STATUS_SAVE_STATE = 0) ∧
    (b.f F.MGW_BOOT_STAGE = 5 ∧ b.f F.MGW_STATUS_PHASE = 0 ∧ (List.replicate 32 ch).length = 32 ∧ (List.replicate 32 ch).head? = some ch ∧
      ∀ c ∈ List.replicate 32 ch, c.ok = true ∧ 0 < c.dies ∧ c.dies ≤ 16 ∧ c.gbit ≤ 2048 ∧ c.dies = ch.dies ∧ c.part = ch.part) :=
  ⟨by decide +kernel, by decide +kernel, by decide +kernel, by decide +kernel, by decide +kernel⟩
theorem first_dirty {s : State} (h : s.dram.dirty = [4]) : s.cleanFirst 4 = true ∧ s.cleanFirst 5 = false := by
  have e (g : Nat) : s.cleanFirst g = ((([4].filter fun g' => Config.homeDie g' == Config.homeDie g).filter s.urgent ++
      [4].filter fun g' => Config.homeDie g' == Config.homeDie g).head? == some g) := by rw [← h]; rfl
  rw [e, e]; constructor
  · cases u : s.urgent 4 <;> simp [u]
  · cases u : s.urgent 4 <;> cases v : Config.homeDie 4 == Config.homeDie 5 <;> simp [List.filter, u, v]
theorem test_witness_FlashTier_turns :
    let d : State := { armedState with dram := { State.reset.dram with dirty := [4] } }
    let full := with' [F.POOL_STATUS_ALLOCATED.is 128 5] d
    (d.poolRoom 5 1 = true ∧ full.poolRoom 5 1 = false ∧ d.cleanRank 4 = 4) ∧ d.cleanFirst 4 = true ∧ d.cleanFirst 5 = false ∧ (∀ c, d.flashTurn c 4 = true) ∧ (∀ c, State.reset.flashTurn c 6 = true) ∧
    ∀ c k, saving0.flashTurn c k = false :=
  ⟨by decide +kernel, (first_dirty rfl).1, (first_dirty rfl).2, fun _ => rfl, fun _ => rfl,
    fun c k => by unfold State.flashTurn; rw [show saving0.saveWork = true from rfl]; simp⟩
/-- The size of a die is the board's (`Config.blocksPerDie`): on every board whose dies have 100 blocks the first failure retires a block only. -/
theorem test_witness_FlashTier_die (h : 100 ≤ Config.blocksPerDie) : 100 * (State.reset.flash.dieFails.get 0 (16 * 31 + 15) + 1) ≤ Config.blocksPerDie := h

theorem test_witness_SavePlan :
    let r (m : Nat) : SaveRun := ⟨1, m, 0, 0, 0, true, false⟩
    let s (m : Nat) : State := onFl (with' [F.SUP_INPUT_IN_GOOD_NOW.is 1]) fun x => { x with run := some (r m), image := some image0 }
    let c : State := onFl (s 0) fun x => { x with run := some { r 0 with committed := true } }
    let halt : State := { with' [F.SUP_SEQ_SEQ_STATE.is 18, F.SUP_INPUT_IN_GOOD_NOW.is 1] with supply := { Supply.reset with downFor := 0 } }
    (State.reset.flag F.SV_STATUS_ARMED = false ∧ armedState.flag F.SV_STATUS_ARMED = true ∧ armedState.flash.run = none ∧ armedState.parts = [] ∧ armedState.deviceOff = false ∧
      State.reset.seqState ≠ 18) ∧ NoRecovery armedState ∧
    (halt.Inv ∧ halt.seqState = 18 ∧ halt.supply.downFor = 0 ∧ halt.flag F.SUP_INPUT_IN_GOOD_NOW = true) ∧
    ((saving0).flash.run = some run0 ∧ run0.committed = false ∧ run0.recorded = false ∧ saving0.flash.image = none ∧ saving0.Inv) ∧
    ((s 0).flash.image = some image0 ∧ image0.seq = (s 0).flash.lastSeq + 1 ∧ (r 0).recorded = true ∧ (r 0).reset = 0 ∧ (r 0).mode = 0 ∧ (s 0).flash.pfailLow = false ∧
      (s 0).flag F.SUP_INPUT_IN_GOOD_NOW = true ∧ (r 1).mode = 1 ∧ (r 2).mode = 2 ∧ image0.recs.sorted = true) ∧
    (c.flash.run = some { r 0 with committed := true } ∧ c.flash.pfailLow = false ∧ c.flag F.SUP_INPUT_IN_GOOD_NOW = true ∧ c.flash.image = some image0) :=
  ⟨by decide +kernel, fun _ => nofun, ⟨by unfold State.Inv; decide +kernel, by decide +kernel⟩, ⟨rfl, rfl, rfl, rfl, by unfold State.Inv; decide +kernel⟩,
    ⟨rfl, by decide, rfl, rfl, rfl, rfl, by decide +kernel, rfl, rfl, by decide +kernel⟩, rfl, rfl, by decide +kernel, rfl⟩
theorem test_witness_SavePlan_restore :
    let i : Image := { image0 with kind := 1 }
    let s := onFl (with' [F.SV_STATUS_SAVE_STATE.is 7] (withRegion 0)) fun x => { x with image := some i }
    let x : Rec := ⟨3, 6, [(7, 9)], [], 2, 1, 0, 5, 1⟩
    s.f F.SV_STATUS_SAVE_STATE = 7 ∧ s.flash.image = some i ∧ i.kind = 1 ∧ i.cfg = [] ∧ i.recs = [(4, x)] ∧ s.flash.homes = [] ∧ s.granDurable 4 = true ∧ x.data.sorted = true ∧
      (∀ e ∈ x.data, e.1 < granBytes) ∧ x.poison = [] :=
  ⟨by decide +kernel, rfl, rfl, rfl, rfl, rfl, by decide +kernel, by decide +kernel, by decide +kernel, rfl⟩

/-- A sequence table with rail 31 used in state 1, critical and with levels as asked. -/
def table0 (crit levels : Nat) : List Byte := List.replicate 23 0 ++ [0x80] ++ List.replicate 1039 0 ++ [BitVec.ofNat 8 (16 + 2 * levels + crit)] ++ List.replicate 266 0
/-- A state with that table. -/
def withTable (crit levels : Nat) (l : List (Fld × Nat × Nat × Nat)) (f : Supply → Supply := id) : State := { with' l with supply := f { Supply.reset with table := table0 crit levels } }

theorem test_witness_Sequencing :
    let s (n : Nat) (f : Supply → Supply) := withTable 0 0 [F.SUP_SEQ_SEQ_STATE.is n, F.SUP_INPUT_IN_GOOD_NOW.is 1] f
    let d := with' [F.SUP_SEQ_EXCLUDED.is 1] (s 15 fun x => { x with turn := 3, retGiven := true })
    let one := { s 1 (fun x => { x with guard := true }) with strapX := 1 }
    (State.reset.seqState = 0 ∧ State.reset.f F.MGW_BOOT_STAGE = 0 ∧ State.reset.f F.MGW_STATUS_PHASE = 0 ∧ tableOk [] = tableOk []) ∧
    ((s 0 id).syncReleased = true ∧ (s 0 id).seqState < 15 ∧ (s 0 id).table ≠ []) ∧
    ((s 15 fun x => { x with turn := 3, retGiven := true }).syncReleased = true ∧ (s 15 id).seqState = 15 ∧ (s 15 id).isExcluded = false ∧ d.isExcluded = true ∧ d.syncReleased = true) ∧
    (1 ≤ (s 1 id).seqState ∧ (s 1 id).seqState < 16 ∧ (s 1 fun x => { x with guard := true }).supply.guard = true ∧ one.index ≠ 0 ∧ one.supply.chainIn = false ∧ 31 < 32 ∧
      (s 1 id).railUsed 31 = true ∧ tStateOn (s 1 id).table 31 = 1 ∧ (s 1 id).rstate 31 = 0 ∧ (∀ n < 32, ¬ ((s 2 id).railUsed n = true ∧ tStateOn (s 2 id).table n = 2))) ∧
    ((s 1 fun x => { x with turn := 3 }).supply.turn = 3 ∧ (s 1 fun x => { x with turn := 1 }).supply.turn = 1 ∧ (s 16 id).inRun = true) :=
  ⟨⟨by decide +kernel, by decide +kernel, by decide +kernel, rfl⟩, by decide +kernel, by decide +kernel, by decide +kernel, by decide +kernel⟩
/-- Whether a copy is signed is the board's key's to say (`Config.ed448Verify`): a copy that it accepts, of this form, is in order. -/
theorem test_witness_Sequencing_table (h : ∀ k m s, Config.ed448Verify k m s = true) :
    tableOk (toBytes 8 (0x53514D31 * 2 ^ 32 + 1330 * 2 ^ 16 + 256) ++ toBytes 8 1 ++ List.replicate 8 0 ++ toBytes 8 (5 * 2 ^ 32 + 6 * 2 ^ 16) ++ List.replicate 8 0 ++
      toBytes 8 (2 ^ 54 + 2 * 2 ^ 44 + 2 ^ 16 + 1) ++ List.replicate 1282 0) = true := by
  unfold tableOk; rw [h]; decide +kernel

theorem test_witness_Rails :
    let s := withTable 0 1 [F.SUP_SEQ_SEQ_STATE.is 1, F.RL_STATUS_RSTATE.is 1 31] (fun x => { x with turn := 2 })
    let g (c : Nat) := withTable c 1 [F.SUP_SEQ_SEQ_STATE.is 16, F.RL_STATUS_RSTATE.is 2 31]
    (31 < 32 ∧ s.rstate 31 = 1 ∧ s.supply.turn = 2 ∧ (∀ n < 32, n ≠ 31 → s.railUsed n = true → tStateOn s.table n = s.seqState → s.rstate n ≠ 1) ∧ s.seqState < 16 ∧ s.isExcluded = false ∧
      tDeps s.table 31 = []) ∧
    ((g 0).rstate 31 = 2 ∧ (g 0).inRun = true ∧ tDeps (g 0).table 31 = [] ∧ 1023 < 1024 ∧ tCritical (g 0).table 31 = false ∧ bits (tDomains (g 0).table 31) 19 8 = 0 ∧ tCritical (g 1).table 31 = true ∧
      tLevels (g 0).table 31 = true ∧ (g 0).flag F.RL_STATUS_WARN_NOW 31 = false) ∧
    (let o := withTable 0 0 [F.SUP_SEQ_SEQ_STATE.is 17] (fun x => { x with offDue := [31] }); o.seqState = 17 ∧ 31 ∈ o.supply.offDue) := by
  decide +kernel

theorem test_witness_BankAndClocks :
    let hu : List Byte := List.replicate 26 0 ++ toBytes 2 30000 ++ List.replicate 8 0 ++ toBytes 2 500 ++ toBytes 2 2000 ++ List.replicate 1290 0
    let s : State := { with' [F.SUP_SEQ_SEQ_STATE.is 16, F.CLK_CTL_ENG_GATE_EN.is 1, F.CLK_CTL_CLUSTER_PG_EN.is 1, F.CLK_CTL_BLOCK_PG_EN.is 1, F.CLK_PLL_PLL_LOCK.is 31] with
      supply := { Supply.reset with table := hu, testDue := true } }
    let t (n : Nat) : State := { s with supply := { s.supply with test := some ⟨n, 40000, 39000, 5⟩, testDue := false } }
    let g : State := { s with supply := { s.supply with gatedEngines := [1, 2, 3, 4, 5, 6, 7], gated := [9] } }
    let k : State := { s with supply := { s.supply with gatedEngines := (List.range 8).map (· + 56), testDue := false } }
    (s.supply.testDue = true ∧ s.supply.test = none ∧ s.inRun = true ∧ s.flash.run = none ∧ s.f F.CLK_STATUS_STANDBY_STATE ≠ 2 ∧ 29999 < s.huReady ∧ s.huReady ≤ 30000 ∧
      10 * s.dirtyBytes ≤ 9 * s.budgetAfterTest 30000) ∧
    ((t 0).supply.test = some ⟨0, 40000, 39000, 5⟩ ∧ (t 2).supply.test = some ⟨2, 40000, 39000, 5⟩ ∧ 0 < s.huTestMa ∧ 37000 + (t 2).huTestDv ≤ 39000 ∧ 37000 < 39000) ∧
    (63 < 64 ∧ s.flag F.CLK_CTL_ENG_GATE_EN = true ∧ s.engineBusy 63 = false ∧ 63 ∉ s.supply.gatedEngines ∧ 63 / 8 ∉ s.supply.gated ∧ 0 ∉ g.supply.gatedEngines ∧
      (∀ i < 8, 0 / 8 * 8 + i = 0 ∨ 0 / 8 * 8 + i ∈ g.supply.gatedEngines)) ∧
    (7 < 8 ∧ k.flag F.CLK_CTL_CLUSTER_PG_EN = true ∧ 7 ∉ k.supply.gated ∧ (∀ i < 8, 7 * 8 + i ∈ k.supply.gatedEngines) ∧ k.flag F.CLK_CTL_BLOCK_PG_EN = true ∧ k.blockIdle 20 = true ∧
      k.blockIdle 22 = true ∧ 9 ∈ g.supply.gated ∧ k.queuedInvs = []) ∧
    (4 < 5 ∧ bit (s.f F.CLK_PLL_PLL_LOCK) 4 = true ∧ bit (s.f F.CLK_PLL_PLL_LOCK) 0 = true ∧ State.reset.inRun = false) := by
  decide +kernel

/-! The stack, security and the recorder, the machine. -/

theorem test_witness_StackTimeAndMaster :
    let m (l : List Nat) (s : State) : State := { s with stk := { s.stk with claim := some (l, [6]) } }
    let dep := with' [F.STK_STATUS_DEPUTY_IDX.is 0, F.STK_STATUS_DEPUTY_NONE.is 0] memberState'
    let vote := with' [F.STK_STATUS_MASTER_IDX.is 1, F.STK_STATUS_DEPUTY_NONE.is 1] masterState
    let big := with' [F.STK_MEMBERS_MEMBERS.is 127, F.STK_STATUS_DEVICES.is 7] dep
    (Rules masterState ∧ masterState.isMember 1 = true ∧ masterState.stackEpoch = 3 ∧ masterState.index ≠ 1 ∧ masterState.Inv ∧ 2 < masterState.devices ∧ masterState.stk.beats = []) ∧
    (memberState'.memberState = 2 ∧ memberState'.isMaster = false ∧ memberState'.stackEpoch ≤ 3 ∧ 1 ≠ memberState'.index) ∧
    (dep.memberState = 2 ∧ dep.isMaster = false ∧ dep.deputy = some dep.index ∧ dep.stk.claim = none ∧ memberState'.deputy ≠ some memberState'.index) ∧
    (vote.stackEpoch < 4 ∧ vote.memberState = 2 ∧ vote.index ≠ 1 ∧ vote.voters.contains vote.index = true ∧ vote.stage.groups = [] ∧
      dep.voters.contains dep.index = false) ∧
    ((m [] big).stk.claim = some ([], [6]) ∧ 2 ∈ (m [] big).voters ∧ 2 ∉ ([] : List Nat) ∧ 2 * 1 ≤ (m [] big).voters.length ∧
      (m [2, 3] big).voters.length < 2 * 3 ∧ (m [2, 3] big).master ≠ (m [2, 3] big).index ∧ (m [2, 3] big).Inv ∧ 4 ∈ (m [2, 3] big).voters ∧ 2 ∉ [6]) := by
  unfold Rules State.Inv; decide +kernel

/-- The member with a shape of 4 by 1 and its CASCADE octets 0 and 1. -/
def shaped : State := with' [F.LNK_STATUS_LANE_LOCK.is 0xFF 1, F.STK_CTL_SHAPE_W.is 4, F.STK_CTL_SHAPE_H.is 1, F.LNK_CTL_ROLE.is 3, F.LNK_CTL_ROLE.is 3 1, F.STK_LINKS_LINK_PX.is (2 ^ 15 + 1)] memberState'
theorem test_witness_StackMembersAndLinks :
    let v := with' [F.REG_SHAPE_CLASS.is 2 3] memberState'
    let p : Part := { State.newPart (.cmd 5 9) .read 0 3 0 8 [] [] with st := .forwarded, dev := 2 }
    let held : State := { shaped with stk := { memberState'.stk with heldFrames := [(1, 0, 1, 1, ⟨0, false⟩, 0)] } }
    let form := with' [F.MGW_STATUS_PHASE.is 1]
    (v.Inv ∧ v.memberState = 2 ∧ v.isMaster = false ∧ v.isMember 2 = true ∧ 2 ≠ v.index ∧
      p.st = .forwarded ∧ p.dev = 2 ∧ ({ v with parts := [(0, p)] } : State).isDurable p.region = false) ∧
    (form.index = 0 ∧ form.memberState = 0 ∧ form.stk.heardTime = false ∧ form.f F.MGW_STATUS_PHASE = 1) ∧
    (Rules masterState ∧ masterState.isMember 63 = false ∧ 63 ∉ masterState.stk.joiners) ∧ (with' [F.STK_STATUS_MEMBER_STATE.is 1]).memberState = 1 ∧
    (shaped.neighbour shaped.index 0 = some 1 ∧ shaped.octetOf 1 = some 1 ∧ shaped.f F.LNK_STATUS_LANE_LOCK 1 = 0xFF ∧ shaped.isMaster = false) ∧
    (held.stk.heldFrames = [(1, 0, 1, 1, ⟨0, false⟩, 0)] ∧ held.stk.again = [] ∧ (held.onStk fun x => { x with links := some [(0, 1), (1, 0)], heldFrames := [] }).route 1 = some 0 ∧
      ((held.onStk fun x => { x with links := some [(0, 1), (1, 0)], heldFrames := [] }).distance held.index 1).isSome = true) ∧
    (shaped.route 1 = some 0 ∧ (held.onStk fun x => { x with links := some [] }).route 1 = none ∧ shaped.stk.ahead = [] ∧ shaped.stk.nextIn.get 0 (1 * 4 + 3) = 0) := by
  unfold Rules State.Inv; exact ⟨⟨by decide +kernel, by decide +kernel, by decide +kernel, by decide +kernel, by decide +kernel, rfl, rfl, by decide +kernel⟩,
    by decide +kernel, by decide +kernel, by decide +kernel, by decide +kernel, ⟨rfl, by decide +kernel, by decide +kernel⟩, by decide +kernel⟩

theorem test_witness_NoRecovery : NoRecovery masterState ∧ NoRecovery memberState' := ⟨fun _ => nofun, fun _ => nofun⟩

theorem test_witness_SecurityAndRecorder :
    let l0 := State.reset.logSt 0
    let s (l : LogSt) : State := { with' [F.LOG_CTL_LVALID.is 1] with logs := [(0, l)] }
    let d : SealDue := ⟨1, 1, 0, 64, 0, 0, 1⟩
    let b := with' [F.MGW_BOOT_STAGE.is 7]
    (with' [F.SEC_STATUS_ROTATING.is 1]).flag F.SEC_STATUS_ROTATING = true ∧ ({ State.reset with sec := { State.reset.sec with attest := true } } : State).sec.attest = true ∧
    ((s { l0 with mark := some (64, 0, 0, 1) }).flash.run = none ∧ ((s { l0 with mark := some (64, 0, 0, 1) }).logSt 0).mark = some (64, 0, 0, 1) ∧
      (s { l0 with mark := some (64, 0, 0, 1) }).isKeeper 0 = true) ∧
    (((s { l0 with due := [d] }).logSt 0).due = d :: [] ∧ (s { l0 with due := [d] }).logValid 0 = true ∧ (s { l0 with due := [d] }).dram.unsettled = [] ∧
      (s { l0 with due := [d] }).parts = []) ∧
    (b.recorderFlash = true ∧ 3600 ≤ 3600) ∧ ({ b with recd := { b.recd with loading := true } } : State).recd.loading = true := by
  decide +kernel

theorem test_witness_StepRunsTheFront : ({ State.reset with pending := [.pwronRstN 7 7] } : State).pending = .pwronRstN 7 7 :: [] := rfl
theorem test_witness_AnEmptyQueueTicks : State.reset.pending = [] ∧ State.reset.flash.budgetAt = none ∧ State.reset.stk.slew = 0 ∧ State.reset.recd.slew = 0 ∧
    State.reset.f F.REC_TRIMSTAT_RATE_PPB = 0 := by decide +kernel
theorem test_witness_InvariantKept : State.reset.Inv ∧ ∃ t, Machine.step State.reset = .next t := ⟨test_witness_inv, _, rfl⟩
theorem test_witness_LoopStack : let h := thr (iword 0x64 1 0 0 0 0 0); Runs (on h) 0 (iword 0x64 1 0 0 0 0 0) h ∧ h.loops.length ≤ 4 ∧ (1 : GReg) ≠ 0 ∧
    ∀ c ∈ [1, 2], let h := { thr (iword 0x28 0 0 0 0 0 0) with loops := [(c, 0, 0)] }
      Runs (on h) 0 (iword 0x28 0 0 0 0 0 0) h ∧ h.loops = (c, 0, 0) :: [] ∧ 1 ≤ c :=
  ⟨runs_thr .., by decide, by decide, fun c h => ⟨⟨rfl, rfl, rfl, rfl, rfl⟩, rfl, by simp at h; omega⟩⟩
theorem test_witness_FloorNeverFalls : State.reset.Inv ∧ ∃ t, exec .jtagIdcode State.reset = .next t := ⟨test_witness_inv, _, rfl⟩

/-! The checks of `Instr.wellFormed`: for each one a command that breaks it alone, which it refuses. -/

theorem test_wellFormed_refuses_1 : ([
    .pwronRstN 8 0,
    .pwronRstN 0 8,
    .registerWrite (2 ^ 49) 0,
    .i3cTargetRead 256,
    .jtagSamplePreload [true] [],
    .prepAck 64 0 [],
    .groupCloseRequest ⟨64, [], true⟩,
    .remoteControlAccess 64 .cfgr 0 0,
    .remoteControlAccess 0 .cfgr (2 ^ 48) 0,
    .revoke 65536,
    .mappingDrainComplete 65536,
    .laneLock 96,
    .portLinkUp 12 0,
    .portLinkUp 0 8,
    .portLinkDown 12 0 0,
    .portLinkDown 0 8 0,
    .portLinkDown 0 0 4,
    .portOff 12 0,
    .pairHello ⟨⟨0, 0, 0, 0⟩, 64, 0, 0, 0, false, 0, none, true, []⟩,
    .twinFrameCrcFail ⟨4, 0⟩,
    .fwdReq 64 ⟨none, 0, .read, 0, 0, 0, [], [], none, 0, [], [], 0, 1, none, false⟩,
    .fwdReq 0 ⟨none, 0, .read, 65536, 0, 0, [], [], none, 0, [], [], 0, 1, none, false⟩,
    .mirror ⟨⟨0, 0, 0, 0⟩, 0, 0, false, true, [[0]], none⟩,
    .credit ⟨0, 0, 0, 0⟩ (some 64),
    .reservedFrameDiscard ⟨⟨0, 0, 0, 0⟩, 0, 1⟩ 4,
    .reservedFrameDiscard ⟨⟨0, 0, 0, 0⟩, 64, 1⟩ 0,
    .grantRequest 32 0 0,
    .grantRequest 0 (2 ^ 32) 0,
    .grantRequest 0 0 2,
    .grantRecord 32 0 0 0] : List Instr).all (fun i => !i.wellFormed) = true := by decide +kernel

theorem test_wellFormed_refuses_2 : ([
    .grantRecord 0 (2 ^ 32) 0 0,
    .grantRecord 0 0 2 0,
    .grantRecord 0 0 0 64,
    .grantRecordAck 32 0,
    .grantRecordAck 0 (2 ^ 32),
    .grant 32 0 0,
    .grant 0 (2 ^ 32) 0,
    .grant 0 0 64,
    .saveNotice ⟨⟨0, 0, 0, 0⟩, (2 ^ 32)⟩ false,
    .grantDecline 64 0,
    .grantDecline 0 (2 ^ 32),
    .resyncData ⟨0, 0, 0, 0⟩ 0 0 [0],
    .healData ⟨⟨0, 0, 0, 0⟩, 0⟩ (some [0]),
    .hostFrameReceive ⟨96, false, 0, 0, 64, true, 0, false, false, .icmpOther⟩,
    .braidWrite ⟨96, none, 0, 0, true, false, false, 0, 0, 0, 0, 0, 0, 0, 0, 0, 0⟩ [],
    .braidWrite ⟨0, none, 0, 16, true, false, false, 0, 0, 0, 0, 0, 0, 0, 0, 0, 0⟩ [],
    .braidSack ⟨0, true, (2 ^ 32), 0⟩ 0 0 0 0,
    .braidEcho ⟨⟨0, true, (2 ^ 32), 0⟩, 0⟩ 0,
    .braidRnr ⟨0, true, (2 ^ 32), 0⟩ 0 0,
    .braidRnr ⟨0, true, 0, 0⟩ 65536 0,
    .sackTimer (2 ^ 25),
    .compatSend ⟨96, true, true, 0, 0, 0, true, true, 0, 0, 0, 0⟩ [],
    .pfcPause 96 0 false,
    .pfcPause 0 8 false,
    .pauseLong 96,
    .contextFetchComplete 270336,
    .read 270336 0,
    .read 0 65536,
    .partHold 64 0,
    .partHoldAnswer 270336 0 0 false] : List Instr).all (fun i => !i.wellFormed) = true := by decide +kernel

theorem test_wellFormed_refuses_3 : ([
    .partHoldAnswer 0 65536 0 false,
    .partHoldAnswer 0 0 64 false,
    .invocationStart 8,
    .invocationTimeout 1024,
    .balloc 1024 0 0 0 0,
    .balloc 0 0 0 0 (2 ^ 20),
    .lowFreeRead 16,
    .waitPeakRead 256,
    .zqRunsRead 16,
    .zeroingDone 16 0,
    .zeroingDone 0 (2 ^ 20),
    .tileFetchComplete 256 0 0,
    .tileFetchComplete 0 (2 ^ 13) 0,
    .tileFetchComplete 0 0 (2 ^ 14),
    .releaseCount 256 0 0 0 0 none,
    .releaseCount 0 (2 ^ 13) 0 0 0 none,
    .releaseCount 0 0 64 0 0 none,
    .releaseCount 0 0 0 270336 0 none,
    .releaseCount 0 0 0 0 65536 none,
    .calibrationRefresh 16 0 0 0,
    .calibrationRefresh 0 2 0 0,
    .moduleSensorRead 16 0 none,
    .moduleSensorRead 0 2 none,
    .powerDownEntry 16 0 0,
    .powerDownEntry 0 2 0,
    .powerDownEntry 0 0 8,
    .dramRequest 16 0 0 0 0 0 0 false [],
    .dramRequest 0 7 0 0 0 0 0 false [],
    .dramRequest 0 0 0 0 2 0 0 false [],
    .dramRequest 0 0 0 0 0 8 0 false []] : List Instr).all (fun i => !i.wellFormed) = true := by decide +kernel

theorem test_wellFormed_refuses_4 : ([
    .dramRequest 0 0 0 0 0 0 0 false [0],
    .flashProgramFailure 32 0 0,
    .flashProgramFailure 0 16 0,
    .flashReadRetry 32 0 ⟨1, 0, 0, 0⟩ 0 0,
    .flashReadRetry 0 16 ⟨1, 0, 0, 0⟩ 0 0,
    .flashReadRetry 0 0 ⟨0, 0, 0, 0⟩ 0 0,
    .flashReadRetry 0 0 ⟨6, 0, 0, 0⟩ 0 0,
    .inputFailed 1024,
    .railSettleDwell 32,
    .railFault 32 0,
    .railFault 0 1024,
    .engineClockGate 64,
    .blockPowerGate 19,
    .blockPowerGate 23,
    .domainWakeDone 24 0,
    .pllLockLoss 5,
    .stepDown (2 ^ 32),
    .claim 64 0 false,
    .claim 0 (2 ^ 32) false,
    .join 64 0 false,
    .join 0 256 false,
    .joinRefuse 4,
    .exclude 64 0,
    .exclude 0 16,
    .cascadeLinkChange 4 ⟨false, []⟩,
    .cascadeFrameHop 64 0 0 0 ⟨0, false⟩ 0,
    .cascadeFrameHop 0 4 0 0 ⟨0, false⟩ 0,
    .cascadeFrameHop 0 0 64 0 ⟨0, false⟩ 0,
    .cascadeFrameHop 0 0 0 64 ⟨0, false⟩ 0,
    .cascadeFrameHop 0 0 0 0 ⟨16, false⟩ 0] : List Instr).all (fun i => !i.wellFormed) = true := by decide +kernel

theorem test_wellFormed_refuses_5 : ([
    .rngHealthFail 3,
    .scheduledSeal 256] : List Instr).all (fun i => !i.wellFormed) = true := by decide +kernel

/-! And commands with every operand at the bottom of its range, which it accepts. -/

theorem test_wellFormed_accepts_1 : ([
    .pwronRstN 0 0,
    .registerWrite 0 0,
    .i3cTargetRead 0,
    .jtagSamplePreload [] [],
    .prepAck 0 0 [],
    .groupCloseRequest ⟨0, [], true⟩,
    .remoteControlAccess 0 .cfgr 0 0,
    .revoke 0,
    .mappingDrainComplete 0,
    .laneLock 0,
    .portLinkUp 0 0,
    .portLinkDown 0 0 0,
    .portOff 0 0,
    .pairHello ⟨⟨0, 0, 0, 0⟩, 0, 0, 0, 0, false, 0, none, true, []⟩,
    .twinFrameCrcFail ⟨0, 0⟩,
    .fwdReq 0 ⟨none, 0, .read, 0, 0, 0, [], [], none, 0, [], [], 0, 1, none, false⟩,
    .mirror ⟨⟨0, 0, 0, 0⟩, 0, 0, false, true, [], none⟩,
    .credit ⟨0, 0, 0, 0⟩ none,
    .reservedFrameDiscard ⟨⟨0, 0, 0, 0⟩, 0, 1⟩ 0,
    .grantRequest 0 0 0,
    .grantRecord 0 0 0 0,
    .grantRecordAck 0 0,
    .grant 0 0 0,
    .saveNotice ⟨⟨0, 0, 0, 0⟩, 0⟩ false,
    .grantDecline 0 0,
    .healData ⟨⟨0, 0, 0, 0⟩, 0⟩ none,
    .hostFrameReceive ⟨0, false, 0, 0, 64, true, 0, false, false, .icmpOther⟩,
    .braidWrite ⟨0, none, 0, 0, true, false, false, 0, 0, 0, 0, 0, 0, 0, 0, 0, 0⟩ [],
    .braidSack ⟨0, true, 0, 0⟩ 0 0 0 0,
    .braidEcho ⟨⟨0, true, 0, 0⟩, 0⟩ 0] : List Instr).all Instr.wellFormed = true := by decide +kernel

theorem test_wellFormed_accepts_2 : ([
    .braidRnr ⟨0, true, 0, 0⟩ 0 0,
    .sackTimer 0,
    .compatSend ⟨0, true, true, 0, 0, 0, true, true, 0, 0, 0, 0⟩ [],
    .pfcPause 0 0 false,
    .pauseLong 0,
    .contextFetchComplete 0,
    .read 0 0,
    .partHold 0 0,
    .partHoldAnswer 0 0 0 false,
    .invocationStart 0,
    .invocationTimeout 0,
    .balloc 0 0 0 0 0,
    .lowFreeRead 0,
    .waitPeakRead 0,
    .zqRunsRead 0,
    .zeroingDone 0 0,
    .tileFetchComplete 0 0 0,
    .releaseCount 0 0 0 0 0 none,
    .calibrationRefresh 0 0 0 0,
    .moduleSensorRead 0 0 none,
    .powerDownEntry 0 0 0,
    .dramRequest 0 0 0 0 0 0 0 false [],
    .flashProgramFailure 0 0 0,
    .flashReadRetry 0 0 ⟨1, 0, 0, 0⟩ 0 0,
    .inputFailed 0,
    .railSettleDwell 0,
    .railFault 0 0,
    .engineClockGate 0,
    .blockPowerGate 20,
    .domainWakeDone 20 0] : List Instr).all Instr.wellFormed = true := by decide +kernel

theorem test_wellFormed_accepts_3 : ([
    .pllLockLoss 0,
    .stepDown 0,
    .claim 0 0 false,
    .join 0 0 false,
    .joinRefuse 0,
    .exclude 0 0,
    .cascadeLinkChange 0 ⟨false, []⟩,
    .cascadeFrameHop 0 0 0 0 ⟨0, false⟩ 0,
    .rngHealthFail 0,
    .scheduledSeal 0] : List Instr).all Instr.wellFormed = true := by decide +kernel

/-! One step each, with the instruction word laid out by R184 (opcode 63:56, d 55:51, a 50:46, b 45:41, h 40:38, m 37:32, imm 31:0) and the expected value worked out
from the rule. -/

/-- The value of g3 after one command on a thread at its word, with g1 = `a` and g2 = `b`. -/
def g3After (w : U64) (i : Instr) (a b : U64) : Option U64 :=
  let h := thr w
  match exec i (on ((h.wg 1 a).wg 2 b)) with
  | .next s => (s.thread? 0).map fun h => h.rg 3
  | _ => none

/-- R190: the sum is of 64 bits. -/
theorem test_add_wraps : g3After 0x0118440000000000 (.add 0 3 1 2) (BitVec.ofInt 64 (-1)) 2 = some 1 := by decide +kernel
/-- R190: −1 × −1 = 1, whose high half is 0; unsigned, (2^64 − 1)² has the high half 2^64 − 2. -/
theorem test_mulh_signed : g3After 0x0418440000000000 (.mulh 0 3 1 2 false) (BitVec.ofInt 64 (-1)) (BitVec.ofInt 64 (-1)) = some 0 := by decide +kernel
theorem test_mulh_unsigned : g3After 0x0418440100000000 (.mulh 0 3 1 2 true) (BitVec.ofInt 64 (-1)) (BitVec.ofInt 64 (-1)) = some (BitVec.ofInt 64 (-2)) := by decide +kernel
/-- R190: the count is g[b] & 63, and the sign fills. -/
theorem test_sar_masks_its_count : g3After 0x0A18440000000000 (.sar 0 3 1 2) (BitVec.ofInt 64 (-8)) 65 = some (BitVec.ofInt 64 (-4)) := by decide +kernel
/-- R190: a word of zeros has 64 leading zeros. -/
theorem test_clz_of_zero : g3After 0x1918400000000000 (.clz 0 3 1) 0 0 = some 64 := by decide +kernel
theorem test_bswap : g3After 0x1B18400000000000 (.bswap 0 3 1) 0x0102030405060708 0 = some 0x0807060504030201 := by decide +kernel
/-- R190: imm32 over the low half. -/
theorem test_lui_keeps_the_low_half : g3After 0x16184000DEADBEEF (.lui 0 3 1 0xDEADBEEF) 0x1111111122222222 0 = some 0xDEADBEEF22222222 := by decide +kernel
/-- R190: −1 < 1 signed, not unsigned. -/
theorem test_cmplt_is_signed : g3After 0x1E18440000000000 (.cmplt 0 3 1 2 false 0) (BitVec.ofInt 64 (-1)) 1 = some 1 ∧
    g3After 0x1F18440000000000 (.cmpltu 0 3 1 2 false 0) (BitVec.ofInt 64 (-1)) 1 = some 0 := by decide +kernel
/-- R150: g0 reads 0 whatever is written to it. -/
theorem test_g0_reads_zero : (match exec (.addi 0 0 1 5) (on (thr 0x1000400000000005)) with | .next s => (s.thread? 0).map fun h => h.rg 0 | _ => none) = some 0 := by decide +kernel
/-- R10: the straps give the index 8y + x. -/
theorem test_index_from_straps : (match exec (.pwronRstN 3 5) .reset with | .next s => some s.index | _ => none) = some 43 := by decide +kernel
/-- A step takes the front of the queue and leaves the rest. -/
theorem test_step_takes_the_front : (match Machine.step { State.reset with pending := [.pwronRstN 1 0, .jtagIdcode] } with | .next s => some (s.index, s.pending) | _ => none) =
    some (1, [.jtagIdcode]) := by decide +kernel
/-- The table gives its rows no bits. -/
theorem test_no_word_spells_a_command : decodeTableWord 64 5 = none ∧ State.reset.withFetchWord 64 5 = State.reset := ⟨rfl, rfl⟩
/-- SHAKE256 of the empty string (FIPS 202), and AES-256-GCM of a block of zeros under a key and an IV of zeros (R206). -/
theorem test_shake256_empty : Config.shake256 [] 8 = [0x46, 0xB9, 0xDD, 0x2B, 0x0B, 0xA8, 0x8D, 0x13] := by decide +kernel
theorem test_gcm_zeros : Config.gcmSeal (List.replicate 32 0) (List.replicate 12 0) [] (List.replicate 16 0) =
    (toBytes 16 0x189DF3BAD3C54E076E6B604D3D40A7CE, toBytes 16 0x19B98AD4B5985B26F06B9999A7C8D1D0) := by decide +kernel

end Sys2Proof.Tests
end

section
/-! SUPPORT. Rules of a thread that runs its word: what reading a register gives after a write (R150), how an instruction that is issued goes
on (R149) or faults (R189), and what a state with a new thread leaves alone. -/

namespace Sys2Proof.Machine

/-! Registers. -/

namespace Thread

theorem wg_frame (h : Thread) (d : GReg) (x : U64) : h.wg d x = { h with g := (h.wg d x).g } := by
  unfold wg; split <;> rfl

theorem rg_wg (h : Thread) (d : GReg) (x : U64) (r : GReg) : (h.wg d x).rg r = if r = d ∧ d ≠ 0 then x else h.rg r := by
  unfold wg
  split
  case isTrue hd => rw [if_neg (fun c => c.2 hd)]
  case isFalse hd =>
    by_cases hr : r = d
    · subst hr; rw [if_pos ⟨rfl, hd⟩, rg, if_neg hd, Vector.getElem_set_self]
    · have hn : d.toNat ≠ r.toNat := fun e => hr (BitVec.eq_of_toNat_eq e.symm)
      rw [if_neg (fun c => hr c.1), rg, rg, Vector.getElem_set_ne _ _ hn]

theorem rv_wv (h : Thread) (d : VReg) (x : BitVec 512) (r : VReg) : (h.wv d x).rv r = if r = d then x else h.rv r := by
  by_cases hr : r = d
  · subst hr; simp [rv, wv]
  · have hn : d.toNat ≠ r.toNat := fun e => hr (BitVec.eq_of_toNat_eq e.symm)
    simp [rv, wv, hr, hn]

@[simp] theorem rg_adv (h : Thread) (cost : Nat) (r : GReg) : (h.adv cost).rg r = h.rg r := rfl
@[simp] theorem rv_adv (h : Thread) (cost : Nat) (r : VReg) : (h.adv cost).rv r = h.rv r := rfl

/-- A thread whose timeout has not passed leaves an instruction with its charge and the next pc, and nothing else changes (R149, R176). -/
theorem goto_of_inTime {h : Thread} (ht : h.timedOut = false) (cost pc : Nat) :
    h.goto cost pc = { h with pc := pc, charged := h.charged + cost } := by
  simp [goto, ht]

end Thread

/-- g[d] is written as the thread goes on to its next instruction. -/
theorem writes_wg_adv (h : Thread) (d : GReg) (x : U64) (cost : Nat) : Writes h ((h.wg d x).adv cost) d x := fun r => by
  rw [Thread.rg_adv, Thread.rg_wg]

/-! The state with a thread set. -/

theorem threadNow_setThread {s u : State} (hu : u.eng = s.eng) (t : Nat) (h : Thread) : ThreadNow s (u.setThread t h) t h :=
  ⟨SMap.at?_put_same _ _ _, fun x hx => by simp only [State.thread?, State.setThread, SMap.at?_put_ne _ _ hx, hu]⟩

theorem onlyThread_setThread (s : State) (t : Nat) (h : Thread) : OnlyThread s (s.setThread t h) t h :=
  ⟨rfl, threadNow_setThread rfl t h⟩

@[simp] theorem State.setThread_scratch? (s : State) (t : Nat) (h : Thread) (i : Imm) : (s.setThread t h).scratch? i = s.scratch? i := rfl

theorem faultsWith_of_exec {i : Instr} {s : State} {t : Nat} {h : Thread} {code : Nat} (he : exec i s = .next (s.fault t h code)) :
    FaultsWith i s t h code := ⟨_, he, onlyThread_setThread s t _⟩

/-! The issue of an instruction word (R184). -/

namespace Runs

variable {s : State} {t : Nat} {w : U64} {h : Thread}

theorem inTime (hr : Runs s t w h) : h.timedOut = false := by
  obtain ⟨_, _, hto, _, _⟩ := hr; exact hto

theorem issue (hr : Runs s t w h) (k : Thread → State) : s.issue t w k = k h := by
  obtain ⟨hth, hend, _, himg, hbad⟩ := hr
  simp [State.issue, hth, hend, himg, hbad]

/-- An instruction that only writes g[d] goes on to the next one. -/
theorem next_wg_adv (hr : Runs s t w h) (d : GReg) (x : U64) (cost : Nat) : Next h ((h.wg d x).adv cost) cost := by
  have ht : (h.wg d x).timedOut = false := by rw [Thread.wg_frame]; exact hr.inTime
  unfold Next Thread.adv
  rw [Thread.goto_of_inTime ht, Thread.wg_frame]

/-- An instruction that only writes v[d] goes on to the next one. -/
theorem wv_adv (hr : Runs s t w h) (d : VReg) (x : BitVec 512) (cost : Nat) :
    (h.wv d x).adv cost = { h with v := (h.wv d x).v, pc := h.pc + 1, charged := h.charged + cost } :=
  Thread.goto_of_inTime (h := h.wv d x) hr.inTime cost (h.pc + 1)

end Runs

/-- A command whose meaning is the value `v` of the thread's registers in g[d]. -/
theorem regResult_of_alu {i : Instr} {t : Nat} {w : U64} {cost : Nat} {d : GReg} {v v' : Thread → U64}
    (he : ∀ s, exec i s = .next (s.alu t w cost d v)) (hv : ∀ h, v h = v' h) : RegResult i t w cost d v' := fun s h hr =>
  ⟨_, _, by rw [he, State.alu, State.regs, hr.issue], onlyThread_setThread s t _, hr.next_wg_adv d (v h) cost,
    (hv h).symm ▸ writes_wg_adv h d (v h) cost⟩

/-- A command whose meaning is a value `x` in v[d]. -/
theorem lineResult_of_regs {i : Instr} {s : State} {t : Nat} {w : U64} {h : Thread} {d : VReg}
    (hr : Runs s t w h) (x : Thread → BitVec 512) (he : exec i s = .next (s.regs t w 1 fun h => h.wv d (x h))) :
    ∃ s' h', exec i s = .next s' ∧ OnlyThread s s' t h' ∧ h' = { h with v := h'.v, pc := h.pc + 1, charged := h.charged + 1 } ∧
      ∀ r, h'.rv r = if r = d then x h else h.rv r :=
  ⟨_, (h.wv d (x h)).adv 1, by rw [he, State.regs, hr.issue], onlyThread_setThread s t _, hr.wv_adv d (x h) 1, fun r => by
    rw [Thread.rv_adv, Thread.rv_wv]⟩

end Sys2Proof.Machine
end

section
/-! SUPPORT. What the value functions of the integer instructions compute (R190), and the bytes of a line register (R3, R194). -/

namespace Sys2Proof.Machine

/-! Products and counts (R190). -/

theorem sh_eq (b : U64) : sh b = (b &&& 63).toNat := by
  rw [BitVec.toNat_and]
  exact (Nat.and_two_pow_sub_one_eq_mod b.toNat 6).symm

theorem mul_eq_ofNat (a b : U64) : a * b = BitVec.ofNat 64 (a.toNat * b.toNat) := by
  apply BitVec.eq_of_toNat_eq
  rw [BitVec.toNat_mul, BitVec.toNat_ofNat]

/-- The unsigned product has at most 128 bits, so its high half is exact. -/
theorem mulHigh_unsigned (a b : U64) : mulHigh true a b = BitVec.ofNat 64 (a.toNat * b.toNat / 2 ^ 64) := by
  have hab : a.toNat * b.toNat < 2 ^ 64 * 2 ^ 64 := Nat.mul_lt_mul'' a.isLt b.isLt
  apply BitVec.eq_of_toNat_eq
  simp only [mulHigh, if_true, BitVec.toNat_setWidth, BitVec.toNat_ushiftRight, BitVec.toNat_mul, BitVec.toNat_ofNat,
    Nat.shiftRight_eq_div_pow]
  rw [Nat.mod_eq_of_lt (a := a.toNat) (by omega), Nat.mod_eq_of_lt (a := b.toNat) (by omega),
    Nat.mod_eq_of_lt (a := a.toNat * b.toNat) (by omega)]

/-- The high half of the low 128 bits of a number is the low half of its quotient by 2^64. -/
theorem high_half_ofInt (z : Int) : ((BitVec.ofInt 128 z) >>> 64).setWidth 64 = BitVec.ofInt 64 (z / 2 ^ 64) := by
  apply BitVec.eq_of_toNat_eq
  simp only [BitVec.toNat_setWidth, BitVec.toNat_ushiftRight, BitVec.toNat_ofInt, Nat.shiftRight_eq_div_pow]
  omega

theorem mulHigh_signed (a b : U64) : mulHigh false a b = BitVec.ofInt 64 (a.toInt * b.toInt / 2 ^ 64) := by
  rw [← high_half_ofInt, BitVec.ofInt_mul]
  rfl

/-- Of two values that agree where their keys are equal, a strict and a weak comparison of the keys choose the same one. -/
theorem ite_lt_eq_ite_le {α : Type} [LinearOrder α] {p q : α} {x y : U64} {c : Bool} (hc : c = true ↔ p < q) (he : p = q → x = y) :
    (if c then x else y) = if p ≤ q then x else y := by
  rcases lt_trichotomy p q with h | h | h
  · rw [if_pos (hc.mpr h), if_pos h.le]
  · rw [he h, ite_self, ite_self]
  · rw [if_neg (fun e => h.not_gt (hc.mp e)), if_neg h.not_ge]

theorem cmpeq_eq (a b : U64) : (if decide (a = b) then 1 else 0 : U64) = if a = b then 1 else 0 := by simp
theorem cmplt_eq (a b : U64) : (if a.slt b then 1 else 0 : U64) = if a.toInt < b.toInt then 1 else 0 :=
  if_congr BitVec.slt_iff_toInt_lt rfl rfl
theorem cmpltu_eq (a b : U64) : (if a.ult b then 1 else 0 : U64) = if a.toNat < b.toNat then 1 else 0 :=
  if_congr BitVec.ult_iff_toNat_lt rfl rfl

/-! Counting bits (R190). -/

theorem popCount_eq (a : U64) : popCount a = BitVec.ofNat 64 ((List.range 64).countP fun k => a.getLsbD k) := by
  rw [popCount, bitsOf, List.countP_eq_length_filter]; rfl

/-- The last set bit below `n` of a number below 2^n is its logarithm. -/
theorem getLast?_bitsOf (n v : Nat) (hv : v < 2 ^ n) : (bitsOf n v).getLast? = if v = 0 then none else some v.log2 := by
  induction n with
  | zero => obtain rfl : v = 0 := by omega
            rfl
  | succ n ih =>
    have hs : bitsOf (n + 1) v = bitsOf n v ++ [n].filter fun i => v.testBit i := by
      rw [bitsOf, List.range_succ, List.filter_append]; rfl
    by_cases h : v < 2 ^ n
    · have hb : v.testBit n = false := Nat.testBit_lt_two_pow h
      simp [hs, hb, ih h]
    · have h0 : v ≠ 0 := by have := Nat.two_pow_pos n; omega
      have hb : v.testBit n = true := Nat.testBit_of_two_pow_le_and_two_pow_add_one_gt (by omega) hv
      have hl : v.log2 = n := (Nat.log2_eq_iff h0).mpr ⟨by omega, hv⟩
      simp [hs, hb, h0, hl]

theorem leadZeros_eq (a : U64) : leadZeros a = if a = 0 then 64 else BitVec.ofNat 64 (63 - a.toNat.log2) := by
  rw [leadZeros, getLast?_bitsOf 64 _ a.isLt]
  by_cases h : a = 0
  · rw [h]; rfl
  · have h0 : a.toNat ≠ 0 := fun c => h (BitVec.eq_of_toNat_eq c)
    rw [if_neg h, if_neg h0]

/-- The index of the first set bit is the number of zero bits below it. -/
theorem trailZeros_eq (a : U64) : trailZeros a = BitVec.ofNat 64 (((List.range 64).takeWhile fun k => !a.getLsbD k).length) := by
  have hle : (List.range 64).findIdx a.getLsbD ≤ 64 := List.findIdx_le_length.trans_eq List.length_range
  have hhead : (bitsOf 64 a.toNat).head? = (List.range 64)[(List.range 64).findIdx a.getLsbD]? :=
    List.head?_filter.trans List.find?_eq_getElem?_findIdx
  rw [trailZeros, hhead, List.takeWhile_eq_take_findIdx_not]
  simp only [Bool.not_not, List.length_take, List.length_range]
  rcases Nat.lt_or_eq_of_le hle with h | h
  · rw [List.getElem?_range h, Nat.min_eq_left hle]
  · rw [h]; rfl

/-! Bytes (R3). -/

theorem length_toBytes (n v : Nat) : (toBytes n v).length = n := by
  induction n generalizing v with
  | zero => rfl
  | succ n ih => simp [toBytes, ih]

theorem getD_toBytes (n v k : Nat) (h : k < n) : (toBytes n v).getD k 0 = BitVec.ofNat 8 (v / 256 ^ k) := by
  induction n generalizing v k with
  | zero => omega
  | succ n ih =>
    cases k with
    | zero => simp [toBytes]
    | succ k => rw [toBytes, List.getD_cons_succ, ih _ _ (by omega), Nat.div_div_eq_div_mul, Nat.pow_succ']

theorem ofBytes_div (bs : List Byte) (k : Nat) : BitVec.ofNat 8 (ofBytes bs / 256 ^ k) = bs.getD k 0 := by
  induction bs generalizing k with
  | nil => simp [ofBytes]
  | cons b t ih =>
    have hb : b.toNat < 256 := b.isLt
    cases k with
    | zero => apply BitVec.eq_of_toNat_eq; simp [ofBytes]; omega
    | succ k =>
      rw [List.getD_cons_succ, ← ih, ofBytes, Nat.pow_succ', ← Nat.div_div_eq_div_mul]
      congr 2; omega

/-- A slice of a word is its low bits from the slice's place on. -/
theorem extractLsb'_eq_ofNat_div {w : Nat} (x : BitVec w) (o n : Nat) : x.extractLsb' o n = BitVec.ofNat n (x.toNat / 2 ^ o) := by
  apply BitVec.eq_of_toNat_eq
  rw [BitVec.extractLsb'_toNat, BitVec.toNat_ofNat, Nat.shiftRight_eq_div_pow]

theorem extractLsb'_byte {w : Nat} (x : BitVec w) (k : Nat) : x.extractLsb' (8 * k) 8 = BitVec.ofNat 8 (x.toNat / 256 ^ k) := by
  rw [extractLsb'_eq_ofNat_div, Nat.pow_mul]

theorem getD_bytesOfLine (v : BitVec 512) (k : Nat) (h : k < 64) : (bytesOfLine v).getD k 0 = v.extractLsb' (8 * k) 8 := by
  rw [bytesOfLine, getD_toBytes _ _ _ h, extractLsb'_byte]

theorem byte_lineOfBytes (bs : List Byte) (k : Nat) (h : k < 64) : (lineOfBytes bs).extractLsb' (8 * k) 8 = bs.getD k 0 := by
  rw [← ofBytes_div, show 256 ^ k = 2 ^ (8 * k) by rw [Nat.pow_mul]]
  refine BitVec.eq_of_getLsbD_eq fun j hj => ?_
  have hlt : j + 8 * k < 512 := by omega
  rw [BitVec.getLsbD_extractLsb', BitVec.getLsbD_ofNat, lineOfBytes, BitVec.getLsbD_ofNat, Nat.testBit_div_two_pow]
  simp [hj, hlt, Nat.add_comm]

/-- The bytes of a number, the first one lowest. -/
theorem ofNat_ofBytes_cons (n : Nat) (b : Byte) (bs : List Byte) :
    BitVec.ofNat (n + 8) (ofBytes (b :: bs)) = BitVec.ofNat n (ofBytes bs) ++ b := by
  have hb : b.toNat < 256 := b.isLt
  have hd : (b.toNat + 256 * ofBytes bs) / 256 = ofBytes bs := by omega
  apply BitVec.eq_of_toNat_eq
  rw [BitVec.toNat_append, ← Nat.shiftLeft_add_eq_or_of_lt b.isLt, Nat.shiftLeft_eq, BitVec.toNat_ofNat, BitVec.toNat_ofNat, ofBytes,
    Nat.pow_add, Nat.mul_comm (2 ^ n), Nat.mod_mul, hd]
  omega

theorem byteSwap_eq (a : U64) : byteSwap a =
    a.extractLsb' 0 8 ++ a.extractLsb' 8 8 ++ a.extractLsb' 16 8 ++ a.extractLsb' 24 8 ++ a.extractLsb' 32 8 ++
      a.extractLsb' 40 8 ++ a.extractLsb' 48 8 ++ a.extractLsb' 56 8 := by
  have hone (b : Byte) : BitVec.ofNat 8 (ofBytes [b]) = b := by simp [ofBytes]
  simp only [byteSwap, toBytes, List.reverse_cons, List.reverse_nil, List.nil_append, List.cons_append]
  rw [ofNat_ofBytes_cons 56, ofNat_ofBytes_cons 48, ofNat_ofBytes_cons 40, ofNat_ofBytes_cons 32, ofNat_ofBytes_cons 24,
    ofNat_ofBytes_cons 16, ofNat_ofBytes_cons 8, hone]
  simp only [extractLsb'_eq_ofNat_div, Nat.div_div_eq_div_mul]
  simp

/-! Parts of a line register (R194). -/

theorem vext_value (v : BitVec 512) (o n : Nat) :
    BitVec.ofNat 64 ((v.toNat >>> o) % 2 ^ n) = (v.extractLsb' o n).setWidth 64 := by
  apply BitVec.eq_of_toNat_eq
  rw [BitVec.toNat_ofNat, BitVec.toNat_setWidth, BitVec.extractLsb'_toNat]

/-- Bytes put over a list of bytes, inside it. -/
theorem getD_overwrite (bs cs : List Byte) (o k : Nat) (h : o + cs.length ≤ bs.length) :
    (bs.take o ++ cs ++ bs.drop (o + cs.length)).getD k 0 = if o ≤ k ∧ k < o + cs.length then cs.getD (k - o) 0 else bs.getD k 0 := by
  have ht : (bs.take o).length = o := by rw [List.length_take]; omega
  rcases Nat.lt_or_ge k o with h1 | h1
  · rw [if_neg (by omega), List.append_assoc, List.getD_append _ _ _ _ (by omega)]
    simp [List.getD_eq_getElem?_getD, h1]
  · rcases Nat.lt_or_ge k (o + cs.length) with h2 | h2
    · rw [if_pos ⟨h1, h2⟩, List.getD_append _ _ _ _ (by rw [List.length_append]; omega), List.getD_append_right _ _ _ _ (by omega), ht]
    · rw [if_neg (by omega), List.getD_append_right _ _ _ _ (by rw [List.length_append]; omega), List.length_append, ht]
      simp [List.getD_eq_getElem?_getD, List.getElem?_drop, Nat.add_sub_cancel' h2]

/-- The bytes of a line register after VINS put the low `n` bytes of `x` at byte `o`. -/
theorem vins_byte (v : BitVec 512) (x : U64) (o n k : Nat) (h : o + n ≤ 64) (hk : k < 64) :
    (lineOfBytes ((bytesOfLine v).take o ++ toBytes n x.toNat ++ (bytesOfLine v).drop (o + n))).extractLsb' (8 * k) 8 =
      if o ≤ k ∧ k < o + n then x.extractLsb' (8 * (k - o)) 8 else v.extractLsb' (8 * k) 8 := by
  have hlen : (toBytes n x.toNat).length = n := length_toBytes _ _
  have hover := getD_overwrite (bytesOfLine v) (toBytes n x.toNat) o k (by rw [hlen, bytesOfLine, length_toBytes]; exact h)
  rw [hlen] at hover
  rw [byte_lineOfBytes _ _ hk, hover]
  split
  case isTrue hin => rw [getD_toBytes _ _ _ (by omega), extractLsb'_byte]
  case isFalse => exact getD_bytesOfLine v k hk

end Sys2Proof.Machine
end

section
/-! The integer instructions and the moves of line registers (R190, R194). -/

namespace Sys2Proof.Machine

/-- 2^w bytes at a multiple of 2^w below 64 end within the line (R194). -/
theorem aligned_end_le {o w : Nat} (hw : w < 4) (ho : o < 64) (ha : o % 2 ^ w = 0) : o + 2 ^ w ≤ 64 := by
  interval_cases w <;> omega

theorem vmov_result {s : State} {t : Nat} {h : Thread} {d a : VReg} (hr : Runs s t (iword 0x3A d.toNat a.toNat 0 0 0 0) h) :
    ∃ s' h', exec (.vmov t d a) s = .next s' ∧ OnlyThread s s' t h' ∧ h' = { h with v := h'.v, pc := h.pc + 1, charged := h.charged + 1 } ∧
      ∀ r, h'.rv r = if r = d then h.rv a else h.rv r :=
  lineResult_of_regs hr (fun h => h.rv a) rfl

theorem vins_result {s : State} {t : Nat} {h : Thread} {d : VReg} {b : GReg} {i : Imm} {w : BitVec 2} (hi : i.toNat < 64)
    (ha : i.toNat % 2 ^ w.toNat = 0) (hr : Runs s t (iword 0x3C d.toNat 0 b.toNat 0 w.toNat i) h) :
    ∃ s' h', exec (.vins t d b i w) s = .next s' ∧ OnlyThread s s' t h' ∧
      h' = { h with v := h'.v, pc := h.pc + 1, charged := h.charged + 1 } ∧ (∀ r, r ≠ d → h'.rv r = h.rv r) ∧
      ∀ k < 64, (h'.rv d).extractLsb' (8 * k) 8 =
        if i.toNat ≤ k ∧ k < i.toNat + 2 ^ w.toNat then (h.rg b).extractLsb' (8 * (k - i.toNat)) 8
        else (h.rv d).extractLsb' (8 * k) 8 := by
  obtain ⟨s', h', he, honly, hframe, hv⟩ := lineResult_of_regs hr (i := .vins t d b i w) _ rfl
  refine ⟨s', h', he, honly, hframe, fun r hrd => by rw [hv, if_neg hrd], fun k hk => ?_⟩
  rw [hv, if_pos rfl]
  exact vins_byte _ _ _ _ _ (aligned_end_le w.isLt hi ha) hk

/-- Settles O1: every integer form is the register write of its value, which the lemmas on `mulHigh`, `popCount`, `leadZeros`, `trailZeros`,
`byteSwap` and the comparisons give; the line-register forms go byte by byte. -/
theorem registerResults : Obligations.RegisterResults := by
  unfold Obligations.RegisterResults
  refine ⟨fun t d a b c i x => ?_, fun t d a g b i w => ⟨?_, ?_, ?_⟩⟩
  · have hshift (hi : i.toNat ≤ 63) : i.toNat % 64 = i.toNat := Nat.mod_eq_of_lt (by omega)
    refine ⟨?add, ?sub, ?mul, ?mulhu, ?mulhs, ?and, ?or, ?xor, ?shl, ?shr, ?sar, ?rol, ?min, ?max, ?minu, ?maxu, ?addi, ?andi, ?ori,
      ?xori, ?shli, ?shri, ?lui, ?movi, ?popc, ?clz, ?ctz, ?bswap, ?sel, ?cmpeq, ?cmplt, ?cmpltu⟩
    case add => exact regResult_of_alu (fun _ => rfl) fun _ => rfl
    case sub => exact regResult_of_alu (fun _ => rfl) fun _ => rfl
    case mul => exact regResult_of_alu (fun _ => rfl) fun h => mul_eq_ofNat (h.rg a) (h.rg b)
    case mulhu => exact regResult_of_alu (fun _ => rfl) fun h => mulHigh_unsigned (h.rg a) (h.rg b)
    case mulhs => exact regResult_of_alu (fun _ => rfl) fun h => mulHigh_signed (h.rg a) (h.rg b)
    case and => exact regResult_of_alu (fun _ => rfl) fun _ => rfl
    case or => exact regResult_of_alu (fun _ => rfl) fun _ => rfl
    case xor => exact regResult_of_alu (fun _ => rfl) fun _ => rfl
    case shl => exact regResult_of_alu (fun _ => rfl) fun h => congrArg (h.rg a <<< ·) (sh_eq (h.rg b))
    case shr => exact regResult_of_alu (fun _ => rfl) fun h => congrArg (h.rg a >>> ·) (sh_eq (h.rg b))
    case sar => exact regResult_of_alu (fun _ => rfl) fun h => congrArg (h.rg a).sshiftRight (sh_eq (h.rg b))
    case rol => exact regResult_of_alu (fun _ => rfl) fun h => congrArg (h.rg a).rotateLeft (sh_eq (h.rg b))
    case min => exact regResult_of_alu (fun _ => rfl) fun h => ite_lt_eq_ite_le BitVec.slt_iff_toInt_lt BitVec.eq_of_toInt_eq
    case max => exact regResult_of_alu (fun _ => rfl) fun h =>
        ite_lt_eq_ite_le BitVec.slt_iff_toInt_lt fun e => (BitVec.eq_of_toInt_eq e).symm
    case minu => exact regResult_of_alu (fun _ => rfl) fun h => ite_lt_eq_ite_le BitVec.ult_iff_toNat_lt BitVec.eq_of_toNat_eq
    case maxu => exact regResult_of_alu (fun _ => rfl) fun h =>
        ite_lt_eq_ite_le BitVec.ult_iff_toNat_lt fun e => (BitVec.eq_of_toNat_eq e).symm
    case addi => exact regResult_of_alu (fun _ => rfl) fun _ => rfl
    case andi => exact regResult_of_alu (fun _ => rfl) fun _ => rfl
    case ori => exact regResult_of_alu (fun _ => rfl) fun _ => rfl
    case xori => exact regResult_of_alu (fun _ => rfl) fun _ => rfl
    case shli => exact fun hi => regResult_of_alu (fun _ => rfl) fun h => congrArg (h.rg a <<< ·) (hshift hi)
    case shri => exact fun hi => regResult_of_alu (fun _ => rfl) fun h => by rw [hshift hi]
    case lui => exact regResult_of_alu (fun _ => rfl) fun _ => rfl
    case movi => exact regResult_of_alu (fun _ => rfl) fun _ => rfl
    case popc => exact regResult_of_alu (fun _ => rfl) fun h => popCount_eq (h.rg a)
    case clz => exact regResult_of_alu (fun _ => rfl) fun h => leadZeros_eq (h.rg a)
    case ctz => exact regResult_of_alu (fun _ => rfl) fun h => trailZeros_eq (h.rg a)
    case bswap => exact regResult_of_alu (fun _ => rfl) fun h => byteSwap_eq (h.rg a)
    case sel => exact regResult_of_alu (fun _ => rfl) fun h => ite_not (h.rg c = 0) (h.rg a) (h.rg b)
    case cmpeq => exact regResult_of_alu (fun _ => rfl) fun h => cmpeq_eq (h.rg a) _
    case cmplt => exact regResult_of_alu (fun _ => rfl) fun h => cmplt_eq (h.rg a) _
    case cmpltu => exact regResult_of_alu (fun _ => rfl) fun h => cmpltu_eq (h.rg a) _
  · exact fun s h hr => vmov_result hr
  · exact fun _ _ => regResult_of_alu (fun _ => rfl) fun h => vext_value (h.rv a) _ _
  · exact fun hi ha s h hr => vins_result hi ha hr

end Sys2Proof.Machine
end

section
/-! The depth of the loop stack in the status word (R150, R192). -/

namespace Sys2Proof.Machine

/-- PSTAT copies the status word (R150). -/
theorem exec_pstat {s : State} {t : Nat} {h : Thread} {d : GReg} (hr : Runs s t (iword 0x64 d.toNat 0 0 0 0 0) h) :
    exec (.pstat t d) s = .next (s.setThread t ((h.wg d (s.status t h)).adv 1)) :=
  congrArg Host.Outcome.next (hr.issue fun h => s.setThread t ((h.wg d (s.status t h)).adv 1))

/-- A thread in invocation mode at the word PSTAT g1, with no loop open, whose invoking domain number is 2^26: the model keeps the number
as it is, though DOMAIN has 16 bits of the status word. -/
def wideDomainThread : Thread :=
  { g := .replicate 32 0, v := .replicate 8 0, h := .replicate 8 .invalid, pc := 0, ctl := false, unmir := false, dom := 2 ^ 26,
    charged := 0, loops := [], tx := none, img := [iword 0x64 1 0 0 0 0 0], decls := [], slot := 0, old := false, budget := 100,
    start := .control 0, began := 0, timeoutUs := 10, timedOut := false, wait := none, ready := none, healWait := none, relWait := none,
    posted := [], ended := none }

/-- The state after reset with that thread as thread 0. -/
def wideDomainState : State := { State.reset with eng := { State.reset.eng with threads := [(0, wideDomainThread)], badWords := [] } }

theorem wideDomain_runs : Runs wideDomainState 0 (iword 0x64 1 0 0 0 0 0) wideDomainThread := ⟨rfl, rfl, rfl, rfl, rfl⟩

/-- Its status word shows depth 1, for bit 26 of the domain number stands at bit 58. -/
theorem wideDomain_loopd : ((wideDomainState.status 0 wideDomainThread).extractLsb' 58 3).toNat = 1 := by decide +kernel

/-- Refutes O3: its clause on PSTAT supposes nothing of the thread's domain number, and a number of 2^26 or more reaches the bits of LOOPD.
With domain 2^26 and no loop open PSTAT reads a depth of 1. -/
theorem not_loopStack : ¬ Obligations.LoopStack := by
  unfold Obligations.LoopStack
  rintro ⟨-, hpstat⟩
  obtain ⟨s', h', he, ⟨-, hnow, -⟩, hdepth⟩ := hpstat 0 1 wideDomainState wideDomainThread wideDomain_runs (by decide) (by decide)
  obtain rfl := Host.Outcome.next.inj ((exec_pstat (d := 1) wideDomain_runs).symm.trans he)
  obtain rfl := Option.some.inj ((SMap.at?_put_same _ _ _).symm.trans hnow)
  rw [Thread.rg_adv, Thread.rg_wg, if_pos (by decide), wideDomain_loopd] at hdepth
  exact absurd hdepth (by decide)

end Sys2Proof.Machine
end

section
/-! SUPPORT. Entries of the line caches: what a write-back, a drop, a lock and its release do to an entry, and that they leave memory and the
engines alone (R202, R203, R242 to R245). -/

namespace Sys2Proof.Machine

@[simp] theorem Cache.entry_setEntry_same (x : Cache) (i : Nat) (e : CEntry) : (x.setEntry i e).entry i = e :=
  SMap.get_set_same _ _ _ _
@[simp] theorem Cache.entry_touch (x : Cache) (i j : Nat) : (x.touch i).entry j = x.entry j := rfl

/-- The entry holds nothing that a write-back would write. -/
def CEntry.clean (e : CEntry) : Prop := e.dirty = none ∨ e.line = none

namespace State

@[simp] theorem cache_setCache_same (s : State) (c : Nat) (x : Cache) : (s.setCache c x).cache c = x := SMap.get_set_same _ _ _ _
theorem cache_setCache_ne (s : State) {c k : Nat} (x : Cache) (h : k ≠ c) : (s.setCache c x).cache k = s.cache k :=
  SMap.get_set_ne _ _ _ _ h

/-! A write-back. -/

theorem eng_of_uncached {s u : State} (h : u.uncached = s.uncached) : u.eng = s.eng :=
  show u.uncached.eng = s.uncached.eng by rw [h]

@[simp] theorem poisonCount_caches (s : State) (r : Nat) (b : Bool) : (s.poisonCount r b).caches = s.caches := by simp [poisonCount]
@[simp] theorem poisonCount_dram (s : State) (r : Nat) (b : Bool) : (s.poisonCount r b).dram = s.dram := by simp [poisonCount]
@[simp] theorem clearPoison_caches (s : State) (l : Nat) : (s.clearPoison l).caches = s.caches := by
  unfold clearPoison; split
  · simp only; split <;> simp
  · rfl
@[simp] theorem clearPoison_mem (s : State) (l : Nat) : (s.clearPoison l).dram.mem = s.dram.mem := by
  unfold clearPoison; split
  · simp only; split <;> simp
  · rfl
@[simp] theorem wroteBack_caches (s : State) (c l : Nat) : (s.wroteBack c l).caches = s.caches := by simp [wroteBack]
@[simp] theorem wroteBack_mem (s : State) (c l : Nat) : (s.wroteBack c l).dram.mem = s.dram.mem := by simp [wroteBack]

/-- A write-back cleans the entry, or there is nothing to write back (R242). -/
theorem cacheClean_cases (s : State) (c i : Nat) :
    (∃ l, s.cacheClean c i = (s.setCache c ((s.cache c).setEntry i { (s.cache c).entry i with dirty := none })).wroteBack c l) ∨
      (((s.cache c).entry i).clean ∧ s.cacheClean c i = s) := by
  unfold cacheClean; simp only; split
  case h_1 l _ _ => exact .inl ⟨l, rfl⟩
  case h_2 hno =>
    refine .inr ⟨?_, rfl⟩
    unfold CEntry.clean
    cases hd : ((s.cache c).entry i).dirty with
    | none => exact .inl rfl
    | some old =>
      cases hl : ((s.cache c).entry i).line with
      | none => exact .inr rfl
      | some l => exact (hno old l hd hl).elim

theorem cacheClean_mem (s : State) (c i : Nat) : (s.cacheClean c i).dram.mem = s.dram.mem := by
  rcases cacheClean_cases s c i with ⟨l, h⟩ | ⟨-, h⟩ <;> rw [h]
  simp

theorem cacheClean_eng (s : State) (c i : Nat) : (s.cacheClean c i).eng = s.eng := by
  rcases cacheClean_cases s c i with ⟨l, h⟩ | ⟨-, h⟩ <;> rw [h]
  exact eng_of_uncached (by simp)

theorem clean_cacheClean (s : State) (c i : Nat) : (((s.cacheClean c i).cache c).entry i).clean := by
  rcases cacheClean_cases s c i with ⟨l, h⟩ | ⟨hc, h⟩ <;> rw [h]
  · rw [cache, wroteBack_caches, ← cache, cache_setCache_same, Cache.entry_setEntry_same]
    exact .inl rfl
  · exact hc

/-! A drop. -/

theorem cacheDrop_eng (s : State) (c i : Nat) : (s.cacheDrop c i).eng = s.eng := by
  unfold cacheDrop; simp only; split <;> split <;> rfl

/-- A clean entry is dropped without a change of memory (R247). -/
theorem cacheDrop_mem {s : State} {c i : Nat} (h : ((s.cache c).entry i).clean) : (s.cacheDrop c i).dram.mem = s.dram.mem := by
  have hno (old : List Byte) (l : Nat) (hd : ((s.cache c).entry i).dirty = some old) (hl : ((s.cache c).entry i).line = some l) : False := by
    rcases h with h | h
    · rw [h] at hd; cases hd
    · rw [h] at hl; cases hl
  unfold cacheDrop
  simp only -- `hno` rules out the alternative that restores the bytes
  split <;> rfl

/-! Locks (R203, R245). -/

theorem lockScratch_full {s : State} {c : Nat} (i : Nat) (h : 32 ≤ (s.cache c).locked) : s.lockScratch c i = (s, 1) := by
  simp [lockScratch, h]

theorem lockScratch_held {s : State} {c i : Nat} (h : (s.cache c).locked < 32) (hl : ((s.cache c).entry i).locked = true) :
    s.lockScratch c i = (s, 2) := by
  simp [lockScratch, h, hl]

/-- An entry locked as scratch: 64 bytes of 0. -/
def zeroScratch : CEntry := { CEntry.empty with locked := true, isScratch := true, scratch := List.replicate 64 0 }

theorem lockScratch_free {s : State} {c i : Nat} (h : (s.cache c).locked < 32) (hl : ((s.cache c).entry i).locked = false) :
    s.lockScratch c i = ((s.cacheClean c i).setCache c (((s.cacheClean c i).cache c).setEntry i zeroScratch), 0) := by
  simp [lockScratch, h, hl, zeroScratch]

theorem lockScratch_frame (s : State) (c i : Nat) :
    (s.lockScratch c i).1.eng = s.eng ∧ (s.lockScratch c i).1.dram.mem = s.dram.mem := by
  rcases Nat.lt_or_ge (s.cache c).locked 32 with h | h
  · cases hl : ((s.cache c).entry i).locked with
    | true => rw [lockScratch_held h hl]; exact ⟨rfl, rfl⟩
    | false => rw [lockScratch_free h hl]; exact ⟨cacheClean_eng s c i, cacheClean_mem s c i⟩
  · rw [lockScratch_full i h]; exact ⟨rfl, rfl⟩

theorem unlockScratch_held {s : State} {c i : Nat} (hl : ((s.cache c).entry i).locked = true)
    (hs : ((s.cache c).entry i).isScratch = true) : s.unlockScratch c i = (s.setCache c ((s.cache c).setEntry i .empty), 0) := by
  simp [unlockScratch, hl, hs]

theorem unlockScratch_none {s : State} {c i : Nat}
    (h : ((s.cache c).entry i).locked = false ∨ ((s.cache c).entry i).isScratch = false) : s.unlockScratch c i = (s, 1) := by
  rcases h with h | h <;> simp [unlockScratch, h]

theorem unlockScratch_frame (s : State) (c i : Nat) :
    (s.unlockScratch c i).1.eng = s.eng ∧ (s.unlockScratch c i).1.dram = s.dram := by
  unfold unlockScratch; simp only; split <;> exact ⟨rfl, rfl⟩

theorem lockPinned_held {s : State} {l : Nat}
    (h : ((s.cache (clusterOf l)).slotOf l).any (fun j => ((s.cache (clusterOf l)).entry j).locked) = true) :
    s.lockPinned l = (s, 2) := by
  simp [lockPinned, h]

theorem lockPinned_full {s : State} {l : Nat}
    (h : ((s.cache (clusterOf l)).slotOf l).any (fun j => ((s.cache (clusterOf l)).entry j).locked) = false)
    (hf : 32 ≤ (s.cache (clusterOf l)).locked) : s.lockPinned l = (s, 1) := by
  simp [lockPinned, h, hf]

/-- The state before a pinned lock is entered: the line's copy is written back and given up. -/
def pinReady (s : State) (l : Nat) : State :=
  match (s.cache (clusterOf l)).slotOf l with
  | some j => (s.cacheClean (clusterOf l) j).cacheDrop (clusterOf l) j
  | none => s

theorem pinReady_frame (s : State) (l : Nat) : (s.pinReady l).eng = s.eng ∧ (s.pinReady l).dram.mem = s.dram.mem := by
  unfold pinReady; split
  case h_1 j _ =>
    exact ⟨(cacheDrop_eng _ _ j).trans (cacheClean_eng s _ j),
      (cacheDrop_mem (clean_cacheClean s _ j)).trans (cacheClean_mem s _ j)⟩
  case h_2 => exact ⟨rfl, rfl⟩

/-- The highest-numbered unlocked entry of a cluster. -/
def pinSlot (x : Cache) : Nat := ((List.range 48).reverse.find? fun i => !(x.entry i).locked).getD 0

/-- The entry of a pinned line, which is filled at its next access. -/
def pinEntry (l : Nat) : CEntry := { CEntry.empty with line := some l, locked := true }

theorem lockPinned_free {s : State} {l : Nat}
    (h : ((s.cache (clusterOf l)).slotOf l).any (fun j => ((s.cache (clusterOf l)).entry j).locked) = false)
    (hf : (s.cache (clusterOf l)).locked < 32) :
    ∃ i u, u = (s.pinReady l).cacheClean (clusterOf l) i ∧
      s.lockPinned l = (u.setCache (clusterOf l) (((u.cache (clusterOf l)).setEntry i (pinEntry l)).touch i), 0) := by
  refine ⟨pinSlot ((s.pinReady l).cache (clusterOf l)), _, rfl, ?_⟩
  unfold lockPinned
  simp only [h, Nat.not_le.mpr hf, if_false, Bool.false_eq_true]
  rfl

/-- A lock leaves memory alone: what it gives up has been written back. -/
theorem lockPinned_frame (s : State) (l : Nat) : (s.lockPinned l).1.eng = s.eng ∧ (s.lockPinned l).1.dram.mem = s.dram.mem := by
  cases h : ((s.cache (clusterOf l)).slotOf l).any (fun j => ((s.cache (clusterOf l)).entry j).locked) with
  | true => rw [lockPinned_held h]; exact ⟨rfl, rfl⟩
  | false =>
    rcases Nat.lt_or_ge (s.cache (clusterOf l)).locked 32 with hf | hf
    · obtain ⟨i, u, rfl, he⟩ := lockPinned_free h hf
      obtain ⟨heng, hmem⟩ := pinReady_frame s l
      rw [he]
      exact ⟨(cacheClean_eng _ _ i).trans heng, (cacheClean_mem _ _ i).trans hmem⟩
    · rw [lockPinned_full h hf]; exact ⟨rfl, rfl⟩

theorem unlockPinned_held {s : State} {l j : Nat} (h : (s.cache (clusterOf l)).slotOf l = some j)
    (hl : ((s.cache (clusterOf l)).entry j).locked = true) : s.unlockPinned l =
      (s.setCache (clusterOf l) ((s.cache (clusterOf l)).setEntry j { (s.cache (clusterOf l)).entry j with locked := false }), 0) := by
  simp [unlockPinned, h, hl]

theorem unlockPinned_none {s : State} {l : Nat}
    (h : ∀ j, (s.cache (clusterOf l)).slotOf l = some j → ((s.cache (clusterOf l)).entry j).locked = false) :
    s.unlockPinned l = (s, 1) := by
  unfold unlockPinned; simp only; split
  case h_1 j hj => rw [h j hj]; rfl
  case h_2 => rfl

theorem unlockPinned_frame (s : State) (l : Nat) : (s.unlockPinned l).1.eng = s.eng ∧ (s.unlockPinned l).1.dram = s.dram := by
  unfold unlockPinned; simp only; split
  · split <;> exact ⟨rfl, rfl⟩
  · exact ⟨rfl, rfl⟩

end State

end Sys2Proof.Machine
end

section
/-! Scratch entries and locks (R196, R203, R243, R245). -/

namespace Sys2Proof.Machine

/-! Scratch entries. -/

/-- The entry of a scratch number, where it is locked as scratch. -/
theorem scratch?_eq_some {s : State} {i : Imm} {e : CEntry} :
    s.scratch? i = some e ↔
      (s.cache (i.toNat / 32 % 8)).entry (i.toNat % 32) = e ∧ e.locked = true ∧ e.isScratch = true := by
  unfold State.scratch?
  simp only [Option.ite_none_right_eq_some, Bool.and_eq_true, Option.some.injEq]
  constructor
  · rintro ⟨⟨hl, hs⟩, rfl⟩; exact ⟨rfl, hl, hs⟩
  · rintro ⟨rfl, hl, hs⟩; exact ⟨⟨hl, hs⟩, rfl⟩

/-- A scratch number reads the entry that was put in its place. -/
theorem scratch?_setCache (u : State) (i : Imm) (x : Cache) (e : CEntry) (hl : e.locked = true) (hs : e.isScratch = true) :
    (u.setCache (i.toNat / 32 % 8) (x.setEntry (i.toNat % 32) e)).scratch? i = some e :=
  scratch?_eq_some.mpr ⟨by rw [State.cache_setCache_same, Cache.entry_setEntry_same], hl, hs⟩

theorem eng_of_quiet {s u : State} (h : u.quiet = s.quiet) : u.eng = s.eng :=
  show u.quiet.eng = s.quiet.eng by rw [h]
theorem dram_of_quiet {s u : State} (h : u.quiet = s.quiet) : u.dram = s.dram :=
  show u.quiet.dram = s.quiet.dram by rw [h]
theorem caches_of_quiet {s u : State} (h : u.quiet = s.quiet) : u.caches = s.caches :=
  show u.quiet.caches = s.quiet.caches by rw [h]

/-- How many words of an entry have a double-bit error. -/
def CEntry.doubleErrors (e : CEntry) : Nat := (e.ecc.filter (·.2)).length

theorem doubleErrors_eq_zero {e : CEntry} : e.doubleErrors = 0 ↔ e.ecc.any (·.2) = false := by
  simp [CEntry.doubleErrors]

/-- What a read of the words of an entry counts and posts (R243). -/
def eccCounted (s : State) (c i : Nat) (e : CEntry) : State :=
  let n1 := e.ecc.length - e.doubleErrors
  let u := if n1 = 0 then s else (s.bump F.CCH_ECC_CORR c n1).reachEvent 0x0501 c [c] n1
  if e.doubleErrors = 0 then u else (u.bump F.CCH_ECC_UNCORR c e.doubleErrors).event 0x0502 [c, i, 3]

theorem eccCounted_quiet (s : State) (c i : Nat) (e : CEntry) : (eccCounted s c i e).quiet = s.quiet := by
  unfold eccCounted; simp only
  split <;> split <;> simp

/-- Without a double-bit error no event is posted: only counters and the reach change. -/
theorem eccCounted_frame (s : State) (c i : Nat) {e : CEntry} (he : e.doubleErrors = 0) :
    eccCounted s c i e = { s with ctl := (eccCounted s c i e).ctl, reach := (eccCounted s c i e).reach } := by
  obtain ⟨m, hm⟩ : ∃ m, s.bump F.CCH_ECC_CORR c (e.ecc.length - e.doubleErrors) = { s with ctl := m } :=
    ⟨_, State.bump_frame _ _ _ _ _⟩
  simp only [eccCounted, hm, if_pos he]
  split <;> rfl

/-- An entry once its words have been read: corrected, or poisoned by a double-bit error (R243). -/
def CEntry.afterRead (e : CEntry) : CEntry := { e with ecc := [], poisoned := e.poisoned || e.doubleErrors != 0 }

theorem poisoned_afterRead {e : CEntry} (h : e.poisoned = true ∨ e.ecc.any (·.2) = true) : e.afterRead.poisoned = true := by
  have hn : e.ecc.any (·.2) = true → e.doubleErrors ≠ 0 := fun he h0 => by
    rw [doubleErrors_eq_zero.mp h0] at he; cases he
  rcases h with h | h
  · simp [CEntry.afterRead, h]
  · simp [CEntry.afterRead, hn h]

theorem afterRead_of_sound {e : CEntry} (hp : e.poisoned = false) (he : e.ecc.any (·.2) = false) : e.afterRead = { e with ecc := [] } := by
  simp [CEntry.afterRead, hp, doubleErrors_eq_zero.mpr he]

theorem scratchRead_eq (s : State) (c i : Nat) : s.scratchRead c i =
    (eccCounted s c i ((s.cache c).entry i)).setCache c ((s.cache c).setEntry i ((s.cache c).entry i).afterRead) := by
  have hc : (eccCounted s c i ((s.cache c).entry i)).cache c = s.cache c := by
    rw [State.cache, State.cache, caches_of_quiet (eccCounted_quiet s c i _)]
  calc s.scratchRead c i
    _ = (eccCounted s c i ((s.cache c).entry i)).setCache c
          (((eccCounted s c i ((s.cache c).entry i)).cache c).setEntry i ((s.cache c).entry i).afterRead) := rfl
    _ = _ := by rw [hc]

theorem scratchRead_eng (s : State) (c i : Nat) : (s.scratchRead c i).eng = s.eng := by
  rw [scratchRead_eq, State.setCache_eng]
  exact eng_of_quiet (eccCounted_quiet s c i _)

theorem scratchRead_dram (s : State) (c i : Nat) : (s.scratchRead c i).dram = s.dram := by
  rw [scratchRead_eq, State.setCache_dram]
  exact dram_of_quiet (eccCounted_quiet s c i _)

theorem scratchRead_scratch? {s : State} {i : Imm} {e : CEntry} (he : s.scratch? i = some e) :
    (s.scratchRead (i.toNat / 32 % 8) (i.toNat % 32)).scratch? i = some e.afterRead := by
  obtain ⟨rfl, hl, hs⟩ := scratch?_eq_some.mp he
  rw [scratchRead_eq]
  exact scratch?_setCache _ i _ _ hl hs

theorem scratchRead_frame {s : State} {c i : Nat} (he : ((s.cache c).entry i).ecc.any (·.2) = false) :
    s.scratchRead c i = { s with ctl := (s.scratchRead c i).ctl, reach := (s.scratchRead c i).reach, caches := (s.scratchRead c i).caches } := by
  rw [scratchRead_eq, eccCounted_frame s c i (doubleErrors_eq_zero.mpr he)]; rfl

/-! LDL.X and STL.X (R196). -/

section
variable {s : State} {t : Nat} {h : Thread} {v : VReg} {i : Imm} {e : CEntry}

theorem exec_ldlX : exec (.ldlX t v i) s = execLdlX t v i s := rfl
theorem exec_stlX : exec (.stlX t v i) s = execStlX t v i s := rfl

theorem ldlX_outside_control (hr : Runs s t (iword 0x38 v.toNat 0 0 0 1 i) h) (hc : h.ctl = false) :
    FaultsWith (.ldlX t v i) s t h 0x09 := faultsWith_of_exec <| by
  rw [exec_ldlX, execLdlX, hr.issue, hc]; rfl

theorem ldlX_not_scratch (hr : Runs s t (iword 0x38 v.toNat 0 0 0 1 i) h) (hc : h.ctl = true) (he : s.scratch? i = none) :
    FaultsWith (.ldlX t v i) s t h 0x02 := faultsWith_of_exec <| by
  rw [exec_ldlX, execLdlX, hr.issue, hc, he]; rfl

/-- A read of an entry that is poisoned, or that it finds poisoned, ends the program with 0x06 (R243). -/
theorem exec_ldlX_poisoned (hr : Runs s t (iword 0x38 v.toNat 0 0 0 1 i) h) (hc : h.ctl = true) (he : s.scratch? i = some e)
    (hp : e.poisoned = true ∨ e.ecc.any (·.2) = true) :
    exec (.ldlX t v i) s = .next ((s.scratchRead (i.toNat / 32 % 8) (i.toNat % 32)).fault t h 0x06) := by
  have hbad : (e.poisoned || e.ecc.any (·.2)) = true := Bool.or_eq_true_iff.mpr hp
  rw [exec_ldlX, execLdlX, hr.issue, hc, he]
  simp only [hbad]; rfl

theorem exec_ldlX_sound (hr : Runs s t (iword 0x38 v.toNat 0 0 0 1 i) h) (hc : h.ctl = true) (he : s.scratch? i = some e)
    (hp : e.poisoned = false) (hecc : e.ecc.any (·.2) = false) : exec (.ldlX t v i) s =
      .next ((s.scratchRead (i.toNat / 32 % 8) (i.toNat % 32)).setThread t ((h.wv v (lineOfBytes e.scratch)).adv 1)) := by
  rw [exec_ldlX, execLdlX, hr.issue, hc, he]
  simp only [hp, hecc]; rfl

theorem stlX_outside_control (hr : Runs s t (iword 0x39 0 0 v.toNat 0 1 i) h) (hc : h.ctl = false) :
    FaultsWith (.stlX t v i) s t h 0x09 := faultsWith_of_exec <| by
  rw [exec_stlX, execStlX, hr.issue, hc]; rfl

theorem stlX_not_scratch (hr : Runs s t (iword 0x39 0 0 v.toNat 0 1 i) h) (hc : h.ctl = true) (he : s.scratch? i = none) :
    FaultsWith (.stlX t v i) s t h 0x02 := faultsWith_of_exec <| by
  rw [exec_stlX, execStlX, hr.issue, hc, he]; rfl

/-- A write leaves the entry without error (R243). -/
def CEntry.written (e : CEntry) (bs : List Byte) : CEntry := { e with scratch := bs, poisoned := false, ecc := [] }

theorem exec_stlX_scratch (hr : Runs s t (iword 0x39 0 0 v.toNat 0 1 i) h) (hc : h.ctl = true) (he : s.scratch? i = some e) :
    exec (.stlX t v i) s = .next ((s.setCache (i.toNat / 32 % 8) ((s.cache (i.toNat / 32 % 8)).setEntry (i.toNat % 32)
      (e.written (toBytes 64 (h.rv v).toNat)))).setThread t (h.adv 1)) := by
  rw [exec_stlX, execStlX, hr.issue, hc, he]; rfl

theorem ldlX_poisoned (hr : Runs s t (iword 0x38 v.toNat 0 0 0 1 i) h) (hc : h.ctl = true) (he : s.scratch? i = some e)
    (hp : e.poisoned = true ∨ e.ecc.any (·.2) = true) :
    ∃ s', exec (.ldlX t v i) s = .next s' ∧ ThreadNow s s' t { h with ended := some ⟨Code.programFault, 0x06, 0⟩ } ∧ s'.dram = s.dram ∧
      ∃ e', s'.scratch? i = some e' ∧ e'.poisoned = true ∧ e'.scratch = e.scratch :=
  ⟨_, exec_ldlX_poisoned hr hc he hp, threadNow_setThread (scratchRead_eng _ _ _) t _, scratchRead_dram _ _ _,
    e.afterRead, scratchRead_scratch? he, poisoned_afterRead hp, rfl⟩

theorem ldlX_sound (hr : Runs s t (iword 0x38 v.toNat 0 0 0 1 i) h) (hc : h.ctl = true) (he : s.scratch? i = some e)
    (hp : e.poisoned = false) (hecc : e.ecc.any (·.2) = false) : ∃ s' h', exec (.ldlX t v i) s = .next s' ∧
      s' = { s with ctl := s'.ctl, reach := s'.reach, caches := s'.caches, eng := { s.eng with threads := s'.eng.threads } } ∧
      ThreadNow s s' t h' ∧ s'.scratch? i = some { e with ecc := [] } ∧
      h' = { h with v := h'.v, pc := h.pc + 1, charged := h.charged + 1 } ∧
      ∀ r, h'.rv r = if r = v then BitVec.ofNat 512 (ofBytes e.scratch) else h.rv r := by
  have hentry : ((s.cache (i.toNat / 32 % 8)).entry (i.toNat % 32)).ecc.any (·.2) = false := by
    rw [(scratch?_eq_some.mp he).1]; exact hecc
  refine ⟨_, _, exec_ldlX_sound hr hc he hp hecc, ?_, threadNow_setThread (scratchRead_eng _ _ _) t _, ?_, hr.wv_adv v _ 1, fun r => ?_⟩
  · rw [scratchRead_frame hentry]; rfl
  · rw [State.setThread_scratch?, scratchRead_scratch? he, afterRead_of_sound hp hecc]
  · rw [Thread.rv_adv, Thread.rv_wv]; rfl

theorem stlX_writes (hr : Runs s t (iword 0x39 0 0 v.toNat 0 1 i) h) (hc : h.ctl = true) (he : s.scratch? i = some e) :
    ∃ s', exec (.stlX t v i) s = .next s' ∧ s' = { s with caches := s'.caches, eng := { s.eng with threads := s'.eng.threads } } ∧
      s'.thread? t = some { h with pc := h.pc + 1, charged := h.charged + 1 } ∧ (∀ u, u ≠ t → s'.thread? u = s.thread? u) ∧
      s'.scratch? i = some { e with scratch := toBytes 64 (h.rv v).toNat, poisoned := false, ecc := [] } ∧
      ∀ c, c ≠ i.toNat / 32 % 8 → s'.cache c = s.cache c := by
  obtain ⟨-, hl, hs⟩ := scratch?_eq_some.mp he
  obtain ⟨hself, hothers⟩ := threadNow_setThread (s := s) (u := s.setCache (i.toNat / 32 % 8)
    ((s.cache (i.toNat / 32 % 8)).setEntry (i.toNat % 32) (e.written (toBytes 64 (h.rv v).toNat)))) rfl t (h.adv 1)
  exact ⟨_, exec_stlX_scratch hr hc he, rfl, hself.trans (congrArg some (Thread.goto_of_inTime hr.inTime 1 _)), hothers,
    scratch?_setCache s i _ _ hl hs, fun c hne => State.cache_setCache_ne s _ hne⟩

end

end Sys2Proof.Machine
end

section
/-! CLOCK and CUNLK (R203, R245). -/

namespace Sys2Proof.Machine

/-- The end of CLOCK and CUNLK: the state and the code that the lock operation gave, the code in g[d]. -/
def lockDone (t : Nat) (h : Thread) (d : GReg) (r : State × Nat) : State := r.1.setThread t ((h.wg d (BitVec.ofNat 64 r.2)).adv 4)

@[simp] theorem lockDone_cache (t : Nat) (h : Thread) (d : GReg) (r : State × Nat) (c : Nat) :
    (lockDone t h d r).cache c = r.1.cache c := rfl

section
variable {s : State} {t opc : Nat} {w : U64} {h : Thread} {d : GReg} {hd : HReg} {a : GReg} {i : Imm}

theorem lockDone_thread (hr : Runs s t w h) {r : State × Nat} (he : r.1.eng = s.eng) :
    ∃ h', ThreadNow s (lockDone t h d r) t h' ∧ Next h h' 4 ∧ Writes h h' d (BitVec.ofNat 64 r.2) :=
  ⟨_, threadNow_setThread he t _, hr.next_wg_adv d _ 4, writes_wg_adv h d _ 4⟩

theorem lockOp_scratch (pin : State → Nat → State × Nat) (scr : State → Nat → Nat → State × Nat)
    (hr : Runs s t (iword opc d.toNat a.toNat 0 hd.toNat 1 i) h) (hc : h.ctl = true) (hi : i.toNat < 256) :
    s.lockOp t opc d hd a i true pin scr = lockDone t h d (scr s (i.toNat / 32) (i.toNat % 32)) := by
  have hcluster : i.toNat / 32 % 8 = i.toNat / 32 := Nat.mod_eq_of_lt (by omega)
  rw [State.lockOp, State.ctlOnly, show b2n true = 1 from rfl, hr.issue, if_pos hc, hcluster]; rfl

theorem lockOp_pinned (pin : State → Nat → State × Nat) (scr : State → Nat → Nat → State × Nat)
    (hr : Runs s t (iword opc d.toNat a.toNat 0 hd.toNat 0 i) h) (hc : h.ctl = true) {dm r base len rd wr at_ o}
    (hh : h.rh hd = .region dm r base len rd wr at_) (he : s.ea (h.rh hd) (offsetOf h a i) 64 .read 64 = .inl o) :
    s.lockOp t opc d hd a i false pin scr = lockDone t h d (pin s ((s.place r (s.regByte dm r (base + o))).2 / 64)) := by
  rw [State.lockOp, State.ctlOnly, show b2n false = 0 from rfl, hr.issue, if_pos hc]
  rw [← show State.off h a i = offsetOf h a i from rfl] at he
  rw [hh] at he ⊢
  simp only [he]; rfl

/-! Scratch locks. -/

theorem clock_scratch (hr : Runs s t (iword 0x7B d.toNat a.toNat 0 hd.toNat 1 i) h) (hc : h.ctl = true) (hi : i.toNat < 256) :
    let c := i.toNat / 32
    let e := i.toNat % 32
    ∃ s' h', exec (.clock t d hd a i true) s = .next s' ∧ ThreadNow s s' t h' ∧ Next h h' 4 ∧ MemorySame s s' ∧
      (32 ≤ (s.cache c).locked → s'.caches = s.caches ∧ Writes h h' d 1) ∧
      ((s.cache c).locked < 32 → ((s.cache c).entry e).locked = true → Writes h h' d 2 ∧ s'.caches = s.caches) ∧
      ((s.cache c).locked < 32 → ((s.cache c).entry e).locked = false → Writes h h' d 0 ∧
        ((s'.cache c).entry e).locked = true ∧ ((s'.cache c).entry e).isScratch = true ∧
        ((s'.cache c).entry e).scratch = List.replicate 64 0) := by
  intro c e
  obtain ⟨heng, hmem⟩ := State.lockScratch_frame s c e
  obtain ⟨h', hnow, hnext, hw⟩ := lockDone_thread (d := d) hr heng
  refine ⟨_, h', congrArg Host.Outcome.next (lockOp_scratch _ _ hr hc hi), hnow, hnext, fun x => congrArg (·.get 0 x) hmem, fun hf => ?_,
    fun hf hl => ?_, fun hf hl => ?_⟩
  · rw [State.lockScratch_full e hf] at hw ⊢; exact ⟨rfl, hw⟩
  · rw [State.lockScratch_held hf hl] at hw ⊢; exact ⟨hw, rfl⟩
  · rw [State.lockScratch_free hf hl] at hw ⊢
    rw [lockDone_cache, State.cache_setCache_same, Cache.entry_setEntry_same]
    exact ⟨hw, rfl, rfl, rfl⟩

theorem cunlk_scratch (hr : Runs s t (iword 0x7C d.toNat a.toNat 0 hd.toNat 1 i) h) (hc : h.ctl = true) (hi : i.toNat < 256) :
    let c := i.toNat / 32
    let e := i.toNat % 32
    ∃ s' h', exec (.cunlk t d hd a i true) s = .next s' ∧ ThreadNow s s' t h' ∧ Next h h' 4 ∧ s'.dram = s.dram ∧
      (((s.cache c).entry e).locked = true → ((s.cache c).entry e).isScratch = true → Writes h h' d 0 ∧
        ((s'.cache c).entry e).locked = false) ∧
      ((((s.cache c).entry e).locked = false ∨ ((s.cache c).entry e).isScratch = false) → Writes h h' d 1 ∧ s'.caches = s.caches) := by
  intro c e
  obtain ⟨heng, hdram⟩ := State.unlockScratch_frame s c e
  obtain ⟨h', hnow, hnext, hw⟩ := lockDone_thread (d := d) hr heng
  refine ⟨_, h', congrArg Host.Outcome.next (lockOp_scratch _ _ hr hc hi), hnow, hnext, hdram, fun hl hs => ?_, fun hno => ?_⟩
  · rw [State.unlockScratch_held hl hs] at hw ⊢
    rw [lockDone_cache, State.cache_setCache_same, Cache.entry_setEntry_same]
    exact ⟨hw, rfl⟩
  · rw [State.unlockScratch_none hno] at hw ⊢; exact ⟨hw, rfl⟩

/-! Pinned locks. -/

theorem clock_pinned (hr : Runs s t (iword 0x7B d.toNat a.toNat 0 hd.toNat 0 i) h) (hc : h.ctl = true) {dm r base len rd wr at_ o}
    (hh : h.rh hd = .region dm r base len rd wr at_) (he : s.ea (h.rh hd) (offsetOf h a i) 64 .read 64 = .inl o) :
    let l := (s.place r (s.regByte dm r (base + o))).2 / 64
    let c := clusterOf l
    ∃ s' h', exec (.clock t d hd a i false) s = .next s' ∧ ThreadNow s s' t h' ∧ Next h h' 4 ∧
      (((s.cache c).slotOf l).any (fun j => ((s.cache c).entry j).locked) = true → Writes h h' d 2 ∧ s'.caches = s.caches) ∧
      (((s.cache c).slotOf l).any (fun j => ((s.cache c).entry j).locked) = false →
        (32 ≤ (s.cache c).locked → Writes h h' d 1 ∧ s'.caches = s.caches) ∧
        ((s.cache c).locked < 32 → Writes h h' d 0 ∧ MemorySame s s' ∧ ∃ j, ((s'.cache c).entry j).line = some l ∧
          ((s'.cache c).entry j).locked = true ∧ ((s'.cache c).entry j).isScratch = false)) := by
  intro l c
  obtain ⟨heng, hmem⟩ := State.lockPinned_frame s l
  obtain ⟨h', hnow, hnext, hw⟩ := lockDone_thread (d := d) hr heng
  refine ⟨_, h', congrArg Host.Outcome.next (lockOp_pinned _ _ hr hc hh he), hnow, hnext, fun hl => ?_,
    fun hl => ⟨fun hf => ?_, fun hf => ?_⟩⟩
  · rw [State.lockPinned_held hl] at hw ⊢; exact ⟨hw, rfl⟩
  · rw [State.lockPinned_full hl hf] at hw ⊢; exact ⟨hw, rfl⟩
  · obtain ⟨j, u, -, hlock⟩ := State.lockPinned_free hl hf
    rw [hlock] at hw hmem ⊢
    refine ⟨hw, fun x => congrArg (·.get 0 x) hmem, j, ?_⟩
    rw [lockDone_cache, State.cache_setCache_same, Cache.entry_touch, Cache.entry_setEntry_same]
    exact ⟨rfl, rfl, rfl⟩

theorem cunlk_pinned (hr : Runs s t (iword 0x7C d.toNat a.toNat 0 hd.toNat 0 i) h) (hc : h.ctl = true) {dm r base len rd wr at_ o}
    (hh : h.rh hd = .region dm r base len rd wr at_) (he : s.ea (h.rh hd) (offsetOf h a i) 64 .read 64 = .inl o) :
    let l := (s.place r (s.regByte dm r (base + o))).2 / 64
    let c := clusterOf l
    ∃ s' h', exec (.cunlk t d hd a i false) s = .next s' ∧ ThreadNow s s' t h' ∧ Next h h' 4 ∧ s'.dram = s.dram ∧
      (∀ j, (s.cache c).slotOf l = some j → ((s.cache c).entry j).locked = true → Writes h h' d 0 ∧
        (s'.cache c).entry j = { (s.cache c).entry j with locked := false }) ∧
      ((∀ j, (s.cache c).slotOf l = some j → ((s.cache c).entry j).locked = false) → Writes h h' d 1 ∧ s'.caches = s.caches) := by
  intro l c
  obtain ⟨heng, hdram⟩ := State.unlockPinned_frame s l
  obtain ⟨h', hnow, hnext, hw⟩ := lockDone_thread (d := d) hr heng
  refine ⟨_, h', congrArg Host.Outcome.next (lockOp_pinned _ _ hr hc hh he), hnow, hnext, hdram, fun j hj hl => ?_, fun hno => ?_⟩
  · rw [State.unlockPinned_held hj hl] at hw ⊢
    rw [lockDone_cache, State.cache_setCache_same, Cache.entry_setEntry_same]
    exact ⟨hw, rfl⟩
  · rw [State.unlockPinned_none hno] at hw ⊢; exact ⟨hw, rfl⟩

end

/-- Settles O7: a read of a scratch entry changes what `scratchRead_eq` says, and each lock operation gives one of the outcomes that the lemmas
on `lockScratch`, `unlockScratch`, `lockPinned` and `unlockPinned` tell apart; a line that a pinned lock displaces has been written back, so
memory stays. -/
theorem scratchAndLocks : Obligations.ScratchAndLocks := by
  unfold Obligations.ScratchAndLocks
  refine ⟨fun s t h v i => ⟨fun hr => ⟨?_, ?_, ?_, ?_⟩, fun hr => ⟨?_, ?_, ?_⟩⟩, fun s t h d hr a i hc => ⟨fun hi => ⟨?_, ?_⟩, ?_⟩⟩
  · exact ldlX_outside_control hr
  · exact ldlX_not_scratch hr
  · exact fun e => ldlX_poisoned hr
  · exact fun e => ldlX_sound hr
  · exact stlX_outside_control hr
  · exact stlX_not_scratch hr
  · exact fun e => stlX_writes hr
  · exact fun hrun => clock_scratch hrun hc hi
  · exact fun hrun => cunlk_scratch hrun hc hi
  · intro dm r base len rd wr at_ o hh he
    exact ⟨fun hrun => clock_pinned hrun hc hh he, fun hrun => cunlk_pinned hrun hc hh he⟩

end Sys2Proof.Machine
end
